-- ==== Sys2Proof/Word.lean ====
section
/-! DEFINITION. The widths the EB2632 has: a byte of the host bus or of a frame, a 16-bit field or counter, the 32-bit
timestamp. -/

namespace Sys2Proof

/-- A byte-wide register, or one byte of a frame (R1, R168). -/
abbrev Byte := BitVec 8

/-- A 16-bit field, counter or register (R35, R65, R169). -/
abbrev Half := BitVec 16

/-- The timestamp (R153). -/
abbrev Stamp := BitVec 32

end Sys2Proof
end

