-- ==== Sys2Proof/Config.lean ====
section
/-! DEFINITION. What is fixed for every EB2632, and the one value the manual leaves open. -/

namespace Sys2Proof.Config

/-- ID register (register map of R168). -/
def identity : Byte := 0x32

/-- REVISION register (register map of R168). -/
def revision : Byte := 0x01

/-- Free buffers SUBMIT may not take (R111). -/
def reserve : Nat := 2

/-- Records the event queue holds (R158). -/
def queueDepth : Nat := 32

/-- Rising XREF edges from STARTING to PRESENT (R142). -/
def xrefEdges : Nat := 4096

/-- IOSC periods without an edge after which XREF is lost (R142). -/
def xrefSilence : Nat := 16

/-- The count at which the idle count of a line holds (R7). -/
def idleCeiling : Nat := 256

/-- Samples that are left of a stop bit at its fifth sample, where the character is delivered (R3, R5). -/
def stopTail : Nat := 3

/-- Bit times after a character's stop bit within which its echo is judged (R11). -/
def echoPatience : Nat := 2

/-- FREE VALUE (assumption log 12). The byte at position `k` of a buffer's payload that the frame did not write, for the
`n`-th buffer claimed for a reply: R108 says only that it is not what an earlier use of the buffer left there. -/
opaque unwrittenByte : Nat → Nat → Byte

end Sys2Proof.Config
end

