-- ==== Sys2Proof/Syntax.lean ====
section
/-! DEFINITION. The commands of the part: one constructor per row of spec/opcode_table.json, with the operands the row's
rule reads from outside the part. Arguments that a command takes from ARG0 and ARG1 stand in those registers (R174), not
here. -/

namespace Sys2Proof

/-- The two serial lines (line index 0 and 1). -/
inductive Line where
  | a
  | b
  deriving DecidableEq, Repr

/-- The two clock sources (R141). -/
inductive Source where
  | iosc
  | xref
  deriving DecidableEq, Repr

/-- Samples 3, 4 and 5 of one bit on the receive pin, from which the receiver takes the majority (R3 to R5). -/
structure Vote where
  s3 : Bool
  s4 : Bool
  s5 : Bool
  deriving DecidableEq, Repr

/-- Samples 2 to 5 of a start bit on the receive pin: the majority of 3 to 5 confirms it (R3), and the idle count of a false one
begins after the last that read 0 (R7). -/
structure EdgeSamples where
  s2   : Bool
  vote : Vote
  deriving DecidableEq, Repr

/-- The samples of one whole character that the receiver judges: start bit, data bits 0 to 7, mark bit, stop bit (R1). -/
structure CharSamples where
  start : Vote
  data  : Vector Vote 8
  mark  : Vote
  stop  : Vote
  deriving DecidableEq, Repr

/-- The three 16-bit registers of the window (R169). -/
inductive WideReg where
  | eventMask
  | tickDivIosc
  | tickDivXref
  deriving DecidableEq, Repr

/-- The two registers whose write selects an access-port object (R171). -/
inductive SelectReg where
  | object
  | index
  deriving DecidableEq, Repr

/-- One constructor per row of spec/opcode_table.json. -/
inductive Instr where
  /-- DEVICE_RESET (R38). -/
  | deviceReset
  /-- SUBMIT (R92): a write of 0x01 to CMD. -/
  | submit
  /-- RETIRE (R100): 0x02. -/
  | retire
  /-- ABORT (R101): 0x03. -/
  | abort
  /-- DROP_ENABLE (R30): 0x10. -/
  | dropEnable
  /-- DROP_DISABLE (R31): 0x11. -/
  | dropDisable
  /-- LINE_START (R128): 0x20. -/
  | lineStart
  /-- LINE_STANDBY (R129): 0x21. -/
  | lineStandby
  /-- LINE_STOP (R129): 0x22. -/
  | lineStop
  /-- LINE_RESET (R176): 0x23. -/
  | lineReset
  /-- LINE_RESET_TAKES_EFFECT (R139). -/
  | lineResetTakesEffect
  /-- SCHED_SWAP (R78): 0x30. -/
  | schedSwap
  /-- TRIGGER_CYCLE (R71): 0x31. -/
  | triggerCycle
  /-- READY_OPEN (R120): 0x40. -/
  | readyOpen
  /-- READY_RELEASE (R123): 0x41. -/
  | readyRelease
  /-- CLEAR_COUNTERS (R36): 0x50. -/
  | clearCounters
  /-- SOFT_RESET (R176): 0x60. -/
  | softReset
  /-- SOFT_RESET_TAKES_EFFECT (R177). -/
  | softResetTakesEffect
  /-- BAD_COMMAND (R174): a write of a code that names no command. -/
  | badCommand (code : Byte)
  /-- CMD_OVERRUN (R175): a write to CMD while the command unit is BUSY. -/
  | cmdOverrun (code : Byte)
  /-- SUMMARY_READ (R165). -/
  | summaryRead
  /-- SUMMARY_CLEAR (R166). -/
  | summaryClear (mask : Byte)
  /-- EVENT_POP (R159). -/
  | eventPop (value : Byte)
  /-- TIMESTAMP_READ (R170): a read of TIMESTAMP0. -/
  | timestampRead
  /-- ACCESS_SELECT (R171). -/
  | accessSelect (reg : SelectReg) (value : Byte)
  /-- ACCESS_OFFSET_WRITE (R172). -/
  | accessOffsetWrite (value : Byte)
  /-- ACCESS_DATA_READ (R172). -/
  | accessDataRead
  /-- ACCESS_DATA_WRITE (R173). -/
  | accessDataWrite (value : Byte)
  /-- CLOCK_CONTROL_WRITE (R143). -/
  | clockControlWrite (value : Byte)
  /-- TICK_DIVIDER_WRITE (R152): a write to the less significant byte of a source's tick divider. -/
  | tickDividerWrite (source : Source) (value : Byte)
  /-- HOLD_REGISTER_WRITE (R169): a write to the more significant byte of a 16-bit register. -/
  | holdRegisterWrite (reg : WideReg) (value : Byte)
  /-- REGISTER_WRITE (R168). -/
  | registerWrite (addr : BitVec 6) (value : Byte)
  /-- TICK (R151). -/
  | tick
  /-- CYCLE_TIMER_EXPIRY (R69). -/
  | cycleTimerExpiry (line : Line)
  /-- BACKOFF_ELAPSED (R63). -/
  | backoffElapsed (line : Line)
  /-- PAUSE_ELAPSED (R83). -/
  | pauseElapsed (line : Line)
  /-- LINE_SILENT (R137). -/
  | lineSilent (line : Line)
  /-- EVENT_AGE_EXPIRY (R162). -/
  | eventAgeExpiry
  /-- CHARACTER_RECEIVED (R5). -/
  | characterReceived (line : Line) (samples : CharSamples)
  /-- FALSE_START (R3): sample 2 of the start bit, which the idle count needs (R7), and samples 3 to 5. -/
  | falseStart (line : Line) (samples : EdgeSamples)
  /-- GUARD_SATISFIED (R43). -/
  | guardSatisfied (line : Line)
  /-- FRAME_SENT (R10). -/
  | frameSent (line : Line)
  /-- ECHO_MISSING (R11). -/
  | echoMissing (line : Line)
  /-- CONTENTION_REPORT (R11). -/
  | contentionReport (line : Line)
  /-- CLOCK_FAULT_REPORT (R12). -/
  | clockFaultReport (line : Line)
  /-- GAP_FAULT (R16). -/
  | gapFault (line : Line)
  /-- QUIET_END (R17). -/
  | quietEnd (line : Line)
  /-- RESPONSE_WINDOW_ELAPSED (R51). -/
  | responseWindowElapsed (line : Line)
  /-- OBSERVER_TIMER_ELAPSED (R134). -/
  | observerTimerElapsed (line : Line)
  /-- YIELD_END (R130). -/
  | yieldEnd (line : Line)
  /-- STOP_END (R130). -/
  | stopEnd (line : Line)
  /-- XREF_EDGE (R142): a rising or a falling edge. -/
  | xrefEdge (rising : Bool)
  /-- XREF_PRESENT (R142). -/
  | xrefPresent
  /-- XREF_LOST (R142). -/
  | xrefLost
  /-- CLOCK_SWITCH (R146). -/
  | clockSwitch
  /-- START_BIT (R3). -/
  | startBit (line : Line)
  /-- LINE_SEEN_HIGH (R2). -/
  | lineSeenHigh (line : Line)
  deriving DecidableEq, Repr

end Sys2Proof
end

