-- ==== Sys2Proof/WellFormed.lean ====
section
/-! DEFINITION. Which terms name the row they are written as. An ill-formed term is still a command that has a meaning
(what the part does with the same bus access or samples), but it is another row's. -/

namespace Sys2Proof

/-- The majority of the three samples (R3). -/
def Vote.majority (v : Vote) : Bool :=
  (v.s3 && v.s4) || (v.s4 && v.s5) || (v.s3 && v.s5)

/-- The codes of the command table (R178). -/
def commandCodes : List Byte :=
  [0x01, 0x02, 0x03, 0x10, 0x11, 0x20, 0x21, 0x22, 0x23, 0x30, 0x31, 0x40, 0x41, 0x50, 0x60]

/-- The registers whose write has a row of its own: CMD, the access port, EVENT_POP, the more significant bytes of the
16-bit registers, SUMMARY_CLEAR, CLOCK_CONTROL and the less significant bytes of the tick dividers. -/
def ownRowAddrs : List (BitVec 6) :=
  [0x02, 0x08, 0x09, 0x0A, 0x0B, 0x1C, 0x1E, 0x25, 0x26, 0x28, 0x29, 0x2A, 0x2B]

/-- The term names its own row: BAD_COMMAND a code of no command (R174), REGISTER_WRITE a register without a row of its
own (R168), FALSE_START samples with majority 1 (R3), CHARACTER_RECEIVED a confirmed start bit (R3). -/
def Instr.wf : Instr → Bool
  | .badCommand code => !(commandCodes.contains code)
  | .registerWrite addr _ => !(ownRowAddrs.contains addr)
  | .falseStart _ samples => samples.vote.majority
  | .characterReceived _ samples => !samples.start.majority
  | .deviceReset | .submit | .retire | .abort | .dropEnable | .dropDisable | .lineStart | .lineStandby | .lineStop
  | .lineReset | .lineResetTakesEffect | .schedSwap | .triggerCycle | .readyOpen | .readyRelease | .clearCounters
  | .softReset | .softResetTakesEffect | .cmdOverrun _ | .summaryRead | .summaryClear _ | .eventPop _ | .timestampRead
  | .accessSelect _ _ | .accessOffsetWrite _ | .accessDataRead | .accessDataWrite _ | .clockControlWrite _
  | .tickDividerWrite _ _ | .holdRegisterWrite _ _ | .tick | .cycleTimerExpiry _ | .backoffElapsed _ | .pauseElapsed _
  | .lineSilent _ | .eventAgeExpiry | .guardSatisfied _ | .frameSent _ | .echoMissing _ | .contentionReport _
  | .clockFaultReport _ | .gapFault _ | .quietEnd _ | .responseWindowElapsed _ | .observerTimerElapsed _ | .yieldEnd _
  | .stopEnd _ | .xrefEdge _ | .xrefPresent | .xrefLost | .clockSwitch | .startBit _ | .lineSeenHigh _ => true

end Sys2Proof
end

