-- ==== Sys2Proof/Decode.lean ====
section
/-! DEFINITION. spec/opcode_table.json gives no row any bits: the part has no instruction words (assumption log 21). -/

namespace Sys2Proof

/-- The command a word spells by the table's bits. No row of the table has bits, so no word spells a command. -/
def decodeTableWord (_nbits _w : Nat) : Option Instr :=
  none

end Sys2Proof
end

