-- ==== Sys2Proof/Machine/State.lean ====
section
/-! DEFINITION. Everything the manual gives the part as state, block by block (00 'Block diagram'), the state after device
reset, and the accessors of the records that are named by an index. -/

namespace Sys2Proof.Machine

/-! ### Names -/

/-- The host's name of a drop, 0..31. -/
abbrev DropIx := Fin 32

/-- The name of a request slot, 0..15. -/
abbrev Tag := Fin 16

/-- The number of a reply buffer inside the part (R108). -/
abbrev BufIx := Fin 24

/-- Drop states (2.2). -/
inductive DropState where
  | disabled | unknown | online | suspect | offline
  deriving DecidableEq, Repr

/-- Reply policies (2.1). -/
inductive ReplyPolicy where
  | queue | replace | discard
  deriving DecidableEq, Repr

/-- Attention policies (R33). -/
inductive AttnPolicy where
  | ignore | report | extraPoll
  deriving DecidableEq, Repr

/-- Outcomes of attempts, transactions and requests, and NONE (R57, R179). -/
inductive TxnOutcome where
  | none | ok | busy | noBuffer | timeout | gap | check | framing | length | unexpected | contention | clockFault
  | aborted | dropDisabled | lineStopped | lineReset
  deriving DecidableEq, Repr

/-- Outcome classes (R57). -/
inductive OutcomeClass where
  | success | alive | fail | neutral | requestOnly
  deriving DecidableEq, Repr

/-- Frame kinds of the control character (R14). -/
inductive FrameKind where
  | reply | ack | busy | poll | data | sync
  deriving DecidableEq, Repr

/-- Kinds a request slot or an observed call can have. -/
inductive ReqKind where
  | poll | data
  deriving DecidableEq, Repr

/-- Priorities of a request (5.1). -/
inductive Priority where
  | normal | urgent
  deriving DecidableEq, Repr

/-- States of a request slot (R95). -/
inductive SlotState where
  | free | queued | active | done
  deriving DecidableEq, Repr

/-- Origins of a stored reply (6.1). -/
inductive Origin where
  | schedule | request | observed
  deriving DecidableEq, Repr

/-- Store modes of an assembly claim (R112). -/
inductive StoreMode where
  | append | replace
  deriving DecidableEq, Repr

/-- The place a buffer is in (R109). -/
inductive Place where
  | free
  | assembling (l : Line)
  | held (t : Tag)
  | ready
  deriving DecidableEq, Repr

/-- Cycle modes (4.1). -/
inductive CycleMode where
  | timed | continuous | manual
  deriving DecidableEq, Repr

/-- Roles of a line (R126). -/
inductive Role where
  | off | standby | master | yielding | stopping
  deriving DecidableEq, Repr

/-- Causes of a LINE_ROLE event (R126). -/
inductive RoleCause where
  | command | takeover | demotion | reset
  deriving DecidableEq, Repr

/-- States of the XREF monitor (R142). -/
inductive Monitor where
  | absent | starting | present
  deriving DecidableEq, Repr

/-- Event kinds (R156). -/
inductive EventKind where
  | requestDone | dropState | dropAttention | replyLost | cycleDone | cycleOverrun | scheduleSwapped | lineRole
  | lineSilent | clockSwitched | clockFallback
  deriving DecidableEq, Repr

/-- Bits of the error summary (R164). -/
inductive SummaryBit where
  | eventLost | poolEmpty | cmdOverrun | clockFallback | contentionA | contentionB | overrunA | overrunB
  deriving DecidableEq, Repr

/-- Refusal codes of the command unit (R174, R179). -/
inductive CmdRefusal where
  | none | badCommand | badKind | badLength | badDrop | dropDisabled | lineOff | noSlot | poolLow | badTag | notDone
  | notAbortable | notDisabled | inUse | badAddress | dupAddress | notEnabled | badLine | lineBusy | sameRole
  | notMaster | swapPending | empty | alreadyOpen | noneOpen | badScope
  deriving DecidableEq, Repr

/-- Codes of ACCESS_STATUS (R171, R173). -/
inductive AccessStatus where
  | none | readOnly | dropEnabled | bankActive | bankCommitted | noneOpen | outOfRange | badObject
  deriving DecidableEq, Repr

/-- Last result of the command unit (R174). -/
inductive CmdResult where
  | none | done | refused
  deriving DecidableEq, Repr

/-! ### Drop table (chapter 2) -/

/-- The seven statistics of a drop, in the order of R35. -/
structure DropStats where
  successes    : Half
  failures     : Half
  busies       : Half
  timeouts     : Half
  replyErrors  : Half
  stales       : Half
  observations : Half
  deriving DecidableEq, Repr

/-- A drop record (2.1). -/
structure Drop where
  address     : BitVec 7
  line        : Line
  retryLimit  : Nat
  threshold   : Nat
  revisit     : Nat
  replyPolicy : ReplyPolicy
  attnPolicy  : AttnPolicy
  state       : DropState
  failures    : Nat
  toggle      : Bool
  fresh       : Bool
  attention   : Bool
  lastOutcome : TxnOutcome
  stats       : DropStats
  deriving DecidableEq, Repr

/-! ### Request unit (chapter 5) -/

/-- The staging area, as the bytes the host wrote (R91). -/
structure Staging where
  drop     : Byte
  kind     : Byte
  priority : Byte
  length   : Byte
  payload  : Vector Byte 32
  deriving DecidableEq, Repr

/-- A request slot (5.3). The payload buffer it holds is the buffer whose place names the slot. `lastLength` is no field of
SLOT: while the request is put back it keeps the reply length that R99 gives its last attempt. -/
structure Slot where
  state        : SlotState
  drop         : DropIx
  line         : Line
  kind         : ReqKind
  priority     : Priority
  length       : Nat
  sequence     : Half
  retry        : Option Nat
  attempts     : Nat
  outcome      : TxnOutcome
  lastLength   : Nat
  replyLength  : Nat
  replyStored  : Bool
  abortPending : Bool
  deriving DecidableEq, Repr

/-! ### Buffer manager (chapter 6) -/

/-- A reply buffer (6.1), with the place it is in (R109) and the store mode fixed by its claim (R112). -/
structure Buffer where
  place     : Place
  mode      : StoreMode
  origin    : Origin
  tag       : Option Tag
  drop      : DropIx
  line      : Line
  kind      : FrameKind
  attention : Bool
  extraPoll : Bool
  length    : Nat
  replaced  : Nat
  stamp     : Stamp
  cycle     : Half
  payload   : Vector Byte 32
  deriving DecidableEq, Repr

/-! ### Schedule store and cycle (chapter 4) -/

/-- A schedule entry (R76); a PAUSE holds its n. -/
inductive Entry where
  | poll (d : DropIx)
  | sync
  | pause (n : Nat)
  deriving DecidableEq, Repr

/-- A schedule bank (R75). -/
structure Bank where
  length  : Nat
  entries : Vector Entry 24
  deriving DecidableEq, Repr

/-- The two banks of a line, the active bank number (`false` is 0) and the swap-pending flag (R75). -/
structure Schedule where
  bank0       : Bank
  bank1       : Bank
  active      : Bool
  swapPending : Bool
  deriving DecidableEq, Repr

/-- Cycle timer and walk state of a line (R67 to R74, R87). `owed` is the pending flag; `expiryDue` says that the timer
reached its period at the last tick and that the expiry has not been taken yet (log 6); `mayRestart` is the second
condition of the continuous rule. -/
structure Cycle where
  timer      : Nat
  expiryDue  : Bool
  owed       : Bool
  inProgress : Bool
  number     : Half
  walk       : Nat
  performed  : Nat
  skipped    : Nat
  gapCount   : Nat
  mayRestart : Bool
  deriving DecidableEq, Repr

/-! ### Line engine (chapters 1, 3, 7) -/

/-- The line parameters object (R8, R45, R67, R140, R149). -/
structure LineParams where
  divIosc         : Nat
  divXref         : Nat
  gapLimit        : Nat
  guard           : Nat
  window          : Nat
  backoff         : Nat
  mode            : CycleMode
  period          : Nat
  gapQuota        : Nat
  cycleEvents     : Bool
  autoTakeover    : Bool
  capture         : Bool
  contentionLimit : Nat
  takeoverSilence : Nat
  deriving DecidableEq, Repr

/-- The line counters (R65, R89), in the order of the LINE_COUNTERS object. -/
structure LineCounters where
  unsolicited    : Half
  noise          : Half
  stale          : Half
  contention     : Half
  repliesLost    : Half
  overruns       : Half
  skippedInvalid : Half
  skippedOffline : Half
  deriving DecidableEq, Repr

/-- Bit times counted, with the periods of the effective source counted in the bit time in progress. -/
structure BitTimer where
  bits  : Nat
  phase : Nat
  deriving DecidableEq, Repr

/-- Receiver states (R2). -/
inductive RxState where
  | waitHigh | huntEdge | receiving
  deriving DecidableEq, Repr

/-- The receiver and the idle count. `sampleNo` and `samples` are the position inside the character in hand and the samples
3, 4, 5 taken so far; `afterRelease` says that its start bit began with driver enable released (R6); `phase` counts periods
of the divisor period. The idle count's bit times begin after the `stopTail` samples that are left of the last stop bit (inside
a character: that were left after its first sample) and after the last sample that read 0; `idleSamples` counts the samples of
the one begun, and inside a character the samples that read 1 since the last 0, eight by eight (R7). -/
structure Receiver where
  state        : RxState
  sampleNo     : Nat
  samples      : List Bool
  phase        : Nat
  afterRelease : Bool
  idle         : Nat
  idleSamples  : Nat
  stopTail     : Nat
  deriving DecidableEq, Repr

/-- Frame reader states (R15). -/
inductive ReaderState where
  | hunt | inFrame | flush
  deriving DecidableEq, Repr

/-- The position the frame reader waits for (R15, R16). -/
inductive FramePos where
  | control
  | length
  | payload (k : Nat)
  | check
  deriving DecidableEq, Repr

/-- The frame reader: state, position, sum of R13, payload count of the length character, gap limit in force (R8). -/
structure Reader where
  state    : ReaderState
  position : FramePos
  sum      : Byte
  expected : Nat
  gap      : Nat
  deriving DecidableEq, Repr

/-- Faults the frame reader reports (R16, R17). -/
inductive FrameFault where
  | framing | gap | length | check
  deriving DecidableEq, Repr

/-- Reports of the frame reader to its consumer (R15 to R19). -/
inductive ReaderReport where
  /-- A good address character opened a frame. -/
  | start (b : Byte)
  /-- An address character with a framing error opened a frame in error. -/
  | startFraming (b : Byte)
  /-- A stray character with its flags. -/
  | stray (noisy framing : Bool)
  | control (b : Byte)
  | length (n : Nat)
  | payload (k : Nat) (b : Byte)
  /-- The clean end. -/
  | complete
  | fault (f : FrameFault)
  /-- The quiet end of a frame in error. -/
  | closed
  deriving DecidableEq, Repr

/-- A character as it is sent or expected back: data byte and mark bit (R1, R10). -/
structure TxChar where
  data : Byte
  mark : Bool
  deriving DecidableEq, Repr

/-- A character of the echo list (R10), whether its stop bit has ended, and the bit times since. -/
structure Echo where
  char    : TxChar
  ended   : Bool
  overdue : BitTimer
  deriving DecidableEq, Repr

/-- What stops a frame in progress (R11, R12). -/
inductive StopCause where
  | contention | clockFault | reset
  deriving DecidableEq, Repr

/-- The transmitter and the echo comparator (R10 to R12). `enable` and `pin` are the DE and TX pins; `tail` is the time of
the second case of R6, from the end of a frame until a start bit begun after it is confirmed. -/
structure Transmitter where
  enable  : Bool
  pin     : Bool
  toSend  : List TxChar
  sending : Option TxChar
  timer   : BitTimer
  echoes  : List Echo
  stop    : Option StopCause
  tail    : Bool
  deriving DecidableEq, Repr

/-- States of the transaction controller (3.1). -/
inductive CtlState where
  | idle | guard | send | await | receive | discard | backoff | pause
  deriving DecidableEq, Repr

/-- Source of a transaction (R42). -/
inductive TxnSource where
  | schedule
  | extraPoll
  | request (t : Tag)
  | sync
  deriving DecidableEq, Repr

/-- The transaction in hand: what R42 captures, attempts used, and the last attempt's outcome and reply (R59, R99). -/
structure Txn where
  source      : TxnSource
  drop        : Option DropIx
  address     : BitVec 7
  kind        : FrameKind
  retry       : Nat
  attempts    : Nat
  lastOutcome : TxnOutcome
  lastLength  : Nat
  lastStored  : Bool
  deriving DecidableEq, Repr

/-- The call an attempt built on entering GUARD (R43): address byte, control byte, payload. -/
structure Call where
  address : Byte
  control : Byte
  payload : List Byte
  deriving DecidableEq, Repr

/-- Conditions of the response window (R46), and no window. -/
inductive WindowCond where
  | none | running | elapsed | met
  deriving DecidableEq, Repr

/-- Why the controller is in DISCARD: a stale or foreign frame passes (R50), or the reply is in error with its outcome
fixed (R56, R62). -/
inductive DiscardWhy where
  | passing
  | faulty (o : TxnOutcome)
  deriving DecidableEq, Repr

/-- The assembly claim of the reply in hand (R54). -/
inductive Claim where
  | none | granted | denied
  deriving DecidableEq, Repr

/-- The reply in hand: what the controller kept of it (R52, R53). -/
structure ReplyInfo where
  kind      : Option FrameKind
  attention : Bool
  length    : Nat
  claim     : Claim
  deriving DecidableEq, Repr

/-- The transaction controller. `guard` is the guard value captured on entering GUARD (R8); `deciding` says that the window
elapsed in the middle of a character (R51); `kept` are reports made during SEND (R44). -/
structure Controller where
  state        : CtlState
  txn          : Option Txn
  guard        : Nat
  call         : Call
  window       : WindowCond
  windowLength : Nat
  windowTimer  : BitTimer
  deciding     : Bool
  discard      : DiscardWhy
  reply        : ReplyInfo
  backoffLength : Nat
  backoffCount : Nat
  pauseLength  : Nat
  pauseTimer   : BitTimer
  kept         : List ReaderReport
  deriving DecidableEq, Repr

/-- The observed call (7.4). -/
structure ObservedCall where
  drop    : DropIx
  address : BitVec 7
  kind    : ReqKind
  toggle  : Bool
  deriving DecidableEq, Repr

/-- The frame the observer follows (R133, R134): a call with what it has shown so far; a candidate reply; a matched reply
with its kind, attention flag and length; a reply from the observed address that did not match; a matched reply found in
error; nothing. -/
inductive Follow where
  | nothing
  | call (address : BitVec 7) (control : Option Byte) (length : Nat)
  | candidate
  | matched (kind : FrameKind) (attention : Bool) (length : Nat)
  | unmatched
  | failed
  deriving DecidableEq, Repr

/-- Capture of the observer (7.4). -/
inductive Capture where
  | none | assembling | lost
  deriving DecidableEq, Repr

/-- The standby observer (7.4). The timer begins after the `lead` periods that are left of the stop bit of the call's check
character (R133). `waiting` says that the timer elapsed in the middle of a character (R134). -/
structure Observer where
  call    : Option ObservedCall
  lead    : Nat
  timer   : BitTimer
  window  : Nat
  elapsed : Bool
  waiting : Bool
  follow  : Follow
  capture : Capture
  deriving DecidableEq, Repr

/-- A stored reply whose check character's stop bit has not ended, and the periods left of it: the buffer's timestamp is that
of its end (R115). -/
structure OpenStamp where
  buffer : BufIx
  left   : Nat
  deriving DecidableEq, Repr

/-- Silence count and silent flag (R137). `due` says that the line was judged silent at the last tick and that the step
LINE_SILENT has not been taken yet (log 6). -/
structure Silence where
  count : Half
  flag  : Bool
  due   : Bool
  deriving DecidableEq, Repr

/-- Everything one line has. -/
structure LineEngine where
  role       : Role
  params     : LineParams
  counters   : LineCounters
  divisor    : Nat
  rx         : Receiver
  reader     : Reader
  tx         : Transmitter
  ctl        : Controller
  contention : Nat
  cycle      : Cycle
  sched      : Schedule
  observer   : Observer
  silence    : Silence
  urgent     : List Tag
  normal     : List Tag
  stamping   : Option OpenStamp
  deriving DecidableEq, Repr

/-! ### Clock unit (chapter 8) -/

/-- The clock unit. The switch-pending flag is computed (R144). -/
structure ClockUnit where
  requested  : Source
  effective  : Source
  xrefEnable : Bool
  monitor    : Monitor
  edges      : Nat
  quiet      : Nat
  divIosc    : Half
  divXref    : Half
  prescaler  : Nat
  timestamp  : Stamp
  deriving DecidableEq, Repr

/-! ### Event unit (chapter 9) -/

/-- An event record (R155). -/
structure EventRecord where
  kind   : EventKind
  line   : Option Line
  drop   : Option DropIx
  tag    : Option Tag
  code   : Byte
  detail : Byte
  stamp  : Stamp
  deriving DecidableEq, Repr

/-- The event unit. -/
structure EventUnit where
  queue     : List EventRecord
  headAge   : Nat
  lost      : Nat
  mask      : Half
  summary   : Byte
  snapshot  : Byte
  renewed   : Byte
  irqEnable : Byte
  threshold : Nat
  ageLimit  : Nat
  deriving DecidableEq, Repr

/-! ### Bus interface unit and command unit (chapter 10) -/

/-- An object of the access port (10.2). A schedule bank is named by its line and bank number. -/
inductive ObjectSel where
  | drop (d : DropIx)
  | sched (l : Line) (bank : Bool)
  | staging
  | slot (t : Tag)
  | buffer
  | params (l : Line)
  | counters (l : Line)
  deriving DecidableEq, Repr

/-- The field a held byte belongs to (R169). -/
inductive HoldId where
  | reg (r : WideReg)
  | field (o : ObjectSel) (offset : Nat)
  deriving DecidableEq, Repr

/-- The bus interface unit. `data` is the byte that the last read with a row of its own drove on D7..D0. -/
structure BusUnit where
  arg0      : Byte
  arg1      : Byte
  hold      : Option (HoldId × Byte)
  objectReg : Byte
  indexReg  : Byte
  offset    : Nat
  selected  : Option ObjectSel
  snapshot  : List Byte
  status    : AccessStatus
  latch     : BitVec 24
  data      : Byte
  deriving DecidableEq, Repr

/-- The command that keeps the command unit BUSY (R176). -/
inductive BusyWith where
  | lineReset (l : Line)
  | softReset
  deriving DecidableEq, Repr

/-- The command unit (R174). -/
structure CommandUnit where
  code    : Byte
  busy    : Option BusyWith
  last    : CmdResult
  result  : Byte
  refusal : CmdRefusal
  deriving DecidableEq, Repr

/-! ### The whole part -/

/-- The state of the part, and the queue of commands that wait. `irqPin` is the nIRQ pin (`true` is released). -/
structure State where
  lineA    : LineEngine
  lineB    : LineEngine
  drops    : Vector Drop 32
  staging  : Staging
  slots    : Vector Slot 16
  sequence : Half
  buffers  : Vector Buffer 24
  ready    : List BufIx
  opened   : Bool
  clock    : ClockUnit
  events   : EventUnit
  bus      : BusUnit
  command  : CommandUnit
  irqPin   : Bool
  fresh    : Nat
  pending  : List Instr
  deriving DecidableEq, Repr

/-- Faults. The manual gives the part no way to stop, so no meaning of this model answers a fault; the type has its one
constructor only to be inhabited. Raised by nobody; safe. -/
inductive Fault where
  | stopped
  deriving DecidableEq, Repr

/-- Refusals. -/
inductive Refusal where
  /-- A row without a meaning, raised by an arm of exec only (none is left). Safe: the model stops. -/
  | notModelled (mnemonic : String)
  deriving DecidableEq, Repr

/-! ### The state after device reset -/

/-- Statistics after reset (R38). -/
def DropStats.zero : DropStats :=
  { successes := 0, failures := 0, busies := 0, timeouts := 0, replyErrors := 0, stales := 0, observations := 0 }

/-- Drop record `n` after device reset (R38). -/
def Drop.reset (n : Nat) : Drop :=
  { address := BitVec.ofNat 7 (n + 1), line := .a, retryLimit := 2, threshold := 3, revisit := 8, replyPolicy := .queue,
    attnPolicy := .ignore, state := .disabled, failures := 0, toggle := false, fresh := false, attention := false,
    lastOutcome := .none, stats := .zero }

/-- The staging area after device and soft reset (R91). -/
def Staging.reset : Staging :=
  { drop := 0, kind := 0, priority := 0, length := 0, payload := Vector.replicate 32 0 }

/-- A slot after device and soft reset (R107). -/
def Slot.reset : Slot :=
  { state := .free, drop := 0, line := .a, kind := .poll, priority := .normal, length := 0, sequence := 0, retry := none,
    attempts := 0, outcome := .none, lastLength := 0, replyLength := 0, replyStored := false, abortPending := false }

/-- A buffer after device reset: free (R125); its contents cannot be read (R108, log 13). -/
def Buffer.reset : Buffer :=
  { place := .free, mode := .append, origin := .schedule, tag := none, drop := 0, line := .a, kind := .reply,
    attention := false, extraPoll := false, length := 0, replaced := 0, stamp := 0, cycle := 0,
    payload := Vector.replicate 32 0 }

/-- A schedule bank after device reset (R75). -/
def Bank.reset : Bank :=
  { length := 0, entries := Vector.replicate 24 (.poll 0) }

/-- The schedule of a line after device reset (R75). -/
def Schedule.reset : Schedule :=
  { bank0 := .reset, bank1 := .reset, active := false, swapPending := false }

/-- Cycle state after each reset (R90); with no cycle run since, the second condition of R87 holds. -/
def Cycle.reset : Cycle :=
  { timer := 0, expiryDue := false, owed := false, inProgress := false, number := 0, walk := 0, performed := 0, skipped := 0,
    gapCount := 0, mayRestart := true }

/-- Line parameters after device reset (R8, R45, 4.1, R140, R149). -/
def LineParams.reset : LineParams :=
  { divIosc := 20, divXref := 20, gapLimit := 16, guard := 22, window := 200, backoff := 10, mode := .timed, period := 100,
    gapQuota := 2, cycleEvents := false, autoTakeover := false, capture := false, contentionLimit := 3,
    takeoverSilence := 0 }

/-- Line counters after device and soft reset (R65, R89). -/
def LineCounters.zero : LineCounters :=
  { unsolicited := 0, noise := 0, stale := 0, contention := 0, repliesLost := 0, overruns := 0, skippedInvalid := 0,
    skippedOffline := 0 }

/-- A timer that has counted nothing. -/
def BitTimer.zero : BitTimer :=
  { bits := 0, phase := 0 }

/-- The receiver as it starts when the line leaves OFF, and as it is held while the line is OFF (R2, R20). -/
def Receiver.reset : Receiver :=
  { state := .waitHigh, sampleNo := 0, samples := [], phase := 0, afterRelease := true, idle := 0, idleSamples := 0,
    stopTail := 0 }

/-- The frame reader in HUNT with its sum cleared (R20). -/
def Reader.reset : Reader :=
  { state := .hunt, position := .control, sum := 0, expected := 0, gap := 16 }

/-- The transmitter empty, driver enable released and the pin at 1 (R1, R12). -/
def Transmitter.reset : Transmitter :=
  { enable := false, pin := true, toSend := [], sending := none, timer := .zero, echoes := [], stop := none, tail := false }

/-- No reply in hand. -/
def ReplyInfo.empty : ReplyInfo :=
  { kind := none, attention := false, length := 0, claim := .none }

/-- The controller IDLE with no transaction (R66). -/
def Controller.reset : Controller :=
  { state := .idle, txn := none, guard := 0, call := { address := 0, control := 0, payload := [] }, window := .none,
    windowLength := 0, windowTimer := .zero, deciding := false, discard := .passing, reply := .empty, backoffLength := 0,
    backoffCount := 0, pauseLength := 0, pauseTimer := .zero, kept := [] }

/-- The standby observer empty (R132). -/
def Observer.empty : Observer :=
  { call := none, lead := 0, timer := .zero, window := 0, elapsed := false, waiting := false, follow := .nothing, capture := .none }

/-- Silence count 0, silent flag clear (R137). -/
def Silence.zero : Silence :=
  { count := 0, flag := false, due := false }

/-- A line engine after device reset. -/
def LineEngine.reset : LineEngine :=
  { role := .off, params := .reset, counters := .zero, divisor := 20, rx := .reset, reader := .reset, tx := .reset,
    ctl := .reset, contention := 0, cycle := .reset, sched := .reset, observer := .empty, silence := .zero, urgent := [],
    normal := [], stamping := none }

/-- The clock unit after device reset (R154). -/
def ClockUnit.reset : ClockUnit :=
  { requested := .iosc, effective := .iosc, xrefEnable := false, monitor := .absent, edges := 0, quiet := 0, divIosc := 288,
    divXref := 250, prescaler := 0, timestamp := 0 }

/-- The event unit after device reset (R167). -/
def EventUnit.reset : EventUnit :=
  { queue := [], headAge := 0, lost := 0, mask := 0x0FFE, summary := 0, snapshot := 0, renewed := 0, irqEnable := 0,
    threshold := 1, ageLimit := 0 }

/-- The bus interface unit after device reset (register map of R168, R170, R171). -/
def BusUnit.reset : BusUnit :=
  { arg0 := 0, arg1 := 0, hold := none, objectReg := 0, indexReg := 0, offset := 0, selected := none, snapshot := [],
    status := .none, latch := 0, data := 0 }

/-- The command unit after device reset (R174). -/
def CommandUnit.reset : CommandUnit :=
  { code := 0, busy := none, last := .none, result := 0, refusal := .none }

/-- The 32 drop records after device reset (R38). -/
def resetDrops : Vector Drop 32 :=
  ⟨((List.range 32).map Drop.reset).toArray, by simp⟩

/-- The part right after device reset, with no command waiting. -/
def State.reset : State :=
  { lineA := .reset, lineB := .reset, drops := resetDrops, staging := .reset, slots := Vector.replicate 16 .reset,
    sequence := 0, buffers := Vector.replicate 24 .reset, ready := [], opened := false, clock := .reset, events := .reset,
    bus := .reset, command := .reset, irqPin := true, fresh := 0, pending := [] }

/-! ### Records by index -/

/-- The engine of a line. -/
def State.line (s : State) : Line → LineEngine
  | .a => s.lineA
  | .b => s.lineB

/-- Replaces the engine of a line. -/
def State.setLine (s : State) (l : Line) (e : LineEngine) : State :=
  match l with
  | .a => { s with lineA := e }
  | .b => { s with lineB := e }

/-- A drop record. -/
def State.drop (s : State) (d : DropIx) : Drop :=
  s.drops[d.val]

/-- Replaces a drop record. -/
def State.setDrop (s : State) (d : DropIx) (x : Drop) : State :=
  { s with drops := s.drops.set d.val x }

/-- A request slot. -/
def State.slot (s : State) (t : Tag) : Slot :=
  s.slots[t.val]

/-- Replaces a request slot. -/
def State.setSlot (s : State) (t : Tag) (x : Slot) : State :=
  { s with slots := s.slots.set t.val x }

/-- A reply buffer. -/
def State.buffer (s : State) (b : BufIx) : Buffer :=
  s.buffers[b.val]

/-- Replaces a reply buffer. -/
def State.setBuffer (s : State) (b : BufIx) (x : Buffer) : State :=
  { s with buffers := s.buffers.set b.val x }

end Sys2Proof.Machine
end

