-- ==== Sys2Proof/Machine/Operands.lean ====
section
/-! DEFINITION. Operand forms: the code tables of R179, the characters of a frame, the samples of a character, the frames of
calls, and the layouts of the access-port objects. -/

namespace Sys2Proof.Machine

/-! ### Numbers and bits -/

/-- A count as a byte of the register window. -/
def byteOf (n : Nat) : Byte :=
  BitVec.ofNat 8 n

/-- A flag as bit `k` of a byte. -/
def flagBit (b : Bool) (k : Nat) : Byte :=
  if b then byteOf (2 ^ k) else 0

/-- More significant byte of a 16-bit value (R169). -/
def msb (h : Half) : Byte :=
  (h >>> 8).setWidth 8

/-- Less significant byte of a 16-bit value (R169). -/
def lsb (h : Half) : Byte :=
  h.setWidth 8

/-- The 16-bit value of two bytes (R169). -/
def halfOf (hi lo : Byte) : Half :=
  (hi.setWidth 16 <<< 8) ||| lo.setWidth 16

/-- Byte `k` of a timestamp, byte 0 the least significant (R179). -/
def stampByte (t : Stamp) (k : Nat) : Byte :=
  (t >>> (8 * k)).setWidth 8

/-- The four bytes of a timestamp, least significant first (R64). -/
def stampBytesLE (t : Stamp) : List Byte :=
  [stampByte t 0, stampByte t 1, stampByte t 2, stampByte t 3]

/-- A 16-bit counter increased by one, saturating at 65535 (R35, R65). -/
def satInc (h : Half) : Half :=
  if h = 0xFFFF then h else h + 1

end Sys2Proof.Machine

namespace Sys2Proof

/-- Line codes. -/
def Line.code : Line → Byte
  | .a => 0
  | .b => 1

/-- Source codes. -/
def Source.code : Source → Byte
  | .iosc => 0
  | .xref => 1

/-- The samples of the vote do not all agree: the bit is noisy (R3, R4). -/
def Vote.noisy (v : Vote) : Bool :=
  !(v.s3 = v.s4 && v.s4 = v.s5)

/-- The data byte: bit `k` is the majority of data bit `k`, least significant first (R1, R4). -/
def CharSamples.byte (c : CharSamples) : Byte :=
  c.data.toList.foldr (fun v (acc : Byte) => (acc <<< 1) ||| Machine.flagBit v.majority 0) 0

/-- The mark bit as received (R4). -/
def CharSamples.markBit (c : CharSamples) : Bool :=
  c.mark.majority

/-- How many samples at the end of samples 2 to 5 read 1 without a 0 after them (R7). -/
def EdgeSamples.onesAtEnd (x : EdgeSamples) : Nat :=
  if !x.vote.s5 then 0 else if !x.vote.s4 then 1 else if !x.vote.s3 then 2 else if !x.s2 then 3 else 4

/-- A character is noisy if the samples of its start bit, of any data bit or of the mark bit disagree (R4). That disagreeing
samples of the stop bit do not make it noisy is the model's choice (log 36). -/
def CharSamples.noisy (c : CharSamples) : Bool :=
  c.start.noisy || c.data.toList.any Vote.noisy || c.mark.noisy

/-- A stop bit of 0 is a framing error (R5). -/
def CharSamples.framing (c : CharSamples) : Bool :=
  !c.stop.majority

end Sys2Proof

namespace Sys2Proof.Machine

/-! ### Codes (R179) -/

/-- The line a line index byte names; none above 1. -/
def lineOf (b : Byte) : Option Line :=
  if b = 0 then some .a else if b = 1 then some .b else none

/-- The other line. -/
def otherLine : Line → Line
  | .a => .b
  | .b => .a

/-- The drop an index byte names; none above 31. -/
def dropOf (b : Byte) : Option DropIx :=
  if h : b.toNat < 32 then some ⟨b.toNat, h⟩ else none

/-- The slot a tag byte names; none above 15. -/
def tagOf (b : Byte) : Option Tag :=
  if h : b.toNat < 16 then some ⟨b.toNat, h⟩ else none

/-- Request kind codes. -/
def ReqKind.code : ReqKind → Byte
  | .poll => 1
  | .data => 2

/-- The request kind a byte names; 0 and every code not listed name none. -/
def reqKindOf (b : Byte) : Option ReqKind :=
  if b = 1 then some .poll else if b = 2 then some .data else none

/-- Priority codes. -/
def Priority.code : Priority → Byte
  | .normal => 0
  | .urgent => 1

/-- The priority a byte names. -/
def priorityOf (b : Byte) : Option Priority :=
  if b = 0 then some .normal else if b = 1 then some .urgent else none

/-- Slot state codes. -/
def SlotState.code : SlotState → Byte
  | .free => 0
  | .queued => 1
  | .active => 2
  | .done => 3

/-- Drop state codes. -/
def DropState.code : DropState → Byte
  | .disabled => 0
  | .unknown => 1
  | .online => 2
  | .suspect => 3
  | .offline => 4

/-- Reply policy codes. -/
def ReplyPolicy.code : ReplyPolicy → Byte
  | .queue => 0
  | .replace => 1
  | .discard => 2

/-- The reply policy a byte names. -/
def replyPolicyOf (b : Byte) : Option ReplyPolicy :=
  if b = 0 then some .queue else if b = 1 then some .replace else if b = 2 then some .discard else none

/-- Attention policy codes. -/
def AttnPolicy.code : AttnPolicy → Byte
  | .ignore => 0
  | .report => 1
  | .extraPoll => 2

/-- The attention policy a byte names. -/
def attnPolicyOf (b : Byte) : Option AttnPolicy :=
  if b = 0 then some .ignore else if b = 1 then some .report else if b = 2 then some .extraPoll else none

/-- Origin codes. -/
def Origin.code : Origin → Byte
  | .schedule => 0
  | .request => 1
  | .observed => 2

/-- Cycle mode codes. -/
def CycleMode.code : CycleMode → Byte
  | .timed => 0
  | .continuous => 1
  | .manual => 2

/-- The cycle mode a byte names. -/
def cycleModeOf (b : Byte) : Option CycleMode :=
  if b = 0 then some .timed else if b = 1 then some .continuous else if b = 2 then some .manual else none

/-- Role codes. -/
def Role.code : Role → Byte
  | .off => 0
  | .standby => 1
  | .master => 2
  | .yielding => 3
  | .stopping => 4

/-- LINE_ROLE cause codes. -/
def RoleCause.code : RoleCause → Byte
  | .command => 0
  | .takeover => 1
  | .demotion => 2
  | .reset => 3

/-- Monitor codes of CLOCK_STATUS. -/
def Monitor.code : Monitor → Byte
  | .absent => 0
  | .starting => 1
  | .present => 2

/-- Event kind codes; 0 is NONE. -/
def EventKind.code : EventKind → Nat
  | .requestDone => 1
  | .dropState => 2
  | .dropAttention => 3
  | .replyLost => 4
  | .cycleDone => 5
  | .cycleOverrun => 6
  | .scheduleSwapped => 7
  | .lineRole => 8
  | .lineSilent => 9
  | .clockSwitched => 10
  | .clockFallback => 11

/-- Bit positions of the error summary. -/
def SummaryBit.index : SummaryBit → Nat
  | .eventLost => 0
  | .poolEmpty => 1
  | .cmdOverrun => 2
  | .clockFallback => 3
  | .contentionA => 4
  | .contentionB => 5
  | .overrunA => 6
  | .overrunB => 7

/-- Outcome codes. -/
def TxnOutcome.code : TxnOutcome → Byte
  | .none => 0
  | .ok => 1
  | .busy => 2
  | .noBuffer => 3
  | .timeout => 4
  | .gap => 5
  | .check => 6
  | .framing => 7
  | .length => 8
  | .unexpected => 9
  | .contention => 10
  | .clockFault => 11
  | .aborted => 12
  | .dropDisabled => 13
  | .lineStopped => 14
  | .lineReset => 15

/-- Outcome classes (R57). NONE ends no transaction; it is put with the request-only outcomes, which change nothing. -/
def TxnOutcome.cls : TxnOutcome → OutcomeClass
  | .ok => .success
  | .busy | .noBuffer => .alive
  | .timeout | .gap | .check | .framing | .length | .unexpected => .fail
  | .contention | .clockFault => .neutral
  | .none | .aborted | .dropDisabled | .lineStopped | .lineReset => .requestOnly

/-- Command refusal codes. -/
def CmdRefusal.code : CmdRefusal → Byte
  | .none => 0
  | .badCommand => 1
  | .badKind => 2
  | .badLength => 3
  | .badDrop => 4
  | .dropDisabled => 5
  | .lineOff => 6
  | .noSlot => 7
  | .poolLow => 8
  | .badTag => 9
  | .notDone => 10
  | .notAbortable => 11
  | .notDisabled => 12
  | .inUse => 13
  | .badAddress => 14
  | .dupAddress => 15
  | .notEnabled => 16
  | .badLine => 17
  | .lineBusy => 18
  | .sameRole => 19
  | .notMaster => 20
  | .swapPending => 21
  | .empty => 22
  | .alreadyOpen => 23
  | .noneOpen => 24
  | .badScope => 25

/-- ACCESS_STATUS codes. -/
def AccessStatus.code : AccessStatus → Byte
  | .none => 0
  | .readOnly => 1
  | .dropEnabled => 2
  | .bankActive => 3
  | .bankCommitted => 4
  | .noneOpen => 5
  | .outOfRange => 6
  | .badObject => 7

/-- Last result codes of CMD_STATUS. -/
def CmdResult.code : CmdResult → Byte
  | .none => 0
  | .done => 1
  | .refused => 2

/-- Controller state codes of TXN_STATE. -/
def CtlState.code : CtlState → Byte
  | .idle => 0
  | .guard => 1
  | .send => 2
  | .await => 3
  | .receive => 4
  | .discard => 5
  | .backoff => 6
  | .pause => 7

/-- Frame kind codes of the control character. -/
def FrameKind.code : FrameKind → Byte
  | .reply => 1
  | .ack => 2
  | .busy => 3
  | .poll => 4
  | .data => 5
  | .sync => 6

/-- The kind a control byte names: bits 3 to 0, the other bits taking no part (R179). -/
def kindOf (control : Byte) : Option FrameKind :=
  match (control &&& 0x0F).toNat with
  | 1 => some .reply
  | 2 => some .ack
  | 3 => some .busy
  | 4 => some .poll
  | 5 => some .data
  | 6 => some .sync
  | _ => none

/-- The toggle of a control byte. -/
def toggleOf (control : Byte) : Bool :=
  control.getLsbD 5

/-- The attention flag of a reply's control byte (the restart flag of a call's). -/
def attentionOf (control : Byte) : Bool :=
  control.getLsbD 6

/-- Direction REPLY of an address byte. -/
def isReply (address : Byte) : Bool :=
  address.getLsbD 7

/-- The address of an address byte. -/
def addressOf (address : Byte) : BitVec 7 :=
  address.setWidth 7

/-- The address character of a call (R43). -/
def callAddress (a : BitVec 7) : Byte :=
  a.setWidth 8

/-- The control character of a call: bits 4 and 7 are 0 (R179). -/
def callControl (k : FrameKind) (toggle restart : Bool) : Byte :=
  k.code ||| flagBit toggle 5 ||| flagBit restart 6

/-- Reply kinds that answer a call of this kind (R52, R134). -/
def answers (call answer : FrameKind) : Bool :=
  match call with
  | .poll => answer = .reply || answer = .busy
  | .data => answer = .ack || answer = .busy
  | .sync | .reply | .ack | .busy => false

/-- The frame kind of a request's call. -/
def ReqKind.frame : ReqKind → FrameKind
  | .poll => .poll
  | .data => .data

/-! ### Characters (R1 to R5, R13) -/

/-- The samples of a character received with every sample alike. -/
def cleanChar (b : Byte) (mark : Bool) : CharSamples :=
  let v (x : Bool) : Vote := ⟨x, x, x⟩
  { start := v false
    data := #v[v (b.getLsbD 0), v (b.getLsbD 1), v (b.getLsbD 2), v (b.getLsbD 3), v (b.getLsbD 4), v (b.getLsbD 5),
      v (b.getLsbD 6), v (b.getLsbD 7)]
    mark := v mark
    stop := v true }

/-- The character that 33 recorded samples show, three for each of its 11 bits in order. -/
def charOfSamples (xs : List Bool) : CharSamples :=
  let v (i : Nat) : Vote := ⟨xs.getD (3 * i) true, xs.getD (3 * i + 1) true, xs.getD (3 * i + 2) true⟩
  { start := v 0
    data := #v[v 1, v 2, v 3, v 4, v 5, v 6, v 7, v 8]
    mark := v 9
    stop := v 10 }

/-- Bit `k` of a character on the wire: start bit, eight data bits, mark bit, stop bit (R1). -/
def TxChar.bit (c : TxChar) (k : Nat) : Bool :=
  if k = 0 then false else if k ≤ 8 then c.data.getLsbD (k - 1) else if k = 9 then c.mark else true

/-- The modulo-256 sum of bytes. -/
def sumBytes (bs : List Byte) : Byte :=
  bs.foldl (· + ·) 0

/-- The check character over the bytes before it (R13). -/
def checkByte (bs : List Byte) : Byte :=
  ~~~ sumBytes bs

/-- The bytes of a call before its check character (R10). -/
def Call.body (c : Call) : List Byte :=
  c.address :: c.control :: byteOf c.payload.length :: c.payload

/-- The characters of a call, in sending order: the address character alone has mark bit 1 (1.4, R13). -/
def Call.chars (c : Call) : List TxChar :=
  ⟨c.address, true⟩ :: ((c.body.drop 1).map (⟨·, false⟩) ++ [⟨checkByte c.body, false⟩])

/-- The four 16-bit halves of a list of counters, most significant byte first. -/
def halfBytes (hs : List Half) : List Byte :=
  hs.flatMap fun h => [msb h, lsb h]

/-! ### Layouts of records (R179) -/

/-- A tag, drop or line that may be none: 0xFF for none. -/
def noneOr {α : Type} (f : α → Byte) : Option α → Byte
  | none => 0xFF
  | some x => f x

/-- The DROP object. -/
def Drop.bytes (d : Drop) : List Byte :=
  [d.address.setWidth 8, d.line.code, byteOf d.retryLimit, byteOf d.threshold, byteOf d.revisit, d.replyPolicy.code,
    d.attnPolicy.code, d.state.code, byteOf d.failures,
    flagBit d.toggle 0 ||| flagBit d.fresh 1 ||| flagBit d.attention 2, d.lastOutcome.code]
    ++ halfBytes [d.stats.successes, d.stats.failures, d.stats.busies, d.stats.timeouts, d.stats.replyErrors,
      d.stats.stales, d.stats.observations]

/-- The two bytes of a schedule entry: kind, argument. -/
def Entry.bytes : Entry → List Byte
  | .poll d => [1, byteOf d.val]
  | .sync => [2, 0]
  | .pause n => [3, byteOf n]

/-- The entry two bytes name; none when it is out of range (R76). -/
def entryOf (kind arg : Byte) : Option Entry :=
  if kind = 1 then (dropOf arg).map .poll
  else if kind = 2 then (if arg = 0 then some .sync else none)
  else if kind = 3 then (if arg = 0 then none else some (.pause arg.toNat))
  else none

/-- The SCHED object. -/
def Bank.bytes (b : Bank) : List Byte :=
  byteOf b.length :: b.entries.toList.flatMap Entry.bytes

/-- The STAGING object. -/
def Staging.bytes (s : Staging) : List Byte :=
  s.drop :: s.kind :: s.priority :: s.length :: s.payload.toList

/-- The SLOT object; `held` says whether a buffer's place names the slot. -/
def Slot.bytes (x : Slot) (held : Bool) : List Byte :=
  [x.state.code, byteOf x.drop.val, x.line.code, x.kind.code, x.priority.code, byteOf x.length,
    flagBit held 0 ||| flagBit x.replyStored 1 ||| flagBit x.abortPending 2, msb x.sequence, lsb x.sequence,
    noneOr byteOf x.retry, byteOf x.attempts, x.outcome.code, byteOf x.replyLength]

/-- The BUFFER object. -/
def Buffer.bytes (b : Buffer) : List Byte :=
  [b.origin.code, noneOr (fun (t : Tag) => byteOf t.val) b.tag, byteOf b.drop.val, b.line.code, b.kind.code,
    flagBit b.attention 0 ||| flagBit b.extraPoll 1, byteOf b.length, byteOf b.replaced, stampByte b.stamp 3,
    stampByte b.stamp 2, stampByte b.stamp 1, stampByte b.stamp 0, msb b.cycle, lsb b.cycle] ++ b.payload.toList

/-- The LINE_PARAMS object. -/
def LineParams.bytes (p : LineParams) : List Byte :=
  let h (n : Nat) : Half := BitVec.ofNat 16 n
  [msb (h p.divIosc), lsb (h p.divIosc), msb (h p.divXref), lsb (h p.divXref), byteOf p.gapLimit, byteOf p.guard,
    msb (h p.window), lsb (h p.window), byteOf p.backoff, p.mode.code, msb (h p.period), lsb (h p.period),
    byteOf p.gapQuota, flagBit p.cycleEvents 0 ||| flagBit p.autoTakeover 1 ||| flagBit p.capture 2,
    byteOf p.contentionLimit, msb (h p.takeoverSilence), lsb (h p.takeoverSilence)]

/-- The LINE_COUNTERS object. -/
def LineCounters.bytes (c : LineCounters) : List Byte :=
  halfBytes [c.unsolicited, c.noise, c.stale, c.contention, c.repliesLost, c.overruns, c.skippedInvalid,
    c.skippedOffline]

end Sys2Proof.Machine
end

