-- ==== Sys2Proof/Machine/Ops.lean ====
section
/-! DEFINITION. The named operations over the registers and records of the part, and the questions the rules ask of them. -/

namespace Sys2Proof.Machine

/-! ### Updates -/

/-- Changes the engine of a line. -/
def State.modLine (s : State) (l : Line) (f : LineEngine → LineEngine) : State :=
  s.setLine l (f (s.line l))

/-- Changes a drop record. -/
def State.modDrop (s : State) (d : DropIx) (f : Drop → Drop) : State :=
  s.setDrop d (f (s.drop d))

/-- Changes a request slot. -/
def State.modSlot (s : State) (t : Tag) (f : Slot → Slot) : State :=
  s.setSlot t (f (s.slot t))

/-- Changes a reply buffer. -/
def State.modBuffer (s : State) (b : BufIx) (f : Buffer → Buffer) : State :=
  s.setBuffer b (f (s.buffer b))

/-- Changes the line counters of a line. -/
def State.modCounters (s : State) (l : Line) (f : LineCounters → LineCounters) : State :=
  s.modLine l fun e => { e with counters := f e.counters }

/-- Changes the receiver of a line. -/
def State.modRx (s : State) (l : Line) (f : Receiver → Receiver) : State :=
  s.modLine l fun e => { e with rx := f e.rx }

/-- Changes the frame reader of a line. -/
def State.modReader (s : State) (l : Line) (f : Reader → Reader) : State :=
  s.modLine l fun e => { e with reader := f e.reader }

/-- Changes the transmitter of a line. -/
def State.modTx (s : State) (l : Line) (f : Transmitter → Transmitter) : State :=
  s.modLine l fun e => { e with tx := f e.tx }

/-- Changes the transaction controller of a line. -/
def State.modCtl (s : State) (l : Line) (f : Controller → Controller) : State :=
  s.modLine l fun e => { e with ctl := f e.ctl }

/-- Changes the cycle state of a line. -/
def State.modCycle (s : State) (l : Line) (f : Cycle → Cycle) : State :=
  s.modLine l fun e => { e with cycle := f e.cycle }

/-- Changes the schedule of a line. -/
def State.modSched (s : State) (l : Line) (f : Schedule → Schedule) : State :=
  s.modLine l fun e => { e with sched := f e.sched }

/-- Changes the standby observer of a line. -/
def State.modObserver (s : State) (l : Line) (f : Observer → Observer) : State :=
  s.modLine l fun e => { e with observer := f e.observer }

/-- Changes the event unit. -/
def State.modEvents (s : State) (f : EventUnit → EventUnit) : State :=
  { s with events := f s.events }

/-- Changes the clock unit. -/
def State.modClock (s : State) (f : ClockUnit → ClockUnit) : State :=
  { s with clock := f s.clock }

/-- Changes the bus interface unit. -/
def State.modBus (s : State) (f : BusUnit → BusUnit) : State :=
  { s with bus := f s.bus }

/-- Changes the command unit. -/
def State.modCommand (s : State) (f : CommandUnit → CommandUnit) : State :=
  { s with command := f s.command }

/-- Changes both lines, each by what `f` gives for it. -/
def State.modLines (s : State) (f : Line → LineEngine → LineEngine) : State :=
  { s with lineA := f .a s.lineA, lineB := f .b s.lineB }

/-- Changes every element of a fixed store. -/
def mapVector {α : Type} {n : Nat} (f : α → α) (v : Vector α n) : Vector α n :=
  ⟨(v.toList.map f).toArray, by simp⟩

/-- Changes every drop record. -/
def State.modDrops (s : State) (f : Drop → Drop) : State :=
  { s with drops := mapVector f s.drops }

/-- Changes every buffer. -/
def State.modBuffers (s : State) (f : Buffer → Buffer) : State :=
  { s with buffers := mapVector f s.buffers }

/-! ### Questions -/

/-- The mastering roles (7.1). -/
def Role.mastering : Role → Bool
  | .master | .yielding | .stopping => true
  | .off | .standby => false

/-- A drop is enabled in every state but DISABLED (2.2). -/
def Drop.enabled (d : Drop) : Bool :=
  d.state ≠ .disabled

/-- An attempt is in flight in SEND, AWAIT, RECEIVE and DISCARD (R60, R130). -/
def CtlState.inFlight : CtlState → Bool
  | .send | .await | .receive | .discard => true
  | .idle | .guard | .backoff | .pause => false

/-- The switch-pending flag (R144). -/
def ClockUnit.switchPending (c : ClockUnit) : Bool :=
  c.requested ≠ c.effective

/-- The tick divider of the effective source (R151). -/
def ClockUnit.divider (c : ClockUnit) : Half :=
  match c.effective with
  | .iosc => c.divIosc
  | .xref => c.divXref

/-- The periods of the effective source that the prescaler still has to count before it delivers a tick (R151). -/
def ClockUnit.toTick (c : ClockUnit) : Nat :=
  c.divider.toNat * 64 - c.prescaler

/-- The ticks that fall in the next `n` periods, as the clock unit stands (R151). -/
def ClockUnit.ticksIn (c : ClockUnit) (n : Nat) : Nat :=
  if n < c.toTick then 0 else 1 + (n - c.toTick) / (c.divider.toNat * 64)

/-- The bit divisor of a line for a source (R149). -/
def LineParams.divisorFor (p : LineParams) : Source → Nat
  | .iosc => p.divIosc
  | .xref => p.divXref

/-- The bank the line walks (R75). -/
def Schedule.activeBank (x : Schedule) : Bank :=
  if x.active then x.bank1 else x.bank0

/-- The number of the active bank. -/
def Schedule.activeNumber (x : Schedule) : Byte :=
  if x.active then 1 else 0

/-- The line's report to the clock unit (R145). -/
def LineEngine.busy (e : LineEngine) : Bool :=
  e.role ≠ .off &&
    (e.rx.state = .receiving || e.tx.enable || !e.tx.echoes.isEmpty || e.reader.state ≠ .hunt ||
      e.ctl.state = .send || e.ctl.state = .receive || e.ctl.state = .discard)

/-- The drops in index order. -/
def allDrops : List DropIx :=
  List.finRange 32

/-- The slots in tag order. -/
def allTags : List Tag :=
  List.finRange 16

/-- The buffers in number order. -/
def allBuffers : List BufIx :=
  List.finRange 24

/-- The enabled drop of a line that holds an address; at most one (R30). -/
def State.dropAt (s : State) (l : Line) (a : BitVec 7) : Option DropIx :=
  allDrops.find? fun d => (s.drop d).enabled && (s.drop d).line = l && (s.drop d).address = a

/-- The drop a line's transaction in hand goes to. -/
def State.txnDrop (s : State) (l : Line) : Option DropIx :=
  (s.line l).ctl.txn.bind (·.drop)

/-- The tag a line's transaction in hand carries. -/
def State.txnTag (s : State) (l : Line) : Option Tag :=
  match (s.line l).ctl.txn with
  | some t => (match t.source with
    | .request tag => some tag
    | .schedule | .extraPoll | .sync => none)
  | none => none

/-- The line's frame reader starts following a frame in error to its end (R17): the gap limit is taken at the entry to
FLUSH (R8). -/
def State.flushReader (s : State) (l : Line) : State :=
  s.modLine l fun e => { e with reader := { e.reader with state := .flush, gap := e.params.gapLimit } }

/-- The consumer declares the open frame in error (R16). -/
def State.declareError (s : State) (l : Line) : State :=
  if (s.line l).reader.state = .inFrame then s.flushReader l else s

/-- The working divisor is reloaded (R150). -/
def State.reloadDivisor (s : State) (l : Line) : State :=
  s.modLine l fun e => { e with divisor := e.params.divisorFor s.clock.effective }

/-- A line counter increases by one, for each counter of R65 and R89. -/
def State.countUnsolicited (s : State) (l : Line) : State :=
  s.modCounters l fun c => { c with unsolicited := satInc c.unsolicited }

/-- Noise (R3, R4). -/
def State.countNoise (s : State) (l : Line) : State :=
  s.modCounters l fun c => { c with noise := satInc c.noise }

/-- Stale replies of the line (R47, R49). -/
def State.countStale (s : State) (l : Line) : State :=
  s.modCounters l fun c => { c with stale := satInc c.stale }

/-- Replies lost (R113). -/
def State.countReplyLost (s : State) (l : Line) : State :=
  s.modCounters l fun c => { c with repliesLost := satInc c.repliesLost }

/-- Overruns (R70). -/
def State.countOverrun (s : State) (l : Line) : State :=
  s.modCounters l fun c => { c with overruns := satInc c.overruns }

/-- A contention: the consecutive count, stopping at 255, and the contention counter with it (R61). -/
def State.countContention (s : State) (l : Line) : State :=
  s.modLine l fun e =>
    { e with contention := min 255 (e.contention + 1)
             counters := { e.counters with contention := satInc e.counters.contention } }

/-- An entry counts as performed (R82). -/
def State.countPerformed (s : State) (l : Line) : State :=
  s.modCycle l fun c => { c with performed := c.performed + 1 }

/-- An entry counts as skipped invalid (R80, R82). -/
def State.countSkippedInvalid (s : State) (l : Line) : State :=
  s.modLine l fun e =>
    { e with cycle := { e.cycle with skipped := e.cycle.skipped + 1 }
             counters := { e.counters with skippedInvalid := satInc e.counters.skippedInvalid } }

/-- An entry counts as skipped offline (R80). -/
def State.countSkippedOffline (s : State) (l : Line) : State :=
  s.modLine l fun e =>
    { e with cycle := { e.cycle with skipped := e.cycle.skipped + 1 }
             counters := { e.counters with skippedOffline := satInc e.counters.skippedOffline } }

/-- A byte drives the data bus (R168). -/
def State.drive (s : State) (b : Byte) : State :=
  s.modBus fun u => { u with data := b }

end Sys2Proof.Machine
end

