-- ==== Sys2Proof/Machine/Flags.lean ====
section
/-! DEFINITION. The event unit: posts, the error summary, the interrupt (chapter 9). -/

namespace Sys2Proof.Machine

/-- The summary bit as a mask. -/
def SummaryBit.mask (b : SummaryBit) : Byte :=
  byteOf (2 ^ b.index)

/-- An occurrence of a cause: a clear bit is set, a set bit is marked renewed (R164). -/
def EventUnit.raise (u : EventUnit) (b : SummaryBit) : EventUnit :=
  if u.summary.getLsbD b.index then { u with renewed := u.renewed ||| b.mask }
  else { u with summary := u.summary ||| b.mask }

/-- A post is taken: a masked kind is discarded (R157), a full queue loses it (R158), else it joins at the tail, and
becomes the head with age 0 if the queue was empty (R160). -/
def EventUnit.post (u : EventUnit) (r : EventRecord) : EventUnit :=
  if !u.mask.getLsbD r.kind.code then u
  else if u.queue.length < Config.queueDepth then
    { u with queue := u.queue ++ [r], headAge := if u.queue.isEmpty then 0 else u.headAge }
  else { u with lost := min 255 (u.lost + 1) }.raise .eventLost

/-- The head record leaves (R159); a new head's age is taken from its timestamp (R160). -/
def EventUnit.pop (u : EventUnit) (now : Stamp) : EventUnit :=
  match u.queue with
  | [] => u
  | [_] => { u with queue := [], headAge := 0 }
  | _ :: h :: rest => { u with queue := h :: rest, headAge := min 255 (now - h.stamp).toNat }

/-- A tick ages the head (R160). -/
def EventUnit.tick (u : EventUnit) : EventUnit :=
  if u.queue.isEmpty then u else { u with headAge := min 255 (u.headAge + 1) }

/-- A read of SUMMARY takes the snapshot and clears every renewal mark (R165). -/
def EventUnit.readSummary (u : EventUnit) : EventUnit :=
  { u with snapshot := u.summary, renewed := 0 }

/-- The bits a SUMMARY_CLEAR with this mask clears (R166). -/
def EventUnit.clearable (u : EventUnit) (mask : Byte) : Byte :=
  mask &&& u.snapshot &&& ~~~ u.renewed

/-- SUMMARY_CLEAR (R166); with EVENT_LOST the lost-event counter becomes 0 (R161). -/
def EventUnit.clearSummary (u : EventUnit) (mask : Byte) : EventUnit :=
  { u with
    summary := u.summary &&& ~~~ u.clearable mask
    snapshot := u.snapshot &&& ~~~ u.clearable mask
    lost := if (u.clearable mask &&& u.summary).getLsbD SummaryBit.eventLost.index then 0 else u.lost }

/-- What a soft reset does to the event unit (R167). -/
def EventUnit.softReset (u : EventUnit) : EventUnit :=
  { u with queue := [], headAge := 0, lost := 0, summary := 0, snapshot := 0, renewed := 0 }

/-- The EVENTS source (R162). -/
def EventUnit.eventsActive (u : EventUnit) : Bool :=
  u.queue.length ≥ u.threshold || (!u.queue.isEmpty && u.ageLimit ≠ 0 && u.headAge ≥ u.ageLimit)

/-- The READY source (R162). -/
def State.readyActive (s : State) : Bool :=
  !s.ready.isEmpty && !s.opened

/-- The SUMMARY source (R162). -/
def EventUnit.summaryActive (u : EventUnit) : Bool :=
  u.summary ≠ 0

/-- IRQ_STATUS: the three sources as they are (R162). -/
def State.irqStatus (s : State) : Byte :=
  flagBit s.events.eventsActive 0 ||| flagBit s.readyActive 1 ||| flagBit s.events.summaryActive 2

/-- At least one source is both active and enabled (R162). -/
def State.irqWanted (s : State) : Bool :=
  s.irqStatus &&& s.events.irqEnable ≠ 0

/-- nIRQ follows the sources and enables at once (R162): every meaning ends with it. -/
def State.driveIrq (s : State) : State :=
  { s with irqPin := !s.irqWanted }

/-- The answer of every meaning: the state it leaves, with nIRQ as the sources then stand. -/
def finish (s : State) : Host.Outcome State Fault Refusal :=
  .next s.driveIrq

/-- A summary cause occurs (R164). -/
def State.raise (s : State) (b : SummaryBit) : State :=
  s.modEvents (·.raise b)

/-- A post with the timestamp of the moment it is taken (R155). -/
def State.post (s : State) (kind : EventKind) (line : Option Line) (drop : Option DropIx) (tag : Option Tag)
    (code detail : Byte) : State :=
  s.modEvents (·.post { kind, line, drop, tag, code, detail, stamp := s.clock.timestamp })

/-- DROP_STATE (R24): new state as code, old state as detail. -/
def State.postDropState (s : State) (d : DropIx) (new old : DropState) : State :=
  s.post .dropState (some (s.drop d).line) (some d) none new.code old.code

/-- LINE_ROLE (R126): the line's role as code, the cause as detail. -/
def State.postRole (s : State) (l : Line) (cause : RoleCause) : State :=
  s.post .lineRole (some l) none none (s.line l).role.code cause.code

/-- The overrun bit of a line. -/
def overrunBit : Line → SummaryBit
  | .a => .overrunA
  | .b => .overrunB

/-- The contention bit of a line. -/
def contentionBit : Line → SummaryBit
  | .a => .contentionA
  | .b => .contentionB

end Sys2Proof.Machine
end

