-- ==== Sys2Proof/Machine/Buffers.lean ====
section
/-! DEFINITION. The buffer manager: the pool, claims, storing, and the ready list (chapter 6). -/

namespace Sys2Proof.Machine

/-- The free buffer a claim takes: the lowest numbered (log 19; the number is internal, R108). -/
def State.freeBuffer (s : State) : Option BufIx :=
  allBuffers.find? fun b => (s.buffer b).place = .free

/-- The pool's free count (R110). -/
def State.freeCount (s : State) : Nat :=
  allBuffers.countP fun b => (s.buffer b).place = .free

/-- The buffer assembling on a line (R109). -/
def State.assembling (s : State) (l : Line) : Option BufIx :=
  allBuffers.find? fun b => (s.buffer b).place = .assembling l

/-- The payload buffer a slot holds (R109). -/
def State.heldBy (s : State) (t : Tag) : Option BufIx :=
  allBuffers.find? fun b => (s.buffer b).place = .held t

/-- A buffer returns to the pool. -/
def State.freeAt (s : State) (b : BufIx) : State :=
  s.modBuffer b fun x => { x with place := .free }

/-- The buffer assembling on a line, if any, returns to the pool (R114). -/
def State.freeAssembling (s : State) (l : Line) : State :=
  match s.assembling l with
  | some b => s.freeAt b
  | none => s

/-- The payload buffer of a slot, if any, returns to the pool (R124). -/
def State.freeHeld (s : State) (t : Tag) : State :=
  match s.heldBy t with
  | some b => s.freeAt b
  | none => s

/-- The payload a newly claimed buffer shows before the frame writes it: free values (log 12). -/
def unwritten (n : Nat) : Vector Byte 32 :=
  ⟨((List.range 32).map (Config.unwrittenByte n)).toArray, by simp⟩

/-- An assembly claim (R112): granted, the buffer is assembling on the line with its line, length and store mode written;
denied (R113), POOL_EMPTY is raised and the line's replies lost counter moves. A line assembles at most one buffer (R54): one
that it still assembled would go back to the pool first (log 38). -/
def State.claimAssembly (s : State) (l : Line) (length : Nat) (mode : StoreMode) : State × Claim :=
  let s := s.freeAssembling l
  match s.freeBuffer with
  | some b =>
    ({ s with fresh := s.fresh + 1 }.modBuffer b fun x =>
      { x with place := .assembling l, line := l, length, mode, payload := unwritten s.fresh }, .granted)
  | none => ((s.raise .poolEmpty).countReplyLost l, .denied)

/-- A payload character is written into the line's assembling buffer (R108). -/
def State.writePayload (s : State) (l : Line) (k : Nat) (b : Byte) : State :=
  match s.assembling l with
  | some i => s.modBuffer i fun x => { x with payload := x.payload.setIfInBounds k b }
  | none => s

/-- The positions of the ready list that a REPLACE may take: not the open buffer, same drop, same origin (R117). -/
def State.replaceTargets (s : State) (origin : Origin) (d : DropIx) : List BufIx :=
  (if s.opened then s.ready.drop 1 else s.ready).filter fun i =>
    (s.buffer i).origin = origin && (s.buffer i).drop = d

/-- Stores a buffer that has left its line, by its store mode: at the tail (R116), or in the place of the target nearest the
tail, which is freed (R117). -/
def State.storeReady (s : State) (b : BufIx) : State :=
  let x := s.buffer b
  let s := s.modBuffer b fun x => { x with place := .ready, replaced := 0 }
  match x.mode, (s.replaceTargets x.origin x.drop).getLast? with
  | .replace, some old =>
    let count := min 255 ((s.buffer old).replaced + 1)
    let s := s.modBuffer b fun x => { x with replaced := count }
    let s := s.freeAt old
    { s with ready := s.ready.map fun i => if i = old then b else i }
  | .replace, none | .append, _ => { s with ready := s.ready ++ [b] }

/-- The hand-over of the line's assembling buffer at a good reply's clean end (R115). The stop bit of the check character ends
`Config.stopTail` samples later, and until then or until it is opened the timestamp goes on with the ticks (log 40). -/
def State.handOver (s : State) (l : Line) (origin : Origin) (tag : Option Tag) (d : DropIx) (attention extra : Bool) :
    State :=
  match s.assembling l with
  | none => s
  | some b =>
    let s := s.modBuffer b fun x =>
      { x with origin, tag, drop := d, kind := .reply, attention, extraPoll := extra, stamp := s.clock.timestamp
               cycle := (s.line l).cycle.number }
    let s := s.modLine l fun e => { e with stamping := some { buffer := b, left := Config.stopTail * e.divisor } }
    s.storeReady b

/-- A tick that falls `n` periods from now, on the timestamp of the line's last stored reply: up to the end of the stop bit of
its check character, that moment taken in (log 4), the timestamp is the new count, if the buffer still holds that reply (R115,
R153, log 40). -/
def State.tickStamp (s : State) (l : Line) (n : Nat) : State :=
  match (s.line l).stamping with
  | none => s
  | some x =>
    let s := s.modLine l fun e =>
      { e with stamping := if x.left < n then none else some { x with left := x.left - n } }
    if n ≤ x.left ∧ (s.buffer x.buffer).place = .ready ∧ (s.buffer x.buffer).line = l then
      s.modBuffer x.buffer fun b => { b with stamp := s.clock.timestamp }
    else s

/-- SUBMIT's claim for a DATA payload (R111): refused while the free count is 2 or less, else one free buffer is held by the
slot with the first `length` payload bytes of the staging area. -/
def State.claimPayload (s : State) (t : Tag) (length : Nat) : State :=
  match s.freeBuffer with
  | some b =>
    s.modBuffer b fun x =>
      { x with place := .held t, length
               payload := ⟨((List.range 32).map fun k =>
                 if k < length then s.staging.payload.toList.getD k 0 else x.payload.toList.getD k 0).toArray, by simp⟩ }
  | none => s

/-- The payload bytes a slot's DATA call carries (R43): the first `length` bytes of its buffer. -/
def State.payloadOf (s : State) (t : Tag) : List Byte :=
  match s.heldBy t with
  | some b => (s.buffer b).payload.toList.take (s.slot t).length
  | none => []

/-- The timestamp of a buffer that is about to be opened becomes final, for an open buffer is not written (R121): while the stop
bit of its check character lasts, the ticks that fall up to the end of that bit are counted in ahead (R115, log 40). -/
def State.settleStamp (s : State) (b : BufIx) : State :=
  let l := (s.buffer b).line
  match (s.line l).stamping with
  | some x =>
    if x.buffer = b then
      (s.modLine l fun e => { e with stamping := none }).modBuffer b fun y =>
        { y with stamp := y.stamp + BitVec.ofNat 32 (s.clock.ticksIn x.left) }
    else s
  | none => s

/-- The buffer at the head of the ready list, if there is one, becomes the open buffer, its timestamp final (R120, R121). -/
def State.openHead (s : State) : State :=
  match s.ready with
  | [] => s
  | b :: _ => { s.settleStamp b with opened := true }

/-- The open buffer leaves the head of the ready list and becomes free (R123). -/
def State.releaseHead (s : State) : State :=
  match s.ready with
  | [] => s
  | b :: rest => { s.freeAt b with ready := rest, opened := false }

/-- Every buffer is free, the ready list empty and no buffer open (R125). -/
def State.freeAllBuffers (s : State) : State :=
  { s.modBuffers fun x => { x with place := .free } with ready := [], opened := false }

end Sys2Proof.Machine
end

