-- ==== Sys2Proof/Machine/DropTable.lean ====
section
/-! DEFINITION. The drop table: reports and state changes (chapter 2). -/

namespace Sys2Proof.Machine

/-- Failure count and state after a FAIL report on an enabled drop (R26): the count increases by one up to 15; at or above
the threshold the drop is OFFLINE, below it an ONLINE drop becomes SUSPECT. -/
def Drop.fail (d : Drop) : Drop :=
  let n := min 15 (d.failures + 1)
  let state :=
    if d.state = .offline || n ≥ d.threshold then .offline
    else if d.state = .online then .suspect
    else d.state
  { d with failures := n, state }

/-- State, count and fresh flag after a success of an enabled drop (R25, R135). -/
def Drop.succeed (d : Drop) : Drop :=
  { d with state := .online, failures := 0, fresh := false }

/-- Step 4 of R25: what the class of a transaction's outcome does to an enabled drop. -/
def Drop.classify (d : Drop) (c : OutcomeClass) : Drop :=
  if d.enabled then
    match c with
    | .success | .alive => d.succeed
    | .fail => d.fail
    | .neutral | .requestOnly => d
  else d

/-- The transaction statistics of R35. -/
def DropStats.transaction (x : DropStats) : OutcomeClass → DropStats
  | .success => { x with successes := satInc x.successes }
  | .fail => { x with failures := satInc x.failures }
  | .alive | .neutral | .requestOnly => x

/-- The attempt statistics of R35. -/
def DropStats.attempt (x : DropStats) : TxnOutcome → DropStats
  | .busy => { x with busies := satInc x.busies }
  | .timeout => { x with timeouts := satInc x.timeouts }
  | .gap | .check | .framing | .length | .unexpected => { x with replyErrors := satInc x.replyErrors }
  | .none | .ok | .noBuffer | .contention | .clockFault | .aborted | .dropDisabled | .lineStopped | .lineReset => x

/-- Steps 1 to 4 of an end report on the record (R25). -/
def Drop.endReport (d : Drop) (o : TxnOutcome) (began : Bool) : Drop :=
  let d := { d with lastOutcome := o, toggle := if began then !d.toggle else d.toggle,
                    stats := d.stats.transaction o.cls }
  d.classify o.cls

/-- Posts DROP_STATE if the drop's state is no longer `old` (R24). -/
def State.postIfChanged (s : State) (d : DropIx) (old : DropState) : State :=
  if (s.drop d).state = old then s else s.postDropState d (s.drop d).state old

/-- An end report (R25). -/
def State.endReport (s : State) (d : DropIx) (o : TxnOutcome) (began : Bool) : State :=
  (s.modDrop d (·.endReport o began)).postIfChanged d (s.drop d).state

/-- An attempt report (R32): statistics (R35), then attention of a good reply from an enabled drop (R33). -/
def State.attemptReport (s : State) (d : DropIx) (o : TxnOutcome) (good attention extra : Bool) : State :=
  let s := s.modDrop d fun x => { x with stats := x.stats.attempt o }
  if good && attention && (s.drop d).enabled then
    match (s.drop d).attnPolicy with
    | .ignore => s
    | .report => s.post .dropAttention (some (s.drop d).line) (some d) none 0 0
    | .extraPoll => if extra then s else s.modDrop d fun x => { x with attention := true }
  else s

/-- A stale report (R49). -/
def State.staleReport (s : State) (d : DropIx) : State :=
  s.modDrop d fun x => { x with stats := { x.stats with stales := satInc x.stats.stales } }

/-- The record after an observed success with this toggle on this line (R135). -/
def Drop.observe (d : Drop) (l : Line) (toggle : Bool) : Drop :=
  let d := { d with stats := { d.stats with observations := satInc d.stats.observations } }
  if d.enabled && d.line = l then { d.succeed with toggle := !toggle } else d

/-- An observation report (R135). -/
def State.observation (s : State) (d : DropIx) (l : Line) (toggle : Bool) : State :=
  (s.modDrop d (·.observe l toggle)).postIfChanged d (s.drop d).state

/-- The record an accepted DROP_ENABLE leaves (R30). -/
def Drop.enable (d : Drop) : Drop :=
  { d with state := .unknown, failures := 0, toggle := false, fresh := true, attention := false }

/-- The record an accepted DROP_DISABLE leaves (R31). -/
def Drop.disable (d : Drop) : Drop :=
  { d with state := .disabled, failures := 0, attention := false }

/-- What a soft reset does to a record (R39). -/
def Drop.softReset (d : Drop) : Drop :=
  { d with state := if d.enabled then .unknown else .disabled, failures := 0, toggle := false, fresh := d.enabled,
           attention := false, lastOutcome := .none, stats := .zero }

/-- What a line reset does to a record (R40). -/
def Drop.lineReset (d : Drop) (l : Line) : Drop :=
  if d.line = l then { d with attention := false } else d

end Sys2Proof.Machine
end

