-- ==== Sys2Proof/Machine/Requests.lean ====
section
/-! DEFINITION. The request unit: queues, completion, put back, and the judgement of SUBMIT (chapter 5). -/

namespace Sys2Proof.Machine

/-- The queue of a line that a priority names (R96). -/
def LineEngine.queueOf (e : LineEngine) : Priority → List Tag
  | .urgent => e.urgent
  | .normal => e.normal

/-- Changes the queue of a line that a priority names. -/
def LineEngine.modQueue (e : LineEngine) (p : Priority) (f : List Tag → List Tag) : LineEngine :=
  match p with
  | .urgent => { e with urgent := f e.urgent }
  | .normal => { e with normal := f e.normal }

/-- A tag leaves the queue it stands in; the other tags keep their order (R96). -/
def State.unqueue (s : State) (t : Tag) : State :=
  s.modLine (s.slot t).line fun e => e.modQueue (s.slot t).priority (·.filter (· ≠ t))

/-- Completion (R98): the slot becomes DONE with its outcome, the payload buffer returns to the pool, REQUEST_DONE is
posted. -/
def State.complete (s : State) (t : Tag) (o : TxnOutcome) (length : Nat) (stored : Bool) : State :=
  let s := s.modSlot t fun x =>
    { x with state := .done, outcome := o, abortPending := false, replyLength := length, replyStored := stored }
  let s := s.freeHeld t
  s.post .requestDone (some (s.slot t).line) (some (s.slot t).drop) (some t) o.code (byteOf (s.slot t).attempts)

/-- Completion of a request that is still queued (R101, R104 to R106). -/
def State.completeQueued (s : State) (t : Tag) (o : TxnOutcome) : State :=
  (s.unqueue t).complete t o 0 false

/-- Completes the queued requests of a line that `which` names, in the order of R96. -/
def State.completeAll (s : State) (l : Line) (which : Slot → Bool) (o : TxnOutcome) : State :=
  (((s.line l).urgent ++ (s.line l).normal).filter fun t => which (s.slot t)).foldl (fun s t => s.completeQueued t o) s

/-- A request is put back at the front of its queue (R103); `length` is the reply length that its last attempt gives the slot
if no further attempt follows (R99). -/
def State.putBack (s : State) (t : Tag) (length : Nat) : State :=
  let s := s.modSlot t fun x => { x with state := .queued, lastLength := length }
  s.modLine (s.slot t).line fun e => e.modQueue (s.slot t).priority (t :: ·)

/-- The end of an attempt as the slot shows it (R97). -/
def State.slotAttempt (s : State) (t : Tag) (attempts : Nat) (o : TxnOutcome) : State :=
  s.modSlot t fun x => { x with attempts, outcome := o }

/-- A request SUBMIT may place, as the staging area and the part stand (R92). -/
structure Request where
  drop     : DropIx
  line     : Line
  kind     : ReqKind
  priority : Priority
  length   : Nat
  tag      : Tag
  deriving DecidableEq, Repr

/-- A DATA with a payload claims a buffer (R92). -/
def needsBuffer (k : ReqKind) (length : Nat) : Bool :=
  k = .data && length ≠ 0

/-- A length SUBMIT accepts for a kind (R92, check 2). -/
def lengthFits (k : ReqKind) (length : Nat) : Bool :=
  match k with
  | .poll => length = 0
  | .data => length ≤ 32

/-- The FREE slot with the lowest tag (R93). -/
def State.freeSlot (s : State) : Option Tag :=
  allTags.find? fun t => (s.slot t).state = .free

/-- The checks of R92, in order; the first that fails is the refusal. -/
def State.judgeSubmit (s : State) : Except CmdRefusal Request :=
  match reqKindOf s.staging.kind, priorityOf s.staging.priority with
  | some kind, some priority =>
    let length := s.staging.length.toNat
    if !lengthFits kind length then .error .badLength
    else match dropOf s.staging.drop with
      | none => .error .badDrop
      | some d =>
        let line := (s.drop d).line
        if !(s.drop d).enabled then .error .dropDisabled
        else if !((s.line line).role = .master || (s.line line).role = .standby) then .error .lineOff
        else match s.freeSlot with
          | none => .error .noSlot
          | some tag =>
            if needsBuffer kind length && s.freeCount ≤ Config.reserve then .error .poolLow
            else .ok { drop := d, line, kind, priority, length, tag }
  | _, _ => .error .badKind

/-- The slot an accepted SUBMIT fills (R93, R94). -/
def Request.slot (r : Request) (sequence : Half) : Slot :=
  { state := .queued, drop := r.drop, line := r.line, kind := r.kind, priority := r.priority, length := r.length, sequence,
    retry := none, attempts := 0, outcome := .none, lastLength := 0, replyLength := 0, replyStored := false
    abortPending := false }

/-- An accepted SUBMIT (R93): the sequence counter moves, the slot is filled, the payload buffer is claimed and filled, the
tag joins the tail of its queue. -/
def State.placeRequest (s : State) (r : Request) : State :=
  let s := { s with sequence := s.sequence + 1 }
  let s := s.setSlot r.tag (r.slot s.sequence)
  let s := if needsBuffer r.kind r.length then s.claimPayload r.tag r.length else s
  s.modLine r.line fun e => e.modQueue r.priority (· ++ [r.tag])

/-- Every slot FREE at its FREE values, the queues, the sequence counter and the staging area cleared (R107, R91). -/
def State.clearRequests (s : State) : State :=
  { s.modLines fun _ e => { e with urgent := [], normal := [] } with
    slots := Vector.replicate 16 .reset, sequence := 0, staging := .reset }

end Sys2Proof.Machine
end

