-- ==== Sys2Proof/Machine/Transactions.lean ====
section
/-! DEFINITION. The transaction controller's ends: outcomes, retries, demotion (chapter 3, R131), and the work selection
with its cycles (chapter 4). -/

namespace Sys2Proof.Machine

/-! ### Cycles (R72 to R74) -/

/-- Posts CYCLE_DONE if the line's cycle events are on (R73, R74). -/
def State.postCycleDone (s : State) (l : Line) (abandoned : Bool) : State :=
  let e := s.line l
  if e.params.cycleEvents then
    s.post .cycleDone (some l) none none (byteOf e.cycle.performed) (byteOf e.cycle.skipped ||| flagBit abandoned 7)
  else s

/-- The walk passed the bank's length: the cycle ends (R73). The continuous rule looks at what it performed (R87). -/
def State.endCycle (s : State) (l : Line) : State :=
  (s.modCycle l fun c => { c with inProgress := false, mayRestart := 0 < c.performed }).postCycleDone l false

/-- A cycle in progress is abandoned when the line leaves the mastering roles (R74). -/
def State.abandonCycle (s : State) (l : Line) : State :=
  if (s.line l).cycle.inProgress then
    (s.modCycle l fun c => { c with inProgress := false, walk := 0, mayRestart := 0 < c.performed }).postCycleDone l true
  else s

/-- The banks of a line swap (R78). -/
def State.swapBanks (s : State) (l : Line) : State :=
  let s := s.modSched l fun x => { x with active := !x.active, swapPending := false }
  s.post .scheduleSwapped (some l) none none (s.line l).sched.activeNumber 0

/-- A cycle start (R72). -/
def State.startCycle (s : State) (l : Line) : State :=
  let s := s.modCycle l fun c => { c with owed := false }
  let s := if (s.line l).sched.swapPending then s.swapBanks l else s
  s.modCycle l fun c =>
    { c with inProgress := true, number := c.number + 1, walk := 0, performed := 0, skipped := 0, gapCount := 0 }

/-! ### The start of a transaction (R42, R43) -/

/-- The call an attempt builds on entering GUARD: toggle and fresh flag of the drop as they stand (R43, R14). The payload
of a SYNC is taken later (R64). -/
def State.buildCall (s : State) (t : Txn) : Call :=
  match t.drop with
  | none => { address := callAddress t.address, control := callControl t.kind false false, payload := [] }
  | some d =>
    { address := callAddress t.address
      control := callControl t.kind (s.drop d).toggle (s.drop d).fresh
      payload := match t.kind, t.source with
        | .data, .request tag => s.payloadOf tag
        | _, _ => [] }

/-- The controller enters GUARD for an attempt of the transaction `t` (R43); the guard value is taken now (R8). -/
def State.enterGuard (s : State) (l : Line) (t : Txn) : State :=
  let call := s.buildCall t
  s.modLine l fun e =>
    { e with ctl := { e.ctl with state := .guard, txn := some t, guard := e.params.guard, call, window := .none,
                                 deciding := false, discard := .passing, reply := .empty } }

/-- A transaction to a drop with source SCHEDULE or EXTRA_POLL starts (R42). -/
def State.startPoll (s : State) (l : Line) (source : TxnSource) (d : DropIx) : State :=
  s.enterGuard l
    { source, drop := some d, address := (s.drop d).address, kind := .poll, retry := (s.drop d).retryLimit, attempts := 0,
      lastOutcome := .none, lastLength := 0, lastStored := false }

/-- A SYNC transaction starts (R64). -/
def State.startSync (s : State) (l : Line) : State :=
  s.enterGuard l
    { source := .sync, drop := none, address := 127, kind := .sync, retry := 0, attempts := 0, lastOutcome := .none,
      lastLength := 0, lastStored := false }

/-- The controller enters PAUSE for an entry with argument `n` (R83); the entry counts as performed (R82). -/
def State.startPause (s : State) (l : Line) (n : Nat) : State :=
  (s.countPerformed l).modCtl l fun c =>
    { c with state := .pause, txn := none, pauseLength := n * 16, pauseTimer := .zero }

/-- The retry limit a request's transaction captures: at its first start 0 for an OFFLINE drop, else the drop's; later the
value kept with the slot (R42, R97). -/
def State.requestRetry (s : State) (t : Tag) : Nat :=
  match (s.slot t).retry with
  | some r => r
  | none => if (s.drop (s.slot t).drop).state = .offline then 0 else (s.drop (s.slot t).drop).retryLimit

/-- The work selection takes a queued request (R97); one that was put back goes on with the reply length of its last attempt (R42,
R99). -/
def State.startRequest (s : State) (l : Line) (t : Tag) : State :=
  let retry := s.requestRetry t
  let s := s.unqueue t
  let s := s.modSlot t fun x => { x with state := .active, retry := some retry }
  let x := s.slot t
  s.enterGuard l
    { source := .request t, drop := some x.drop, address := (s.drop x.drop).address, kind := x.kind.frame, retry,
      attempts := x.attempts, lastOutcome := .none, lastLength := x.lastLength, lastStored := false }

/-! ### Work selection (R80 to R88) -/

/-- The walk of the active bank from the walk position (R80, R81), at most `fuel` entries: skipped entries are counted and
passed, an entry with work starts it, and with no entry left the cycle ends. -/
def walkBank : Nat → Line → State → State
  | 0, l, s => s.endCycle l
  | fuel + 1, l, s =>
    let c := (s.line l).cycle
    let bank := (s.line l).sched.activeBank
    if bank.length ≤ c.walk then s.endCycle l
    else
      let s := s.modCycle l fun c => { c with walk := c.walk + 1 }
      match bank.entries.toList.getD c.walk .sync with
      | .sync => s.startSync l
      | .pause n => s.startPause l n
      | .poll d =>
        let x := s.drop d
        if !x.enabled || x.line ≠ l then walkBank fuel l (s.countSkippedInvalid l)
        else if x.state = .offline && c.number.toNat % x.revisit ≠ 0 then walkBank fuel l (s.countSkippedOffline l)
        else s.startPoll l .schedule d

/-- The continuous rule calls for a cycle start (R87). -/
def LineEngine.continuousStart (e : LineEngine) : Bool :=
  e.params.mode = .continuous && (e.cycle.gapCount ≥ e.params.gapQuota || e.normal.isEmpty) && e.cycle.mayRestart

/-- The line is at a boundary (R84). -/
def LineEngine.atBoundary (e : LineEngine) : Bool :=
  e.role = .master && e.ctl.state = .idle

/-- The lowest-indexed drop of the line that is owed an extra poll (R86). -/
def State.extraPollDrop (s : State) (l : Line) : Option DropIx :=
  allDrops.find? fun d => (s.drop d).attention && (s.drop d).line = l

/-- Step 3 of R85: the walk, if a cycle is in progress. A walk judges at most 24 entries and then finds the cycle's end. -/
def State.scheduleStep (s : State) (l : Line) : State :=
  if (s.line l).cycle.inProgress then walkBank 25 l s else s

/-- Step 4 of R85: a cycle start if one is owed or the continuous rule calls for one, and step 3 for the new cycle. A cycle
that starts and ends here performed nothing and cleared the pending flag, so no further start follows at this boundary. -/
def State.cycleStep (s : State) (l : Line) : State :=
  if !(s.line l).cycle.inProgress && ((s.line l).cycle.owed || (s.line l).continuousStart) then
    (s.startCycle l).scheduleStep l
  else s

/-- Step 5 of R85: a normal request, counted in the gap (R87). -/
def State.normalStep (s : State) (l : Line) : State :=
  match (s.line l).normal with
  | [] => s
  | t :: _ =>
    (s.modLine l fun e =>
      { e with cycle := { e.cycle with
          gapCount := if e.cycle.gapCount < e.params.gapQuota then e.cycle.gapCount + 1 else e.cycle.gapCount } }).startRequest l t

/-- The work selection of a line (R84, R85); off a boundary it does nothing. -/
def State.select (s : State) (l : Line) : State :=
  if !(s.line l).atBoundary then s
  else match (s.line l).urgent with
    | t :: _ => s.startRequest l t
    | [] =>
      match s.extraPollDrop l with
      | some d => (s.modDrop d fun x => { x with attention := false }).startPoll l .extraPoll d
      | none =>
        let s := s.scheduleStep l
        let s := if (s.line l).atBoundary then s.cycleStep l else s
        if (s.line l).atBoundary then s.normalStep l else s

/-! ### The end of a transaction (R59, R60) -/

/-- What becomes of a transaction at its end. -/
inductive Ending where
  | over (o : TxnOutcome)
  | putBack (t : Tag)
  deriving DecidableEq, Repr

/-- The request's abort-pending flag (R59); false for other sources. -/
def State.abortPending (s : State) (t : Txn) : Bool :=
  match t.source with
  | .request tag => (s.slot tag).abortPending
  | .schedule | .extraPoll | .sync => false

/-- The drop of the transaction is enabled; a SYNC has none (R58). -/
def State.dropEnabled (s : State) (t : Txn) : Bool :=
  match t.drop with
  | some d => (s.drop d).enabled
  | none => true

/-- The first case of R59 that applies. -/
def State.ending (s : State) (l : Line) (t : Txn) : Ending :=
  let role := (s.line l).role
  if t.lastOutcome = .ok then .over .ok
  else if s.abortPending t then .over .aborted
  else if !s.dropEnabled t then .over .dropDisabled
  else if role = .stopping then .over .lineStopped
  else if (role = .yielding || role = .standby) && t.attempts < t.retry + 1 then
    match t.source with
    | .request tag => .putBack tag
    | .schedule | .extraPoll | .sync => .over .lineStopped
  else .over t.lastOutcome

/-- How a schedule POLL counts at its transaction's end (R82). -/
def State.countEntry (s : State) (l : Line) (t : Txn) (o : TxnOutcome) : State :=
  if t.source = .schedule then
    if 0 < t.attempts then s.countPerformed l
    else if o = .dropDisabled then s.countSkippedInvalid l
    else s
  else s

/-- The controller is IDLE with no transaction (R59). -/
def Controller.toIdle (c : Controller) : Controller :=
  { c with state := .idle, txn := none, window := .none, deciding := false, discard := .passing, reply := .empty }

/-- The reply fields of a request whose transaction ended: only a POLL's, from its last attempt (R99). -/
def Txn.replyFields (t : Txn) : Nat × Bool :=
  if t.kind = .poll then (t.lastLength, t.lastStored) else (0, false)

/-- The end report of a transaction to a drop (R59, R25). -/
def State.reportEnd (s : State) (t : Txn) (o : TxnOutcome) : State :=
  match t.drop with
  | some d => s.endReport d o (0 < t.attempts)
  | none => s

/-- The completion of a transaction's request (R59, R98). -/
def State.completeTxn (s : State) (t : Txn) (o : TxnOutcome) : State :=
  match t.source with
  | .request tag => s.complete tag o t.replyFields.1 t.replyFields.2
  | .schedule | .extraPoll | .sync => s

/-- The controller's transaction ends or is put back, and the controller is IDLE (R59). End report before completion. -/
def State.finishTxn (s : State) (l : Line) : State :=
  match (s.line l).ctl.txn with
  | none => s.modCtl l Controller.toIdle
  | some t =>
    match s.ending l t with
    | .putBack tag => (s.modCtl l Controller.toIdle).putBack tag t.lastLength
    | .over o => (((s.countEntry l t o).reportEnd t o).completeTxn t o).modCtl l Controller.toIdle

/-- The early end of what has no attempt in flight: a transaction in GUARD or BACKOFF, or a PAUSE (R60, R83). -/
def State.earlyEnd (s : State) (l : Line) : State :=
  match (s.line l).ctl.state with
  | .guard | .backoff | .pause => s.finishTxn l
  | .idle | .send | .await | .receive | .discard => s

/-! ### Leaving a mastering role; demotion (R130, R131) -/

/-- A frame open at a change of consumer is abandoned: the reader enters FLUSH, and a buffer assembling for the frame is
returned (R6, R114). -/
def State.abandonFrame (s : State) (l : Line) : State :=
  (s.declareError l).freeAssembling l

/-- What every entry to STANDBY does to the observer and the silence count (R132, R137). -/
def State.startStandby (s : State) (l : Line) : State :=
  s.modLine l fun e => { e with observer := .empty, silence := .zero }

/-- Demotion (R131). -/
def State.demote (s : State) (l : Line) : State :=
  let s := s.modLine l fun e => { e with role := .standby }
  let s := s.postRole l .demotion
  let s := s.raise (contentionBit l)
  let s := s.finishTxn l
  let s := s.abandonCycle l
  (s.abandonFrame l).startStandby l

/-- The end of a yield (R130). -/
def State.endYield (s : State) (l : Line) : State :=
  let s := s.earlyEnd l
  let s := s.modLine l fun e => { e with role := .standby }
  let s := s.postRole l .command
  let s := s.abandonCycle l
  (s.abandonFrame l).startStandby l

/-- The receiver, the frame reader, the transmitter, the cycle timer, the observer and the silence count of a line that is
OFF (R2, R20, R67, R132, R137). -/
def LineEngine.stopped (e : LineEngine) : LineEngine :=
  { e with rx := .reset, reader := .reset, tx := .reset, observer := .empty, silence := .zero
           cycle := { e.cycle with timer := 0, expiryDue := false } }

/-- The end of a stop (R130). -/
def State.endStop (s : State) (l : Line) : State :=
  let s := s.earlyEnd l
  let s := s.modLine l fun e => { e with role := .off }
  let s := s.postRole l .command
  let s := s.abandonCycle l
  (s.freeAssembling l).modLine l LineEngine.stopped

/-! ### The end of an attempt (R57, R58) -/

/-- Contention is counted; at the contention limit a MASTER line is demoted (R61, R131). -/
def State.meetContention (s : State) (l : Line) : State :=
  let s := s.countContention l
  if (s.line l).role = .master && (s.line l).contention ≥ (s.line l).params.contentionLimit then s.demote l else s

/-- Another attempt follows (R58). -/
def State.retryFollows (s : State) (l : Line) (t : Txn) (o : TxnOutcome) : Bool :=
  o ≠ .ok && t.kind ≠ .sync && t.attempts < t.retry + 1 && !s.abortPending t && (s.line l).role = .master
    && s.dropEnabled t

/-- The controller enters BACKOFF for the busy backoff in force (R63, R45). -/
def State.enterBackoff (s : State) (l : Line) : State :=
  s.modLine l fun e =>
    { e with ctl := { e.ctl with state := .backoff, window := .none, deciding := false, reply := .empty,
                                 backoffLength := e.params.backoff, backoffCount := 0 } }

/-- After an attempt: a retry, or the end of the transaction and the selection at that boundary (R58, R59). -/
def State.afterAttempt (s : State) (l : Line) (o : TxnOutcome) : State :=
  match (s.line l).ctl.txn with
  | none => s
  | some t =>
    if s.retryFollows l t o then
      if o = .busy then s.enterBackoff l else s.enterGuard l t
    else (s.finishTxn l).select l

/-- Outcomes of an attempt that received a good reply with the right toggle (R32). -/
def TxnOutcome.good : TxnOutcome → Bool
  | .ok | .busy | .noBuffer => true
  | .none | .timeout | .gap | .check | .framing | .length | .unexpected | .contention | .clockFault | .aborted
  | .dropDisabled | .lineStopped | .lineReset => false

/-- The attempt report to the drop table (R57, R32). -/
def State.reportToDrop (s : State) (t : Txn) (o : TxnOutcome) (attention : Bool) : State :=
  match t.drop with
  | some d => s.attemptReport d o o.good attention (t.source = .extraPoll)
  | none => s

/-- The end of an attempt as its request's slot learns it (R57, R97): the slot's attempts used moves here and not when the
call begins, the model's reading (log 37). -/
def State.reportToSlot (s : State) (t : Txn) (o : TxnOutcome) : State :=
  match t.source with
  | .request tag => s.slotAttempt tag t.attempts o
  | .schedule | .extraPoll | .sync => s

/-- The reports of an attempt's end to the drop table and the slot (R57). -/
def State.reportAttempt (s : State) (t : Txn) (o : TxnOutcome) (attention : Bool) : State :=
  (s.reportToDrop t o attention).reportToSlot t o

/-- The transaction after an attempt with outcome `o`: what its request's slot will show of the reply (R99). -/
def Txn.withAttempt (t : Txn) (o : TxnOutcome) (reply : ReplyInfo) : Txn :=
  let stored := o = .ok && reply.claim = .granted
  { t with lastOutcome := o, lastStored := stored, lastLength := if stored || o = .noBuffer then reply.length else 0 }

/-- An attempt ends with outcome `o` (R57): a buffer still assembling is returned (R56), the reports are handed over, and
contention is counted before the retry is judged (R61). -/
def State.endAttempt (s : State) (l : Line) (o : TxnOutcome) : State :=
  match (s.line l).ctl.txn with
  | none => s
  | some t =>
    let reply := (s.line l).ctl.reply
    let t := t.withAttempt o reply
    let s := s.freeAssembling l
    let s := s.modCtl l fun c => { c with txn := some t, window := .none, deciding := false }
    let s := s.reportAttempt t o reply.attention
    if o = .contention then
      let s := s.meetContention l
      if (s.line l).ctl.txn.isSome then s.afterAttempt l o else s
    else s.afterAttempt l o

end Sys2Proof.Machine
end

