-- ==== Sys2Proof/Machine/Roles.lean ====
section
/-! DEFINITION. The role controller: becoming MASTER or STANDBY, yielding and stopping, silence, line reset (chapter 7). -/

namespace Sys2Proof.Machine

/-- A line leaves OFF: receiver, frame reader and cycle timer start from their OFF state, and the working divisor is loaded
(R2, R67, R129, R150). -/
def State.startReceiver (s : State) (l : Line) : State :=
  s.modLine l fun e => { e.stopped with divisor := e.params.divisorFor s.clock.effective }

/-- If the line was STANDBY: the observer forgets what it followed, an open frame is abandoned, a buffer assembling for a
capture is returned (R128 step 1, R132). If it was OFF: the receiver starts. -/
def State.leaveRole (s : State) (l : Line) : State :=
  match (s.line l).role with
  | .standby => (s.abandonFrame l).modLine l fun e => { e with observer := .empty }
  | .off => s.startReceiver l
  | .master | .yielding | .stopping => s

/-- The role of a line becomes MASTER (R128). -/
def State.becomeMaster (s : State) (l : Line) (cause : RoleCause) : State :=
  let s := s.leaveRole l
  let s := s.modLine l fun e =>
    { e with role := .master, silence := .zero, contention := 0
             cycle := { e.cycle with gapCount := e.params.gapQuota
                                     owed := e.cycle.owed || cause = .takeover } }
  (s.postRole l cause).select l

/-- LINE_STANDBY on an OFF line (R129). -/
def State.becomeStandby (s : State) (l : Line) : State :=
  let s := s.startReceiver l
  let s := s.modLine l fun e => { e with role := .standby, observer := .empty, silence := .zero }
  s.postRole l .command

/-- A MASTER line becomes YIELDING; with no attempt in flight the yield ends at once (R129, R130). -/
def State.beginYield (s : State) (l : Line) : State :=
  let s := s.modLine l fun e => { e with role := .yielding }
  let s := s.postRole l .command
  if (s.line l).ctl.state.inFlight then s else s.endYield l

/-- A MASTER line becomes STOPPING, its queued requests complete LINE_STOPPED, and with no attempt in flight the stop ends
at once (R129, R104, R130). -/
def State.beginStop (s : State) (l : Line) : State :=
  let s := s.modLine l fun e => { e with role := .stopping }
  let s := s.postRole l .command
  let s := s.completeAll l (fun _ => true) .lineStopped
  if (s.line l).ctl.state.inFlight then s else s.endStop l

/-- LINE_STOP on a STANDBY line: OFF at once, LINE_ROLE after the completions (R129). -/
def State.stopStandby (s : State) (l : Line) : State :=
  let s := s.freeAssembling l
  let s := s.completeAll l (fun _ => true) .lineStopped
  let s := s.modLine l fun e => { e.stopped with role := .off }
  s.postRole l .command

/-- A character without framing error restarts the silence count (R5, R137). -/
def State.restartSilence (s : State) (l : Line) : State :=
  s.modLine l fun e => { e with silence := .zero }

/-- A tick on the silence count of a STANDBY line; a count at or above a takeover silence other than 0 judges the line silent
unless the flag is set (R137). That a count which holds at 65535 is judged at each tick too, though it no longer increases, is the
model's choice (log 45). -/
def LineEngine.tickSilence (e : LineEngine) : LineEngine :=
  if e.role = .standby then
    let n := satInc e.silence.count
    let judged := e.params.takeoverSilence ≠ 0 && n.toNat ≥ e.params.takeoverSilence && !e.silence.flag
    { e with silence := { e.silence with count := n, due := e.silence.due || judged } }
  else e

/-- A STANDBY line judged silent: the flag, LINE_SILENT, and the takeover if auto-takeover is on (R137, R138). -/
def State.takeSilence (s : State) (l : Line) : State :=
  if (s.line l).role = .standby && (s.line l).silence.due then
    let s := s.modLine l fun e => { e with silence := { e.silence with flag := true, due := false } }
    let s := s.post .lineSilent (some l) none none 0 0
    if (s.line l).params.autoTakeover then s.becomeMaster l .takeover else s
  else s

/-- The ACTIVE request of a reset line completes (R106). -/
def State.resetActive (s : State) (l : Line) : State :=
  match s.txnTag l with
  | some t => s.complete t .lineReset 0 false
  | none => s

/-- The requests of a reset line: the ACTIVE one first, then the queued ones (R106). -/
def State.resetRequests (s : State) (l : Line) : State :=
  (s.resetActive l).completeAll l (fun _ => true) .lineReset

/-- What a line reset and a soft reset leave of a line engine: OFF, everything in hand abandoned, the cycle and its flags
cleared; parameters, banks and active bank kept, and here the counters and queues too (R20, R66, R90, R139, R140). -/
def LineEngine.cleared (e : LineEngine) : LineEngine :=
  { e.stopped with role := .off, ctl := .reset, contention := 0, cycle := .reset
                   sched := { e.sched with swapPending := false } }

/-- A line reset takes effect (R139). -/
def State.resetLine (s : State) (l : Line) : State :=
  let wasOff := (s.line l).role = .off
  let s := s.resetRequests l
  let s := s.freeAssembling l
  let s := s.modDrops fun d => d.lineReset l
  let s := s.modLine l LineEngine.cleared
  if wasOff then s else s.postRole l .reset

end Sys2Proof.Machine
end

