-- ==== Sys2Proof/Machine/Frames.lean ====
section
/-! DEFINITION. The character unit's frame reader (R15 to R18), and its two consumers: the transaction controller (R46 to
R56, R61) and the standby observer (R132 to R136). -/

namespace Sys2Proof.Machine

/-- A received character (R5). -/
structure RxChar where
  data    : Byte
  mark    : Bool
  noisy   : Bool
  framing : Bool
  deriving DecidableEq, Repr

/-- The character that the samples give (R4, R5). -/
def rxChar (c : CharSamples) : RxChar :=
  { data := c.byte, mark := c.markBit, noisy := c.noisy, framing := c.framing }

/-! ### The frame reader -/

/-- The frame reader finds a fault and enters FLUSH (R16, R17). -/
def Reader.toFlush (r : Reader) (gapLimit : Nat) : Reader :=
  { r with state := .flush, gap := gapLimit }

/-- A character in HUNT (R15). -/
def Reader.hunt (r : Reader) (gapLimit : Nat) (c : RxChar) : Reader × Option ReaderReport :=
  if !c.mark then (r, some (.stray c.noisy c.framing))
  else if c.framing then (r.toFlush gapLimit, some (.startFraming c.data))
  else ({ state := .inFrame, position := .control, sum := c.data, expected := 0, gap := gapLimit }, some (.start c.data))

/-- A character without fault at the position of an open frame (R16). -/
def Reader.take (r : Reader) (gapLimit : Nat) (b : Byte) : Reader × Option ReaderReport :=
  match r.position with
  | .control => ({ r with sum := r.sum + b, position := .length }, some (.control b))
  | .length =>
    let r := { r with sum := r.sum + b }
    if 32 < b.toNat then (r.toFlush gapLimit, some (.fault .length))
    else ({ r with expected := b.toNat, position := if b = 0 then .check else .payload 0 }, some (.length b.toNat))
  | .payload k =>
    ({ r with sum := r.sum + b, position := if k + 1 < r.expected then .payload (k + 1) else .check },
      some (.payload k b))
  | .check =>
    if b = ~~~ r.sum then ({ r with state := .hunt, sum := 0 }, some .complete)
    else (r.toFlush gapLimit, some (.fault .check))

/-- The frame reader takes a character and reports (R15 to R17). -/
def Reader.char (r : Reader) (gapLimit : Nat) (c : RxChar) : Reader × Option ReaderReport :=
  match r.state with
  | .hunt => r.hunt gapLimit c
  | .inFrame => if c.framing || c.mark then (r.toFlush gapLimit, some (.fault .framing)) else r.take gapLimit c.data
  | .flush => (r, none)

/-! ### The transaction controller -/

/-- The outcome a frame fault gives (R49, R53, R55). -/
def FrameFault.outcome : FrameFault → TxnOutcome
  | .framing => .framing
  | .gap => .gap
  | .length => .length
  | .check => .check

/-- The controller enters DISCARD. -/
def State.discard (s : State) (l : Line) (why : DiscardWhy) : State :=
  s.modCtl l fun c => { c with state := .discard, discard := why }

/-- The reply's kind or length is in error: the controller declares the frame in error and waits for its quiet end (R52,
R53, R56). -/
def State.faultReply (s : State) (l : Line) (o : TxnOutcome) : State :=
  (s.declareError l).discard l (.faulty o)

/-- The address of the transaction in hand. -/
def Controller.address (c : Controller) : BitVec 7 :=
  match c.txn with
  | some t => t.address
  | none => 0

/-- The kind of the call in hand. -/
def Controller.callKind (c : Controller) : FrameKind :=
  match c.txn with
  | some t => t.kind
  | none => .sync

/-- A report in IDLE, GUARD, BACKOFF or PAUSE (R61, R65): an address character with direction REPLY counts as unsolicited with
or without a framing error, a foreign call's as contention only without one (log 27). -/
def State.quietReport (s : State) (l : Line) : ReaderReport → State
  | .start b => if isReply b then s.countUnsolicited l else s.meetContention l
  | .startFraming b => if isReply b then s.countUnsolicited l else s
  | .stray _ _ => s.countUnsolicited l
  | .control _ | .length _ | .payload _ _ | .complete | .fault _ | .closed => s

/-- A report in AWAIT (R47, R48). -/
def State.awaitReport (s : State) (l : Line) : ReaderReport → State
  | .start b =>
    if !isReply b then s.endAttempt l .contention
    else if addressOf b = (s.line l).ctl.address then s.modCtl l fun c => { c with state := .receive }
    else (s.countStale l).discard l .passing
  | .startFraming b =>
    if isReply b && addressOf b = (s.line l).ctl.address then s.discard l (.faulty .framing)
    else (s.countUnsolicited l).discard l .passing
  | .stray _ _ => s.countUnsolicited l
  | .control _ | .length _ | .payload _ _ | .complete | .fault _ | .closed => s

/-- The control character of the called drop's reply: toggle (R49), then kind (R52). -/
def State.receiveControl (s : State) (l : Line) (b : Byte) : State :=
  if toggleOf b ≠ toggleOf (s.line l).ctl.call.control then
    let s := s.countStale l
    let s := match s.txnDrop l with
      | some d => s.staleReport d
      | none => s
    s.discard l .passing
  else
    let s := s.modCtl l fun c => { c with window := .met }
    match kindOf b with
    | some k =>
      if answers (s.line l).ctl.callKind k then
        s.modCtl l fun c => { c with reply := { c.reply with kind := some k, attention := attentionOf b } }
      else s.faultReply l .unexpected
    | none => s.faultReply l .unexpected

/-- The reply policy a transaction's REPLY with a payload is stored by; none when it is not stored (R54, R112). -/
def State.storeMode (s : State) (t : Txn) : Option StoreMode :=
  match t.source with
  | .request _ => some .append
  | .schedule | .extraPoll | .sync =>
    match t.drop with
    | none => none
    | some d =>
      match (s.drop d).replyPolicy with
      | .queue => some .append
      | .replace => some .replace
      | .discard => none

/-- The length character of the called drop's reply (R53, R54). -/
def State.receiveLength (s : State) (l : Line) (n : Nat) : State :=
  let s := s.modCtl l fun c => { c with reply := { c.reply with length := n } }
  if n = 0 then s
  else if (s.line l).ctl.reply.kind = some .reply then
    match (s.line l).ctl.txn.bind s.storeMode with
    | none => s
    | some mode =>
      let (s, claim) := s.claimAssembly l n mode
      s.modCtl l fun c => { c with reply := { c.reply with claim } }
  else s.faultReply l .length

/-- Origin of a transaction's stored reply, and the tag with it (R115). -/
def TxnSource.origin : TxnSource → Origin × Option Tag
  | .request t => (.request, some t)
  | .schedule | .extraPoll | .sync => (.schedule, none)

/-- The clean end of the called drop's good reply (R55): the hand-over (R115) or REPLY_LOST (R113) comes first. -/
def State.receiveComplete (s : State) (l : Line) : State :=
  let c := (s.line l).ctl
  match c.txn with
  | none => s
  | some t =>
    let d := t.drop.getD 0
    if c.reply.kind = some .busy then s.endAttempt l .busy
    else match c.reply.claim with
      | .none => s.endAttempt l .ok
      | .granted =>
        (s.handOver l t.source.origin.1 t.source.origin.2 d c.reply.attention (t.source = .extraPoll)).endAttempt l .ok
      | .denied =>
        (s.post .replyLost (some l) t.drop t.source.origin.2 t.source.origin.1.code 0).endAttempt l .noBuffer

/-- A report in RECEIVE (R49, R52 to R56). -/
def State.receiveReport (s : State) (l : Line) : ReaderReport → State
  | .control b => s.receiveControl l b
  | .length n => s.receiveLength l n
  | .payload k b => if (s.line l).ctl.reply.claim = .granted then s.writePayload l k b else s
  | .complete => s.receiveComplete l
  | .fault .gap => s.endAttempt l .gap
  | .fault f => s.discard l (.faulty f.outcome)
  | .start _ | .startFraming _ | .stray _ _ | .closed => s

/-- The end of a frame followed in DISCARD (R50, R56, R62). -/
def State.discardEnd (s : State) (l : Line) : State :=
  match (s.line l).ctl.discard with
  | .faulty o => s.endAttempt l o
  | .passing =>
    if (s.line l).ctl.window = .elapsed then s.endAttempt l .timeout
    else s.modCtl l fun c => { c with state := .await }

/-- A report in DISCARD: only the frame's end counts, clean, quiet, or by a gap that closes it at once (R16, R50). -/
def State.discardReport (s : State) (l : Line) : ReaderReport → State
  | .complete | .closed | .fault .gap => s.discardEnd l
  | .fault .framing | .fault .length | .fault .check | .start _ | .startFraming _ | .stray _ _ | .control _ | .length _
  | .payload _ _ => s

/-- A report reaches the transaction controller; in SEND it is kept (R44). -/
def State.controllerReport (s : State) (l : Line) (r : ReaderReport) : State :=
  match (s.line l).ctl.state with
  | .idle | .guard | .backoff | .pause => s.quietReport l r
  | .await => s.awaitReport l r
  | .receive => s.receiveReport l r
  | .discard => s.discardReport l r
  | .send => s.modCtl l fun c => { c with kept := c.kept ++ [r] }

/-! ### The standby observer -/

/-- A frame from the observed address is in hand (7.4). -/
def Follow.inHand : Follow → Bool
  | .candidate | .matched _ _ _ | .unmatched => true
  | .nothing | .call _ _ _ | .failed => false

/-- The observer is emptied; a buffer assembling for a capture is returned (R132). -/
def State.emptyObserver (s : State) (l : Line) : State :=
  (s.freeAssembling l).modObserver l fun _ => .empty

/-- The observed call is forgotten and nothing is followed. -/
def State.forgetCall (s : State) (l : Line) : State :=
  s.modObserver l fun o => { o with call := none, follow := .nothing, capture := .none }

/-- A good address character (R133). -/
def State.observeStart (s : State) (l : Line) (b : Byte) : State :=
  let o := (s.line l).observer
  if !isReply b then s.modObserver l fun o => { o with call := none, follow := .call (addressOf b) none 0 }
  else if o.call.any fun c => c.address = addressOf b then s.modObserver l fun o => { o with follow := .candidate }
  else s.modObserver l fun o => { o with call := none, follow := .nothing }

/-- A control character: kept of a call, judged of a candidate (R134). -/
def State.observeControl (s : State) (l : Line) (b : Byte) : State :=
  let o := (s.line l).observer
  match o.follow, o.call with
  | .call a _ n, _ => s.modObserver l fun o => { o with follow := .call a (some b) n }
  | .candidate, some c =>
    match kindOf b with
    | some k =>
      if toggleOf b = c.toggle && answers c.kind.frame k then
        s.modObserver l fun o => { o with follow := .matched k (attentionOf b) 0 }
      else s.modObserver l fun o => { o with follow := .unmatched }
    | none => s.modObserver l fun o => { o with follow := .unmatched }
  | .candidate, none | .nothing, _ | .matched _ _ _, _ | .unmatched, _ | .failed, _ => s

/-- The store mode a captured reply takes; none when it is not captured (R136). -/
def State.captureMode (s : State) (l : Line) : Option StoreMode :=
  if !(s.line l).params.capture then none
  else match (s.line l).observer.call with
    | none => none
    | some c =>
      match (s.drop c.drop).replyPolicy with
      | .queue => some .append
      | .replace => some .replace
      | .discard => none

/-- A length character (R134, R136). -/
def State.observeLength (s : State) (l : Line) (n : Nat) : State :=
  match (s.line l).observer.follow with
  | .call a c _ => s.modObserver l fun o => { o with follow := .call a c n }
  | .matched .reply att _ =>
    let s := s.modObserver l fun o => { o with follow := .matched .reply att n }
    if n = 0 then s
    else match s.captureMode l with
      | none => s
      | some mode =>
        let (s, claim) := s.claimAssembly l n mode
        s.modObserver l fun o => { o with capture := if claim = .granted then .assembling else .lost }
  | .matched k att _ =>
    if n = 0 then s.modObserver l fun o => { o with follow := .matched k att 0 }
    else (s.declareError l).modObserver l fun o => { o with call := none, follow := .failed }
  | .nothing | .candidate | .unmatched | .failed => s

/-- A payload character: of a matched reply that is captured it is written into the buffer (R136). -/
def State.observePayload (s : State) (l : Line) (k : Nat) (b : Byte) : State :=
  let o := (s.line l).observer
  match o.follow, o.capture with
  | .matched _ _ _, .assembling => s.writePayload l k b
  | .matched _ _ _, _ | .nothing, _ | .call _ _ _, _ | .candidate, _ | .unmatched, _ | .failed, _ => s

/-- The clean end of a call (R133). -/
def State.observeCall (s : State) (l : Line) (a : BitVec 7) (control : Byte) (n : Nat) : State :=
  let kind : Option ReqKind := match kindOf control with
    | some .poll => if n = 0 then some .poll else none
    | some .data => some .data
    | some .sync | some .reply | some .ack | some .busy | none => none
  match kind, s.dropAt l a with
  | some kind, some d =>
    s.modLine l fun e =>
      { e with observer := { call := some { drop := d, address := a, kind, toggle := toggleOf control },
                             lead := Config.stopTail * e.divisor, timer := .zero, window := e.params.window, elapsed := false, waiting := false, follow := .nothing,
                             capture := .none } }
  | _, _ => s.forgetCall l

/-- An observed success: the capture is completed, then the observation is reported (R135, R136). -/
def State.observeSuccess (s : State) (l : Line) (c : ObservedCall) (attention : Bool) : State :=
  let s := match (s.line l).observer.capture with
    | .none => s
    | .assembling => s.handOver l .observed none c.drop attention false
    | .lost => s.post .replyLost (some l) (some c.drop) none Origin.observed.code 0
  (s.observation c.drop l c.toggle).forgetCall l

/-- The end of a frame from the observed address that did not match: the call is kept while the timer runs (R134). -/
def State.observeUnmatchedEnd (s : State) (l : Line) : State :=
  if (s.line l).observer.elapsed then s.forgetCall l
  else s.modObserver l fun o => { o with follow := .nothing }

/-- The clean end of a frame (R133 to R135). -/
def State.observeComplete (s : State) (l : Line) : State :=
  let o := (s.line l).observer
  match o.follow with
  | .call a (some control) n => s.observeCall l a control n
  | .matched _ att _ =>
    match o.call with
    | some c => s.observeSuccess l c att
    | none => s.forgetCall l
  | .unmatched | .candidate => s.observeUnmatchedEnd l
  | .call _ none _ | .nothing | .failed => s.modObserver l fun o => { o with follow := .nothing }

/-- A fault that the reader follows to its quiet end (R133, R134). -/
def State.observeFault (s : State) (l : Line) : State :=
  match (s.line l).observer.follow with
  | .call _ _ _ => s.forgetCall l
  | .candidate => s.modObserver l fun o => { o with follow := .unmatched }
  | .matched _ _ _ => s.modObserver l fun o => { o with call := none, follow := .failed }
  | .nothing | .unmatched | .failed => s

/-- A gap fault, which closes the frame at once (R134). -/
def State.observeGap (s : State) (l : Line) : State :=
  match (s.line l).observer.follow with
  | .call _ _ _ => s.forgetCall l
  | .candidate | .unmatched => s.observeUnmatchedEnd l
  | .matched _ _ _ | .failed => (s.freeAssembling l).forgetCall l
  | .nothing => s

/-- The quiet end of a frame in error (R134). -/
def State.observeClosed (s : State) (l : Line) : State :=
  match (s.line l).observer.follow with
  | .unmatched => s.observeUnmatchedEnd l
  | .failed => (s.freeAssembling l).forgetCall l
  | .nothing | .call _ _ _ | .candidate | .matched _ _ _ => s

/-- A report reaches the standby observer (R133, R134, R136). -/
def State.observerReport (s : State) (l : Line) : ReaderReport → State
  | .start b => s.observeStart l b
  | .startFraming _ | .stray _ _ => s
  | .control b => s.observeControl l b
  | .length n => s.observeLength l n
  | .payload k b => s.observePayload l k b
  | .complete => s.observeComplete l
  | .fault .gap => s.observeGap l
  | .fault _ => s.observeFault l
  | .closed => s.observeClosed l

/-! ### Which consumer -/

/-- A report goes to the consumer that the role names (R6). -/
def State.deliver (s : State) (l : Line) (r : ReaderReport) : State :=
  match (s.line l).role with
  | .master | .yielding | .stopping => s.controllerReport l r
  | .standby => s.observerReport l r
  | .off => s

/-- The reports kept during SEND are passed on, in order, after the controller has left it (R44); where its transaction ended they
come after the work selection, the model's choice (log 42). A consumer that a change of role took away gets none of them (R6). -/
def State.passKept (s : State) (l : Line) : State :=
  let kept := (s.line l).ctl.kept
  let s := s.modCtl l fun c => { c with kept := [] }
  if (s.line l).role.mastering then kept.foldl (fun s r => s.controllerReport l r) s else s

/-- The frame reader takes a character and its report is delivered (R6, R15). -/
def State.readChar (s : State) (l : Line) (c : RxChar) : State :=
  let e := s.line l
  let (reader, report) := e.reader.char e.params.gapLimit c
  let s := s.modReader l fun _ => reader
  match report with
  | some r => s.deliver l r
  | none => s

end Sys2Proof.Machine
end

