-- ==== Sys2Proof/Machine/Characters.lean ====
section
/-! DEFINITION. The character unit: receiver, idle count, transmitter and echo comparator (R2 to R12), and the rows that are
events on a line. A row whose condition does not hold does not take place: the state is unchanged (log 1). A row that names
the end of a time asserts that the time has passed (log 2). -/

namespace Sys2Proof.Machine

/-! ### The transmitter -/

/-- The transmitter begins a character: it goes onto the echo list and the pin shows its start bit (R1, R10). -/
def Transmitter.begin (x : Transmitter) (c : TxChar) (rest : List TxChar) : Transmitter :=
  { x with pin := false, toSend := rest, sending := some c, timer := .zero
           echoes := x.echoes ++ [{ char := c, ended := false, overdue := .zero }] }

/-- The echo list after the character in transmission has ended. -/
def Transmitter.endEchoes (x : Transmitter) : List Echo :=
  x.echoes.map fun e => { e with ended := true }

/-- The character in transmission ends: the next one begins back to back, or driver enable is released at the end of the
last one or of a frame that is stopped (R10 to R12). -/
def Transmitter.charEnd (x : Transmitter) : Transmitter :=
  let x := { x with echoes := x.endEchoes }
  match x.stop, x.toSend with
  | none, c :: rest => x.begin c rest
  | none, [] | some _, _ => { x with sending := none, enable := false, pin := true, tail := true, timer := .zero }

/-- Between rows the transmitter goes on: once the echo of the character in transmission has been judged, a further start
bit or a missing echo belongs to the next character (log 11). -/
def Transmitter.advance (x : Transmitter) : Transmitter :=
  match x.stop, x.echoes, x.toSend, x.sending with
  | none, [], c :: rest, some _ => x.begin c rest
  | _, _, _, _ => x

/-- The transmitter empty after a frame: driver enable released, the pin at 1, no echo waited for (R11, R12); the time of the
second case of R6 begins. -/
def Transmitter.ended (x : Transmitter) : Transmitter :=
  { x with enable := false, pin := true, toSend := [], sending := none, echoes := [], stop := none, tail := true }

/-- A frame is in progress; one whose last stop bit has ended still is while an echo of it is not judged (R145, log 43). -/
def Transmitter.inProgress (x : Transmitter) : Bool :=
  x.enable || x.sending.isSome || !x.echoes.isEmpty

/-- A reset that waits stops the frame in progress: no further character is begun (R12, R176). A contention or a clock fault met
earlier stands, and its report may still come during the wait (R139, log 10). -/
def Transmitter.haltForReset (x : Transmitter) : Transmitter :=
  if x.inProgress then { x with stop := x.stop <|> some .reset } else x

/-- A clock fallback stops the frame: no further character is begun and the ending is clock fault, whatever stopped the frame
before and is not reported yet (R12, R62, R148). -/
def Transmitter.clockFault (x : Transmitter) : Transmitter :=
  { x with stop := some .clockFault }

/-- The echo comparator takes a character (R10, R11): without a stop cause it is compared with the oldest entry, which is
removed; after one, or with none waited for, it is discarded. -/
def Transmitter.echo (x : Transmitter) (c : RxChar) : Transmitter :=
  match x.stop, x.echoes with
  | none, e :: rest =>
    let x := { x with echoes := rest }
    if c.data = e.char.data && c.mark = e.char.mark && !c.framing then x else { x with stop := some .contention }
  | none, [] | some _, _ => x

/-- The transmitter begins a frame: driver enable asserted at the first start bit (R10). -/
def Transmitter.start (x : Transmitter) (chars : List TxChar) : Transmitter :=
  match chars with
  | [] => x
  | c :: rest => { x with enable := true, echoes := [], stop := none, tail := false }.begin c rest

/-! ### Guard and call (R9, R43, R64) -/

/-- A reset waits that will stop every frame of the line: no new frame begins then (R12, R176, log 9). -/
def State.resetWaits (s : State) (l : Line) : Bool :=
  s.command.busy = some .softReset || s.command.busy = some (.lineReset l)

/-- GUARD_SATISFIED can take place: the controller waits in GUARD and the line is idle (R9, R43). -/
def State.mayCall (s : State) (l : Line) : Bool :=
  let e := s.line l
  e.role = .master && e.ctl.state = .guard && e.ctl.txn.isSome && e.rx.state = .huntEdge && !e.tx.enable
    && !s.resetWaits l

/-- A row asserts that the line has been idle for `n` bit times (R7, R9): where they are more than the idle count has, the last of
them ends now, and with it the rest of a stop bit, the samples and the sample period in progress (log 2). -/
def Receiver.idleFor (r : Receiver) (n : Nat) : Receiver :=
  if n ≤ r.idle then r else { r with idle := n, idleSamples := 0, stopTail := 0, phase := 0 }

/-- A row asserts that the line has been idle for `n` bit times (R7, R9): where it puts the idle count up, the stop bit of a stored
reply is over too (R115, log 2). -/
def LineEngine.idleFor (e : LineEngine) (n : Nat) : LineEngine :=
  { e with rx := e.rx.idleFor n, stamping := if n ≤ e.rx.idle then e.stamping else none }

/-- What a row that carries the next sample leaves of the stop bit of a stored reply: no more than the samples after it (R115,
log 2). -/
def LineEngine.stampAtSample (e : LineEngine) : Option OpenStamp :=
  if e.rx.stopTail = 0 then e.stamping
  else e.stamping.map fun x => { x with left := min x.left ((e.rx.stopTail - 1) * e.divisor) }

/-- What a row that carries a character's samples up to the `n`-th leaves of the stop bit of a reply stored before it: nothing where
the row asserts those samples, and what the periods have left where they have been counted (R115, log 2). -/
def LineEngine.stampAfterSamples (e : LineEngine) (n : Nat) : Option OpenStamp :=
  if n ≤ e.rx.sampleNo then e.stamping else none

/-- The call as it goes onto the wire: a SYNC takes the timestamp now, least significant byte first (R64). -/
def State.wireCall (s : State) (l : Line) : Call :=
  let c := (s.line l).ctl
  if c.callKind = .sync then { c.call with payload := stampBytesLE s.clock.timestamp } else c.call

/-- The first start bit of the call begins (R43): attempts used moves, the working divisor is reloaded (R150), and a SYNC
entry counts as performed (R82). -/
def State.beginCall (s : State) (l : Line) : State :=
  let call := s.wireCall l
  let s := s.reloadDivisor l
  let s := s.modLine l fun e =>
    { e.idleFor e.ctl.guard with
      tx := e.tx.start call.chars
      ctl := { e.ctl with state := .send, call, txn := e.ctl.txn.map fun t => { t with attempts := t.attempts + 1 } } }
  if (s.line l).ctl.callKind = .sync then s.countPerformed l else s

/-- GUARD_SATISFIED (R43). -/
def execGuardSatisfied (l : Line) (s : State) : Host.Outcome State Fault Refusal :=
  finish (if s.mayCall l then s.beginCall l else s)

/-! ### The end of a call (R44) -/

/-- FRAME_SENT can take place: the echo of every character of the frame has matched (R10). -/
def State.frameIsSent (s : State) (l : Line) : Bool :=
  let e := s.line l
  e.ctl.state = .send && e.tx.stop.isNone && e.tx.toSend.isEmpty && e.tx.echoes.isEmpty

/-- The time since the end of the frame's last stop bit, from which the response window counts: none has passed unless the
last echo was judged after that end (R10). -/
def Transmitter.sinceEnd (x : Transmitter) : BitTimer :=
  if x.sending.isNone && x.tail then x.timer else .zero

/-- The controller enters AWAIT, the response window RUNNING at the captured length (R46), with the time it has counted. -/
def State.enterAwait (s : State) (l : Line) (counted : BitTimer) : State :=
  s.modLine l fun e =>
    { e with ctl := { e.ctl with state := .await, window := .running, windowLength := e.params.window,
                                 windowTimer := counted, deciding := false } }

/-- A frame is sent (R44): the consecutive contention count is 0; a SYNC ends OK (R64), any other call waits for its
reply. The reports kept during SEND are judged last; after a SYNC that is after the work selection, in the state that its next
work has entered: the model's choice (log 42). -/
def State.frameSent (s : State) (l : Line) : State :=
  let counted := (s.line l).tx.sinceEnd
  let s := s.modLine l fun e => { e with tx := e.tx.ended, contention := 0 }
  let s := if (s.line l).ctl.callKind = .sync then s.endAttempt l .ok else s.enterAwait l counted
  s.passKept l

/-- FRAME_SENT (R10, R44). -/
def execFrameSent (l : Line) (s : State) : Host.Outcome State Fault Refusal :=
  finish (if s.frameIsSent l then s.frameSent l else s)

/-- ECHO_MISSING (R11): the oldest character sent whose echo is not judged has none; it is a mismatch. -/
def execEchoMissing (l : Line) (s : State) : Host.Outcome State Fault Refusal :=
  finish (s.modTx l fun x =>
    let x := x.advance
    if x.stop.isNone && !x.echoes.isEmpty then { x with stop := some .contention } else x)

/-- The transmitter has stopped for this cause and the controller is in SEND. -/
def State.stoppedFor (s : State) (l : Line) (c : StopCause) : Bool :=
  (s.line l).ctl.state = .send && (s.line l).tx.stop = some c

/-- The transmitter has ended its character, is empty, and the attempt ends with outcome `o` (R11, R12, R44). The reports kept
during SEND are judged last; where the attempt was the transaction's last one that is after the work selection, in the state that
the next work has entered: the model's choice (log 42). -/
def State.endCall (s : State) (l : Line) (o : TxnOutcome) : State :=
  ((s.modTx l Transmitter.ended).endAttempt l o).passKept l

/-- CONTENTION_REPORT (R11, R44). -/
def execContentionReport (l : Line) (s : State) : Host.Outcome State Fault Refusal :=
  finish (if s.stoppedFor l .contention then s.endCall l .contention else s)

/-- CLOCK_FAULT_REPORT (R12, R44, R62). -/
def execClockFaultReport (l : Line) (s : State) : Host.Outcome State Fault Refusal :=
  finish (if s.stoppedFor l .clockFault then s.endCall l .clockFault else s)

/-! ### The receiver -/

/-- START_BIT (R3): in HUNT_EDGE a sample reads 0. The idle count is 0 (R7, R9); with the frame reader in HUNT and no frame in
progress the working divisor is reloaded (R150). -/
def State.startBit (s : State) (l : Line) : State :=
  let s := s.modLine l fun e => { e with stamping := e.stampAtSample }
  let s := if (s.line l).reader.state = .hunt && !(s.line l).tx.enable then s.reloadDivisor l else s
  s.modLine l fun e =>
    { e with
      tx := e.tx.advance
      rx := { e.rx with state := .receiving, sampleNo := 1, samples := [], phase := 0, afterRelease := !e.tx.enable, idle := 0,
                        idleSamples := 0, stopTail := e.rx.stopTail - 1 } }

/-- START_BIT (R3). -/
def execStartBit (l : Line) (s : State) : Host.Outcome State Fault Refusal :=
  finish (if (s.line l).role ≠ .off && (s.line l).rx.state = .huntEdge then s.startBit l else s)

/-- A sample of 1 on the idle count (R7): after the rest of the last stop bit, eight make a bit time (log 24, log 25). -/
def Receiver.idleSample (r : Receiver) : Receiver :=
  if 0 < r.stopTail then { r with stopTail := r.stopTail - 1 }
  else if 7 ≤ r.idleSamples then { r with idle := min Config.idleCeiling (r.idle + 1), idleSamples := 0 }
  else { r with idleSamples := r.idleSamples + 1 }

/-- LINE_SEEN_HIGH (R2): the sample that reads 1 counts for the idle count (R7). -/
def execLineSeenHigh (l : Line) (s : State) : Host.Outcome State Fault Refusal :=
  finish (if (s.line l).role ≠ .off && (s.line l).rx.state = .waitHigh then
    s.modLine l fun e =>
      { e with rx := Receiver.idleSample { e.rx with state := .huntEdge, idle := 0 }, stamping := e.stampAtSample }
  else s)

/-- The wait for the character that was being received when a window or the observer's timer elapsed is over (R51, R134):
still in AWAIT the attempt ends TIMEOUT; a call that is still observed with no reply in hand is forgotten, and what else the
character opened is followed (log 18). -/
def State.settleWait (s : State) (l : Line) : State :=
  let e := s.line l
  if e.ctl.state = .await && e.ctl.deciding then s.endAttempt l .timeout
  else if e.observer.waiting then
    let s := s.modObserver l fun o => { o with waiting := false }
    if e.observer.elapsed && e.observer.call.isSome && !e.observer.follow.inHand then s.forgetCall l else s
  else s

/-- A start bit is found false (R3). The idle count's bit time began after the last sample that read 0, and not before the end
of the last stop bit (R7): of samples 2 to 5 the first `stopTail` belong to it. -/
def State.falseStart (s : State) (l : Line) (samples : EdgeSamples) : State :=
  let s := s.countNoise l
  let s := s.modLine l fun e =>
    { e with
      rx := { e.rx with state := .huntEdge, sampleNo := 0, samples := [], idle := 0
                        idleSamples := min samples.onesAtEnd (4 - e.rx.stopTail), stopTail := 0 }
      stamping := e.stampAfterSamples 5 }
  s.settleWait l

/-- FALSE_START (R3): samples with majority 0 confirm the start bit instead, and reception goes on (log 32). -/
def execFalseStart (l : Line) (samples : EdgeSamples) (s : State) : Host.Outcome State Fault Refusal :=
  finish (if (s.line l).role ≠ .off && (s.line l).rx.state = .receiving && samples.vote.majority then s.falseStart l samples
    else s)

/-- The one place a delivered character goes to (R6): the echo comparator while a frame is in progress, and in the tail of a
frame if its start bit began before driver enable was released; else the frame reader. -/
def State.routeChar (s : State) (l : Line) (c : RxChar) : State :=
  let e := s.line l
  if e.tx.enable || (e.tx.tail && !e.rx.afterRelease) then s.modTx l (·.echo c)
  else (s.modTx l fun x => { x with tail := false }).readChar l c

/-- The receiver delivers a character (R4, R5): noise is counted once, a framing error sends the receiver to WAIT_HIGH, a
character without one restarts the silence count. The idle count starts at the end of the stop bit, three samples later
(R7, log 24). -/
def State.receiveChar (s : State) (l : Line) (c : RxChar) : State :=
  let s := if c.noisy then s.countNoise l else s
  let s := s.modLine l fun e =>
    { e with
      rx := { e.rx with state := if c.framing then .waitHigh else .huntEdge, sampleNo := 0, samples := [], idle := 0
                        idleSamples := 0, stopTail := Config.stopTail }
      stamping := e.stampAfterSamples 85 }
  let s := if c.framing then s else s.restartSilence l
  (s.routeChar l c).settleWait l

/-- CHARACTER_RECEIVED (R5): a start bit whose majority is 1 is a false start instead (R3), its sample 2 taken as 0 (log 32). -/
def execCharacterReceived (l : Line) (samples : CharSamples) (s : State) : Host.Outcome State Fault Refusal :=
  finish (if (s.line l).role ≠ .off && (s.line l).rx.state = .receiving then
    if samples.start.majority then s.falseStart l ⟨false, samples.start⟩ else s.receiveChar l (rxChar samples)
  else s)

/-! ### Idle times (R16, R17) -/

/-- The line has been idle for longer than the gap limit in force (R9). -/
def State.gapPassed (s : State) (l : Line) : State :=
  s.modLine l fun e =>
    { e.idleFor (e.reader.gap + 1) with reader := { e.reader with state := .hunt } }

/-- The frame reader is in `r` and the line is idle: its receiver waits for an edge. -/
def LineEngine.idleWith (e : LineEngine) (r : ReaderState) : Bool :=
  e.role ≠ .off && e.reader.state = r && e.rx.state = .huntEdge

/-- GAP_FAULT (R16). -/
def execGapFault (l : Line) (s : State) : Host.Outcome State Fault Refusal :=
  finish (if (s.line l).idleWith .inFrame then (s.gapPassed l).deliver l (.fault .gap) else s)

/-- QUIET_END (R17). -/
def execQuietEnd (l : Line) (s : State) : Host.Outcome State Fault Refusal :=
  finish (if (s.line l).idleWith .flush then (s.gapPassed l).deliver l .closed else s)

/-! ### Windows and waits -/

/-- The window runs in a state in which it counts: AWAIT, RECEIVE before the toggle check, DISCARD of a stale or foreign
frame (R46). -/
def Controller.windowRuns (c : Controller) : Bool :=
  c.window = .running && (c.state = .await || c.state = .receive || (c.state = .discard && c.discard = .passing))

/-- The response window elapses (R51). -/
def State.windowElapsed (s : State) (l : Line) : State :=
  let s := s.modCtl l fun c => { c with window := .elapsed, windowTimer := { c.windowTimer with bits := c.windowLength } }
  if (s.line l).ctl.state = .await then
    if (s.line l).rx.state = .receiving then s.modCtl l fun c => { c with deciding := true }
    else s.endAttempt l .timeout
  else s

/-- RESPONSE_WINDOW_ELAPSED (R51). -/
def execResponseWindowElapsed (l : Line) (s : State) : Host.Outcome State Fault Refusal :=
  finish (if (s.line l).ctl.windowRuns then s.windowElapsed l else s)

/-- The observer's response timer runs (R134). -/
def LineEngine.observerTimerRuns (e : LineEngine) : Bool :=
  e.role = .standby && e.observer.call.isSome && !e.observer.elapsed

/-- The observer's response timer elapses (R134). -/
def State.observerTimerElapsed (s : State) (l : Line) : State :=
  let s := s.modObserver l fun o => { o with elapsed := true, timer := { o.timer with bits := o.window } }
  if (s.line l).observer.follow.inHand then s
  else if (s.line l).rx.state = .receiving then s.modObserver l fun o => { o with waiting := true }
  else s.forgetCall l

/-- OBSERVER_TIMER_ELAPSED (R134). -/
def execObserverTimerElapsed (l : Line) (s : State) : Host.Outcome State Fault Refusal :=
  finish (if (s.line l).observerTimerRuns then s.observerTimerElapsed l else s)

/-- The busy backoff ends at its last tick (R63). -/
def Controller.backoffOver (c : Controller) : Bool :=
  c.state = .backoff && c.backoffCount ≥ c.backoffLength

/-- BACKOFF ends and the controller enters GUARD for the retry (R63). -/
def State.takeBackoff (s : State) (l : Line) : State :=
  match (s.line l).ctl.txn with
  | some t => if (s.line l).ctl.backoffOver then s.enterGuard l t else s
  | none => s

/-- BACKOFF_ELAPSED (R63). -/
def execBackoffElapsed (l : Line) (s : State) : Host.Outcome State Fault Refusal :=
  finish (s.takeBackoff l)

/-- The pause is over (R83): the controller is IDLE. Where the row asserts bit times of the pause, the stop bit of a reply stored
before it is over too (R115, log 2). -/
def LineEngine.pauseOver (e : LineEngine) : LineEngine :=
  { e with ctl := { e.ctl.toIdle with pauseTimer := { e.ctl.pauseTimer with bits := e.ctl.pauseLength } }
           stamping := if e.ctl.pauseLength ≤ e.ctl.pauseTimer.bits then e.stamping else none }

/-- PAUSE_ELAPSED (R83): the controller returns to IDLE and the work selection runs. -/
def execPauseElapsed (l : Line) (s : State) : Host.Outcome State Fault Refusal :=
  finish (if (s.line l).ctl.state = .pause then (s.modLine l LineEngine.pauseOver).select l else s)

/-! ### The end of a yield and of a stop (R130) -/

/-- The line is in this role with no attempt in flight (R130). -/
def LineEngine.mayEnd (e : LineEngine) (r : Role) : Bool :=
  e.role = r && !e.ctl.state.inFlight

/-- YIELD_END (R130). -/
def execYieldEnd (l : Line) (s : State) : Host.Outcome State Fault Refusal :=
  finish (if (s.line l).mayEnd .yielding then s.endYield l else s)

/-- STOP_END (R130). -/
def execStopEnd (l : Line) (s : State) : Host.Outcome State Fault Refusal :=
  finish (if (s.line l).mayEnd .stopping then s.endStop l else s)

end Sys2Proof.Machine
end

