-- ==== Sys2Proof/Machine/Clocks.lean ====
section
/-! DEFINITION. The clock unit: XREF monitor, switch and fallback, ticks (chapter 8), and the rows that are ticks or clock
events. -/

namespace Sys2Proof.Machine

/-! ### Switch and fallback (R146, R148) -/

/-- Both lines, A first. -/
def bothLines : List Line :=
  [.a, .b]

/-- Does the same to both lines, A first. -/
def State.eachLine (s : State) (f : State → Line → State) : State :=
  bothLines.foldl f s

/-- The bit time in progress is begun afresh; the bit times counted are kept (R146). -/
def BitTimer.afresh (t : BitTimer) : BitTimer :=
  { t with phase := 0 }

/-- The samples, of `old` periods each, that `left` periods bring to an end. -/
def samplesIn (old left : Nat) : Nat :=
  (left + (old - 1)) / old

/-- The periods left of a stop bit when a switch makes a sample `new` periods long: as many samples are left, and the one in
progress begins afresh (R146, log 39). -/
def leftAfresh (old new left : Nat) : Nat :=
  samplesIn old left * new

/-- The periods left of a stop bit when a fallback makes a sample `new` periods long: as many samples are left, and the one in
progress keeps the periods it has counted (R147). -/
def leftResumed (old new left : Nat) : Nat :=
  let k := samplesIn old left
  if k = 0 then 0 else (k - 1) * new + max 1 (new - (k * old - left))

/-- A line at a switch: the working divisor is reloaded, bit times in progress begin afresh, counts are kept (R146, R150).
The samples left of a stop bit stay as many (R19): the model's reading (log 39). -/
def LineEngine.switched (e : LineEngine) (src : Source) : LineEngine :=
  { e with
    divisor := e.params.divisorFor src
    rx := { e.rx with phase := 0, idleSamples := 0 }
    ctl := { e.ctl with windowTimer := e.ctl.windowTimer.afresh, pauseTimer := e.ctl.pauseTimer.afresh }
    observer := { e.observer with timer := e.observer.timer.afresh
                                  lead := leftAfresh e.divisor (e.params.divisorFor src) e.observer.lead }
    stamping := e.stamping.map fun x => { x with left := leftAfresh e.divisor (e.params.divisorFor src) x.left } }

/-- The requested source is available (R146). -/
def ClockUnit.available (c : ClockUnit) : Bool :=
  match c.requested with
  | .iosc => true
  | .xref => c.monitor = .present

/-- CLOCK_SWITCH can take place: a switch is pending, its source available, both lines quiet (R146). -/
def State.maySwitch (s : State) : Bool :=
  s.clock.switchPending && s.clock.available && !s.lineA.busy && !s.lineB.busy

/-- The switch (R146). -/
def State.switchClock (s : State) : State :=
  let src := s.clock.requested
  let s := s.modClock fun c => { c with effective := src, prescaler := 0 }
  let s := s.modLines fun _ e => e.switched src
  s.post .clockSwitched none none none src.code 0

/-- CLOCK_SWITCH (R146). -/
def execClockSwitch (s : State) : Host.Outcome State Fault Refusal :=
  finish (if s.maySwitch then s.switchClock else s)

/-- What a fallback does to the receiver, the frame reader, the transmitter and the controller of a line: the character in
hand is abandoned while the counts of periods and samples stand (R147), an open frame is flushed (R19), a frame in progress
stops (R12), and every attempt in SEND, RECEIVE or DISCARD has outcome CLOCK_FAULT (R62, R148 step 3): one in SEND whatever has
stopped its frame before, and with its last character already sent too, for it has no outcome before its report. That a reset
which waits gives way as well is the model's reading (log 10). -/
def LineEngine.fallenBack (e : LineEngine) : LineEngine :=
  { e with
    divisor := e.params.divIosc
    rx := if e.rx.state = .receiving then
        { e.rx with state := .waitHigh, sampleNo := 0, samples := [], idle := 0
                    idleSamples := min e.rx.idleSamples (e.rx.sampleNo - 1 - e.rx.stopTail)
                    stopTail := e.rx.stopTail - (e.rx.sampleNo - 1) }
      else e.rx
    stamping := e.stamping.map fun x => { x with left := leftResumed e.divisor e.params.divIosc x.left }
    reader := if e.reader.state = .inFrame then e.reader.toFlush e.params.gapLimit else e.reader
    tx := if e.ctl.state = .send || e.tx.inProgress then e.tx.clockFault else e.tx
    ctl := if e.ctl.state = .receive || e.ctl.state = .discard then
        { e.ctl with state := .discard, discard := .faulty .clockFault }
      else e.ctl }

/-- The fallback (R148). The observers are emptied (R132, log 16); a wait for a character that is now abandoned ends after the
event (R51, log 23). -/
def State.fallback (s : State) : State :=
  let s := s.modClock fun c => { c with effective := .iosc, requested := .iosc }
  let s := s.modLines fun _ e => e.fallenBack
  let s := s.eachLine fun s l => if (s.line l).role = .standby then s.emptyObserver l else s
  let s := s.post .clockFallback none none none 0 0
  let s := s.raise .clockFallback
  s.eachLine fun s l => if (s.line l).rx.state = .waitHigh then s.settleWait l else s

/-! ### The XREF monitor (R142) -/

/-- The monitor, stopped or started, is ABSENT with nothing counted (R142, R143). -/
def ClockUnit.monitorAbsent (c : ClockUnit) : ClockUnit :=
  { c with monitor := .absent, edges := 0, quiet := 0 }

/-- An edge on the XREF pin while the monitor runs (R142): it restarts the count of quiet periods; a rising edge is counted in
STARTING, and the 4096th makes the monitor PRESENT. -/
def ClockUnit.edge (c : ClockUnit) (rising : Bool) : ClockUnit :=
  if !c.xrefEnable then c
  else
    match c.monitor with
    | .absent => { c with monitor := .starting, edges := if rising then 1 else 0, quiet := 0 }
    | .starting =>
      let n := if rising then c.edges + 1 else c.edges
      { c with edges := n, quiet := 0, monitor := if Config.xrefEdges ≤ n then .present else .starting }
    | .present => { c with quiet := 0 }

/-- XREF_EDGE (R142). -/
def execXrefEdge (rising : Bool) (s : State) : Host.Outcome State Fault Refusal :=
  finish (s.modClock (·.edge rising))

/-- The 4096th rising edge in STARTING (R142). -/
def ClockUnit.edgesDone (c : ClockUnit) : ClockUnit :=
  if c.xrefEnable && c.monitor = .starting then { c with monitor := .present, edges := Config.xrefEdges, quiet := 0 } else c

/-- XREF_PRESENT (R142). -/
def execXrefPresent (s : State) : Host.Outcome State Fault Refusal :=
  finish (s.modClock (·.edgesDone))

/-- XREF is lost (R142): the monitor becomes ABSENT, and if XREF was effective the fallback takes place (R148). -/
def State.loseXref (s : State) : State :=
  let wasEffective := s.clock.effective = .xref && s.clock.monitor = .present
  let s := s.modClock (·.monitorAbsent)
  if wasEffective then s.fallback else s

/-- XREF_LOST (R142, R148). -/
def execXrefLost (s : State) : Host.Outcome State Fault Refusal :=
  finish (if s.clock.xrefEnable && s.clock.monitor ≠ .absent then s.loseXref else s)

/-- A write to CLOCK_CONTROL (R143): a request of XREF sets XREF_ENABLE, and XREF_ENABLE stays set while XREF is requested or
effective. The monitor starts in ABSENT when XREF_ENABLE becomes set and is ABSENT while it is clear. -/
def ClockUnit.control (c : ClockUnit) (v : Byte) : ClockUnit :=
  let requested : Source := if v.getLsbD 0 then .xref else .iosc
  let enable := v.getLsbD 1 || requested = .xref || (c.xrefEnable && c.effective = .xref)
  let c' := { c with requested, xrefEnable := enable }
  if enable && c.xrefEnable then c' else c'.monitorAbsent

/-! ### The cycle timer's expiry (R69, R70) -/

/-- The summary bit and event of an overrun that set the pending flag (R70). -/
def State.reportOverrun (s : State) (l : Line) : State :=
  (s.post .cycleOverrun (some l) none none 0 (lsb (s.line l).cycle.number)).raise (overrunBit l)

/-- An overrun (R70). -/
def State.overrun (s : State) (l : Line) : State :=
  let wasOwed := (s.line l).cycle.owed
  let s := s.countOverrun l
  if wasOwed then s else (s.modCycle l fun c => { c with owed := true }).reportOverrun l

/-- What an expiry does, by cycle mode and role (R69). -/
def State.expire (s : State) (l : Line) : State :=
  let e := s.line l
  if e.params.mode = .timed && e.role.mastering then
    if e.cycle.inProgress then s.overrun l
    else (s.modCycle l fun c => { c with owed := true }).select l
  else s

/-- An expiry that is due is taken (R69). -/
def State.takeExpiry (s : State) (l : Line) : State :=
  if (s.line l).cycle.expiryDue then (s.modCycle l fun c => { c with expiryDue := false }).expire l else s

/-- CYCLE_TIMER_EXPIRY (R69, R70). -/
def execCycleTimerExpiry (l : Line) (s : State) : Host.Outcome State Fault Refusal :=
  finish (s.takeExpiry l)

/-- LINE_SILENT (R137, R138). -/
def execLineSilent (l : Line) (s : State) : Host.Outcome State Fault Refusal :=
  finish (s.takeSilence l)

/-- EVENT_AGE_EXPIRY (R162): the head's age has reached the age limit; EVENTS is active from the tick that made it so, and
nIRQ follows. -/
def execEventAgeExpiry (s : State) : Host.Outcome State Fault Refusal :=
  finish s

/-! ### Ticks (R151) -/

/-- A tick on the cycle timer of a line that is not OFF: at the period the count returns to 0 and an expiry is due (R67). -/
def LineEngine.tickTimer (e : LineEngine) : LineEngine :=
  if e.role = .off then e
  else if e.params.period ≤ e.cycle.timer + 1 then { e with cycle := { e.cycle with timer := 0, expiryDue := true } }
  else { e with cycle := { e.cycle with timer := e.cycle.timer + 1 } }

/-- A tick on a busy backoff in progress (R63). -/
def LineEngine.tickBackoff (e : LineEngine) : LineEngine :=
  if e.ctl.state = .backoff then { e with ctl := { e.ctl with backoffCount := e.ctl.backoffCount + 1 } } else e

/-- A tick since the last cycle ended (R87). -/
def LineEngine.tickRestart (e : LineEngine) : LineEngine :=
  { e with cycle := { e.cycle with mayRestart := true } }

/-- What a tick advances on a line (R151). -/
def LineEngine.tick (e : LineEngine) : LineEngine :=
  e.tickTimer.tickSilence.tickBackoff.tickRestart

/-- What fell due at the last tick and was not taken yet is taken before the next one counts. That the expiry comes first,
then the backoff, then the silent line is the model's choice (log 6). -/
def State.settleTick (s : State) (l : Line) : State :=
  ((s.takeExpiry l).takeBackoff l).takeSilence l

/-- A tick (R151): what fell due at the last one is settled; the timestamp, both lines' counts and the head age advance, and
the timestamp of a reply whose stop bit still lasts (R115); the work selection of each line at a boundary runs. That line A
settles and selects before line B is the model's choice (log 29). -/
def State.tick (s : State) : State :=
  let s := s.eachLine State.settleTick
  let n := s.clock.toTick
  let s := s.modClock fun c => { c with timestamp := c.timestamp + 1, prescaler := 0 }
  let s := s.eachLine fun s l => s.tickStamp l n
  let s := s.modLines fun _ e => e.tick
  let s := s.modEvents (·.tick)
  s.eachLine State.select

/-- TICK (R151). -/
def execTick (s : State) : Host.Outcome State Fault Refusal :=
  finish s.tick

end Sys2Proof.Machine
end

