-- ==== Sys2Proof/Machine/Window.lean ====
section
/-! DEFINITION. The bus interface unit: the register window, 16-bit writes, the timestamp latch and the access port (10.1,
10.2, 10.4). -/

namespace Sys2Proof.Machine

/-! ### The hold register (R169) -/

/-- A more significant byte is held with its field's identity; anything held before is replaced. -/
def State.holdByte (s : State) (id : HoldId) (v : Byte) : State :=
  s.modBus fun u => { u with hold := some (id, v) }

/-- The hold register empties. -/
def State.emptyHold (s : State) : State :=
  s.modBus fun u => { u with hold := none }

/-- The more significant half of a commit: the held byte if the hold register holds this field, else the field's current
one. -/
def State.upperHalf (s : State) (id : HoldId) (current : Byte) : Byte :=
  match s.bus.hold with
  | some (held, b) => if held = id then b else current
  | none => current

/-- The tick divider of a source (R151). -/
def ClockUnit.dividerOf (c : ClockUnit) : Source → Half
  | .iosc => c.divIosc
  | .xref => c.divXref

/-- The hold identity of a source's tick divider. -/
def dividerReg : Source → WideReg
  | .iosc => .tickDivIosc
  | .xref => .tickDivXref

/-- The prescaler restarts with a tick divider committed (R152). -/
def ClockUnit.setDivider (c : ClockUnit) (src : Source) (h : Half) : ClockUnit :=
  match src with
  | .iosc => { c with divIosc := h, prescaler := 0 }
  | .xref => { c with divXref := h, prescaler := 0 }

/-- The commit of a tick divider (R151, R152, R169): 0 is refused. -/
def State.commitDivider (s : State) (src : Source) (v : Byte) : State :=
  let h := halfOf (s.upperHalf (.reg (dividerReg src)) (msb (s.clock.dividerOf src))) v
  let s := s.emptyHold
  if h = 0 then s else s.modClock (·.setDivider src h)

/-- The commit of the event mask: positions that name no kind read 0 (R157). -/
def State.commitMask (s : State) (v : Byte) : State :=
  let h := halfOf (s.upperHalf (.reg .eventMask) (msb s.events.mask)) v
  s.emptyHold.modEvents fun u => { u with mask := h &&& 0x0FFE }

/-! ### Objects of the access port (10.2) -/

/-- Size in bytes of an object. -/
def ObjectSel.size : ObjectSel → Nat
  | .drop _ => 25
  | .sched _ _ => 49
  | .staging => 36
  | .slot _ => 13
  | .buffer => 46
  | .params _ => 17
  | .counters _ => 16

/-- A bank of a schedule by its number. -/
def Schedule.bank (x : Schedule) (n : Bool) : Bank :=
  if n then x.bank1 else x.bank0

/-- Replaces a bank of a schedule. -/
def Schedule.setBank (x : Schedule) (n : Bool) (b : Bank) : Schedule :=
  if n then { x with bank1 := b } else { x with bank0 := b }

/-- The open buffer: the head of the ready list, if it is open (R120). -/
def State.openBuffer (s : State) : Option BufIx :=
  if s.opened then s.ready.head? else none

/-- The bytes of an object as the structure now stands (R179); none for BUFFER with no buffer open. -/
def State.objectBytes (s : State) : ObjectSel → List Byte
  | .drop d => (s.drop d).bytes
  | .sched l n => ((s.line l).sched.bank n).bytes
  | .staging => s.staging.bytes
  | .slot t => (s.slot t).bytes (s.heldBy t).isSome
  | .buffer => (match s.openBuffer with
    | some b => (s.buffer b).bytes
    | none => [])
  | .params l => (s.line l).params.bytes
  | .counters l => (s.line l).counters.bytes

/-- The object that object code and index name (R171): none selected, an object, or a refusal. -/
def State.objectNamed (s : State) (code index : Byte) : Except AccessStatus (Option ObjectSel) :=
  match code.toNat with
  | 0 => .ok none
  | 1 => (match dropOf index with
    | some d => .ok (some (.drop d))
    | none => .error .badObject)
  | 2 => (match index.toNat with
    | 0 => .ok (some (.sched .a false))
    | 1 => .ok (some (.sched .a true))
    | 2 => .ok (some (.sched .b false))
    | 3 => .ok (some (.sched .b true))
    | _ => .error .badObject)
  | 3 => if index = 0 then .ok (some .staging) else .error .badObject
  | 4 => (match tagOf index with
    | some t => .ok (some (.slot t))
    | none => .error .badObject)
  | 5 => if index ≠ 0 then .error .badObject
    else if s.openBuffer.isSome then .ok (some .buffer) else .error .noneOpen
  | 6 => (match lineOf index with
    | some l => .ok (some (.params l))
    | none => .error .badObject)
  | 7 => (match lineOf index with
    | some l => .ok (some (.counters l))
    | none => .error .badObject)
  | _ => .error .badObject

/-- A selection made or cleared, with its snapshot and the status (R171). -/
def State.setSelection (s : State) (o : Option ObjectSel) (status : AccessStatus) : State :=
  let bytes := match o with
    | some o => s.objectBytes o
    | none => []
  s.modBus fun u => { u with hold := none, offset := 0, selected := o, snapshot := bytes, status }

/-- The selection of the object that the two selector registers name (R171). -/
def State.selectObject (s : State) : State :=
  match s.objectNamed s.bus.objectReg s.bus.indexReg with
  | .ok o => s.setSelection o .none
  | .error why => s.setSelection none why

/-- A write to ACCESS_OBJECT or ACCESS_INDEX (R171). -/
def State.writeSelector (s : State) (r : SelectReg) (v : Byte) : State :=
  match r with
  | .object => (s.modBus fun u => { u with objectReg := v }).selectObject
  | .index => (s.modBus fun u => { u with indexReg := v }).selectObject

/-- Size of the selected object, as ACCESS_SIZE shows it. -/
def BusUnit.size (u : BusUnit) : Nat :=
  match u.selected with
  | some o => o.size
  | none => 0

/-- A write to ACCESS_OFFSET (R172). -/
def BusUnit.writeOffset (u : BusUnit) (v : Byte) : BusUnit :=
  if v.toNat ≤ u.size then { u with offset := v.toNat } else u

/-- The offset advances and holds at the object's size (R172). -/
def BusUnit.advance (u : BusUnit) : BusUnit :=
  { u with offset := min u.size (u.offset + 1) }

/-- The byte a read of ACCESS_DATA returns (R172). -/
def BusUnit.dataByte (u : BusUnit) : Byte :=
  if u.offset < u.size then u.snapshot.getD u.offset 0 else 0

/-! ### Fields (R37, R68, R76, R77, R179) -/

/-- What a byte of an object is: an 8-bit field, or half of a 16-bit field. -/
inductive FieldPart where
  | byte | upper | lower
  deriving DecidableEq, Repr

/-- Upper bytes at odd offsets, lower bytes at even ones. -/
def oddUpper (k : Nat) : FieldPart :=
  if k % 2 = 1 then .upper else .lower

/-- The part of its field that a byte of an object is (R179). The four bytes of a buffer's timestamp are judged one by one
(log 30). -/
def ObjectSel.part : ObjectSel → Nat → FieldPart
  | .drop _, k => if k < 11 then .byte else oddUpper k
  | .sched _ _, k => if k = 0 then .byte else oddUpper k
  | .staging, _ => .byte
  | .slot _, k => if k = 7 then .upper else if k = 8 then .lower else .byte
  | .buffer, k => if k = 12 then .upper else if k = 13 then .lower else .byte
  | .params _, k =>
    if k ∈ [0, 2, 6, 10, 15] then .upper else if k ∈ [1, 3, 7, 11, 16] then .lower else .byte
  | .counters _, k => if k % 2 = 0 then .upper else .lower

/-- The host may write the field (10.2). -/
def ObjectSel.writable : ObjectSel → Nat → Bool
  | .drop _, k => k < 7
  | .sched _ _, _ | .staging, _ | .params _, _ => true
  | .slot _, _ | .buffer, _ | .counters _, _ => false

/-- A value of a range, none outside it. -/
def inRange (lo hi n : Nat) : Option Nat :=
  if lo ≤ n ∧ n ≤ hi then some n else none

/-- A configuration field of a drop record takes a value; none out of range (R37). -/
def Drop.write (d : Drop) (k : Nat) (v : Byte) : Option Drop :=
  match k with
  | 0 => (inRange 0 127 v.toNat).map fun _ => { d with address := v.setWidth 7 }
  | 1 => (lineOf v).map fun l => { d with line := l }
  | 2 => (inRange 0 7 v.toNat).map fun n => { d with retryLimit := n }
  | 3 => (inRange 1 15 v.toNat).map fun n => { d with threshold := n }
  | 4 => (inRange 1 16 v.toNat).map fun n => { d with revisit := n }
  | 5 => (replyPolicyOf v).map fun p => { d with replyPolicy := p }
  | 6 => (attnPolicyOf v).map fun p => { d with attnPolicy := p }
  | _ => none

/-- A write to a drop record (R37). -/
def State.writeDrop (s : State) (d : DropIx) (k : Nat) (v : Byte) : Except AccessStatus State :=
  if (s.drop d).enabled then .error .dropEnabled
  else match (s.drop d).write k v with
    | some x => .ok (s.setDrop d x)
    | none => .error .outOfRange

/-- The refusal that the ownership of a bank gives (R77). -/
def Schedule.owner (x : Schedule) (n : Bool) : Option AccessStatus :=
  if x.active = n then some .bankActive else if x.swapPending then some .bankCommitted else none

/-- The length of a bank takes a value; none out of range (R76). -/
def Bank.writeLength (b : Bank) (v : Byte) : Option Bank :=
  (inRange 0 24 v.toNat).map fun n => { b with length := n }

/-- The entry at the offset of its argument takes a kind and an argument; none out of range (R76). -/
def Bank.writeEntry (b : Bank) (k : Nat) (kind arg : Byte) : Option Bank :=
  (entryOf kind arg).map fun e => { b with entries := b.entries.setIfInBounds ((k - 2) / 2) e }

/-- A write to a bank: ownership first, then range (R77). -/
def State.writeBank (s : State) (l : Line) (n : Bool) (b : Option Bank) : Except AccessStatus State :=
  match (s.line l).sched.owner n, b with
  | some why, _ => .error why
  | none, some b => .ok (s.modSched l (·.setBank n b))
  | none, none => .error .outOfRange

/-- A staging byte (R91). -/
def Staging.write (x : Staging) (k : Nat) (v : Byte) : Staging :=
  match k with
  | 0 => { x with drop := v }
  | 1 => { x with kind := v }
  | 2 => { x with priority := v }
  | 3 => { x with length := v }
  | k => { x with payload := x.payload.setIfInBounds (k - 4) v }

/-- An 8-bit line parameter takes a value; none out of range (R8, R45, R68, R140). -/
def LineParams.writeByte (p : LineParams) (k : Nat) (v : Byte) : Option LineParams :=
  match k with
  | 4 => (inRange 1 255 v.toNat).map fun n => { p with gapLimit := n }
  | 5 => (inRange 1 255 v.toNat).map fun n => { p with guard := n }
  | 8 => (inRange 1 255 v.toNat).map fun n => { p with backoff := n }
  | 9 => (cycleModeOf v).map fun m => { p with mode := m }
  | 12 => (inRange 1 16 v.toNat).map fun n => { p with gapQuota := n }
  | 13 => (inRange 0 7 v.toNat).map fun _ =>
      { p with cycleEvents := v.getLsbD 0, autoTakeover := v.getLsbD 1, capture := v.getLsbD 2 }
  | 14 => (inRange 1 255 v.toNat).map fun n => { p with contentionLimit := n }
  | _ => none

/-- A 16-bit line parameter, at the offset of its less significant byte, takes a value; none out of range (R45, R68, R140,
R149). -/
def LineParams.writeHalf (p : LineParams) (k : Nat) (h : Half) : Option LineParams :=
  match k with
  | 1 => (inRange 1 4095 h.toNat).map fun n => { p with divIosc := n }
  | 3 => (inRange 1 4095 h.toNat).map fun n => { p with divXref := n }
  | 7 => (inRange 1 4095 h.toNat).map fun n => { p with window := n }
  | 11 => (inRange 1 65535 h.toNat).map fun n => { p with period := n }
  | 16 => some { p with takeoverSilence := h.toNat }
  | _ => none

/-- An accepted write to the cycle mode or the period restarts the cycle timer and clears the pending flag (R68, log 26). -/
def Cycle.restart (c : Cycle) : Cycle :=
  { c with timer := 0, expiryDue := false, owed := false }

/-- A write to a line parameter, at the offset at which it is committed. -/
def State.writeParam (s : State) (l : Line) (k : Nat) (p : Option LineParams) : Except AccessStatus State :=
  match p with
  | some p => .ok (s.modLine l fun e =>
      { e with params := p, cycle := if k = 9 ∨ k = 11 then e.cycle.restart else e.cycle })
  | none => .error .outOfRange

/-- An 8-bit field judged by its owner (R173 step 4); a read-only one is refused (step 2). -/
def State.commitByte (s : State) (o : ObjectSel) (k : Nat) (v : Byte) : Except AccessStatus State :=
  if !o.writable k then .error .readOnly
  else match o with
    | .drop d => s.writeDrop d k v
    | .sched l n => s.writeBank l n (((s.line l).sched.bank n).writeLength v)
    | .staging => .ok { s with staging := s.staging.write k v }
    | .params l => s.writeParam l k ((s.line l).params.writeByte k v)
    | .slot _ | .buffer | .counters _ => .error .readOnly

/-- The commit of a 16-bit field at the offset of its less significant byte (R173 step 4). -/
def State.commitHalf (s : State) (o : ObjectSel) (k : Nat) (hi lo : Byte) : Except AccessStatus State :=
  if !o.writable k then .error .readOnly
  else match o with
    | .sched l n => s.writeBank l n (((s.line l).sched.bank n).writeEntry k hi lo)
    | .params l => s.writeParam l k ((s.line l).params.writeHalf k (halfOf hi lo))
    | .drop _ | .staging | .slot _ | .buffer | .counters _ => .error .readOnly

/-- ACCESS_STATUS shows what came of a write. -/
def State.setStatus (s : State) (status : AccessStatus) : State :=
  s.modBus fun u => { u with status }

/-- An accepted write updates the snapshot bytes of its field (R173). -/
def State.showWrite (s : State) (k : Nat) (bytes : List Byte) : State :=
  s.modBus fun u =>
    { u with snapshot := u.snapshot.take k ++ bytes ++ u.snapshot.drop (k + bytes.length), status := .none }

/-- What an owner's judgement of the field that starts at offset `k` leaves. -/
def State.settleWrite (s : State) (k : Nat) (bytes : List Byte) (r : Except AccessStatus State) : State :=
  match r with
  | .ok t => t.showWrite k bytes
  | .error why => s.setStatus why

/-- A data write to the selected object at the offset, before the offset advances (R173). -/
def State.writeObject (s : State) (o : ObjectSel) (k : Nat) (v : Byte) : State :=
  match o.part k with
  | .upper => (s.holdByte (.field o k) v).setStatus .none
  | .byte => s.settleWrite k [v] (s.commitByte o k v)
  | .lower =>
    let hi := s.upperHalf (.field o (k - 1)) ((s.objectBytes o).getD (k - 1) 0)
    let s := s.emptyHold
    s.settleWrite (k - 1) [hi, v] (s.commitHalf o k hi v)

/-- A write to ACCESS_DATA (R173). -/
def State.writeData (s : State) (v : Byte) : State :=
  match s.bus.selected with
  | none => s.setStatus .badObject
  | some o =>
    if o.size ≤ s.bus.offset then s.setStatus .badObject
    else (s.writeObject o s.bus.offset v).modBus (·.advance)

/-! ### Reading the register window (R168, R179) -/

/-- A field of the head record, or what an empty window shows (R159). -/
def State.head (s : State) (f : EventRecord → Byte) (none : Byte) : Byte :=
  match s.events.queue with
  | r :: _ => f r
  | [] => none

/-- READY_HEAD (R119). -/
def State.readyHead (s : State) : Byte :=
  match s.ready with
  | b :: _ => byteOf (s.buffer b).drop.val ||| ((s.buffer b).origin.code <<< 5) ||| flagBit s.opened 7
  | [] => 0xFF

/-- Attempts used by the transaction in hand; with none, for which the spec gives no value, 0: the model's choice (log 44). -/
def Controller.attempts (c : Controller) : Nat :=
  match c.txn with
  | some t => t.attempts
  | none => 0

/-- A register of a line block, at its offset from the block's base (10.1, R179). -/
def State.lineRegister (s : State) (l : Line) (k : Nat) : Byte :=
  let e := s.line l
  match k with
  | 0 => e.role.code ||| flagBit e.cycle.inProgress 3 ||| flagBit e.cycle.owed 4 ||| flagBit e.sched.swapPending 5
      ||| flagBit e.sched.active 6 ||| flagBit e.silence.flag 7
  | 1 => msb e.cycle.number
  | 2 => lsb e.cycle.number
  | 3 => byteOf e.cycle.walk
  | 4 => e.ctl.state.code ||| (byteOf e.ctl.attempts <<< 4)
  | 5 => noneOr (fun (d : DropIx) => byteOf d.val) (s.txnDrop l)
  | 6 => msb e.silence.count
  | _ => lsb e.silence.count

/-- The value a read of a register returns (R168, register map). -/
def State.readRegister (s : State) (a : BitVec 6) : Byte :=
  match a.toNat with
  | 0x00 => Config.identity
  | 0x01 => Config.revision
  | 0x02 => s.command.code
  | 0x03 => s.bus.arg0
  | 0x04 => s.bus.arg1
  | 0x05 => flagBit s.command.busy.isSome 0 ||| (s.command.last.code <<< 1)
  | 0x06 => s.command.result
  | 0x07 => s.command.refusal.code
  | 0x08 => s.bus.objectReg
  | 0x09 => s.bus.indexReg
  | 0x0A => byteOf s.bus.offset
  | 0x0B => s.bus.dataByte
  | 0x0C => s.bus.status.code
  | 0x0D => byteOf s.bus.size
  | 0x0E => byteOf s.freeCount
  | 0x0F => byteOf s.ready.length
  | 0x10 => s.readyHead
  | 0x11 => byteOf s.events.queue.length
  | 0x12 => s.head (fun r => byteOf r.kind.code) 0
  | 0x13 => s.head (fun r => noneOr Line.code r.line) 0xFF
  | 0x14 => s.head (fun r => noneOr (fun (d : DropIx) => byteOf d.val) r.drop) 0xFF
  | 0x15 => s.head (fun r => noneOr (fun (t : Tag) => byteOf t.val) r.tag) 0xFF
  | 0x16 => s.head (·.code) 0
  | 0x17 => s.head (·.detail) 0
  | 0x18 => s.head (fun r => stampByte r.stamp 0) 0
  | 0x19 => s.head (fun r => stampByte r.stamp 1) 0
  | 0x1A => s.head (fun r => stampByte r.stamp 2) 0
  | 0x1B => s.head (fun r => stampByte r.stamp 3) 0
  | 0x1D => byteOf s.events.lost
  | 0x1E => msb s.events.mask
  | 0x1F => lsb s.events.mask
  | 0x20 => byteOf s.events.threshold
  | 0x21 => byteOf s.events.ageLimit
  | 0x22 => s.events.irqEnable
  | 0x23 => s.irqStatus
  | 0x24 => s.events.summary
  | 0x26 => s.clock.requested.code ||| flagBit s.clock.xrefEnable 1
  | 0x27 => s.clock.effective.code ||| (s.clock.monitor.code <<< 1) ||| flagBit s.clock.switchPending 3
  | 0x28 => msb s.clock.divIosc
  | 0x29 => lsb s.clock.divIosc
  | 0x2A => msb s.clock.divXref
  | 0x2B => lsb s.clock.divXref
  | 0x2C => stampByte s.clock.timestamp 0
  | 0x2D => s.bus.latch.setWidth 8
  | 0x2E => (s.bus.latch >>> 8).setWidth 8
  | 0x2F => (s.bus.latch >>> 16).setWidth 8
  | 0x1C | 0x25 => 0
  | n => if n < 0x38 then s.lineRegister .a (n - 0x30) else s.lineRegister .b (n - 0x38)

/-! ### Writing the register window (R168) -/

/-- EVENT_THRESHOLD, EVENT_AGE_LIMIT and IRQ_ENABLE (R163, R179). -/
def EventUnit.setThreshold (u : EventUnit) (v : Byte) : EventUnit :=
  match inRange 1 32 v.toNat with
  | some n => { u with threshold := n }
  | none => u

/-- A write to CLOCK_CONTROL (R143); a set bit that the register does not name makes it out of range (R179, log 15). -/
def ClockUnit.writeControl (c : ClockUnit) (v : Byte) : ClockUnit :=
  if v &&& 0xFC = 0 then c.control v else c

/-- A write to any register but CMD, by address; the rest of the map is read-only (R168). -/
def State.writeRegister (s : State) (a : BitVec 6) (v : Byte) : State :=
  match a.toNat with
  | 0x03 => s.modBus fun u => { u with arg0 := v }
  | 0x04 => s.modBus fun u => { u with arg1 := v }
  | 0x08 => s.writeSelector .object v
  | 0x09 => s.writeSelector .index v
  | 0x0A => s.modBus (·.writeOffset v)
  | 0x0B => s.writeData v
  | 0x1C => s.modEvents (·.pop s.clock.timestamp)
  | 0x1E => s.holdByte (.reg .eventMask) v
  | 0x1F => s.commitMask v
  | 0x20 => s.modEvents (·.setThreshold v)
  | 0x21 => s.modEvents fun u => { u with ageLimit := v.toNat }
  | 0x22 => s.modEvents fun u => { u with irqEnable := v &&& 0x07 }
  | 0x25 => s.modEvents (·.clearSummary v)
  | 0x26 => s.modClock (·.writeControl v)
  | 0x28 => s.holdByte (.reg .tickDivIosc) v
  | 0x29 => s.commitDivider .iosc v
  | 0x2A => s.holdByte (.reg .tickDivXref) v
  | 0x2B => s.commitDivider .xref v
  | _ => s

/-- A register write: ignored from the write of SOFT_RESET until it completes (R176). -/
def State.write (s : State) (a : BitVec 6) (v : Byte) : State :=
  if s.command.busy = some .softReset then s else s.writeRegister a v

/-! ### The rows (host accesses with a row of their own, but CMD) -/

/-- SUMMARY_READ (R165). -/
def execSummaryRead (s : State) : Host.Outcome State Fault Refusal :=
  finish ((s.drive (s.readRegister 0x24)).modEvents (·.readSummary))

/-- SUMMARY_CLEAR (R166). -/
def execSummaryClear (mask : Byte) (s : State) : Host.Outcome State Fault Refusal :=
  finish (s.write 0x25 mask)

/-- EVENT_POP (R159). -/
def execEventPop (value : Byte) (s : State) : Host.Outcome State Fault Refusal :=
  finish (s.write 0x1C value)

/-- TIMESTAMP_READ (R170): a read of TIMESTAMP0 latches the three other bytes of the same count. -/
def execTimestampRead (s : State) : Host.Outcome State Fault Refusal :=
  finish ((s.drive (s.readRegister 0x2C)).modBus fun u => { u with latch := (s.clock.timestamp >>> 8).setWidth 24 })

/-- ACCESS_SELECT (R171). -/
def execAccessSelect (reg : SelectReg) (value : Byte) (s : State) : Host.Outcome State Fault Refusal :=
  finish (s.write (match reg with
    | .object => 0x08
    | .index => 0x09) value)

/-- ACCESS_OFFSET_WRITE (R172). -/
def execAccessOffsetWrite (value : Byte) (s : State) : Host.Outcome State Fault Refusal :=
  finish (s.write 0x0A value)

/-- ACCESS_DATA_READ (R172). -/
def execAccessDataRead (s : State) : Host.Outcome State Fault Refusal :=
  finish ((s.drive (s.readRegister 0x0B)).modBus (·.advance))

/-- ACCESS_DATA_WRITE (R173). -/
def execAccessDataWrite (value : Byte) (s : State) : Host.Outcome State Fault Refusal :=
  finish (s.write 0x0B value)

/-- CLOCK_CONTROL_WRITE (R143). -/
def execClockControlWrite (value : Byte) (s : State) : Host.Outcome State Fault Refusal :=
  finish (s.write 0x26 value)

/-- TICK_DIVIDER_WRITE (R152): the less significant byte. -/
def execTickDividerWrite (source : Source) (value : Byte) (s : State) : Host.Outcome State Fault Refusal :=
  finish (s.write (match source with
    | .iosc => 0x29
    | .xref => 0x2B) value)

/-- HOLD_REGISTER_WRITE (R169): the more significant byte of a 16-bit register. -/
def execHoldRegisterWrite (reg : WideReg) (value : Byte) (s : State) : Host.Outcome State Fault Refusal :=
  finish (s.write (match reg with
    | .eventMask => 0x1E
    | .tickDivIosc => 0x28
    | .tickDivXref => 0x2A) value)

end Sys2Proof.Machine
end

