-- ==== Sys2Proof/Machine/Commands.lean ====
section
/-! DEFINITION. The command unit and the commands of the host (10.3), and the device reset. -/

namespace Sys2Proof.Machine

/-! ### The command unit (R174) -/

/-- A command is accepted and completes with a result byte (R174 step 3). -/
def State.done (s : State) (result : Byte) : State :=
  s.modCommand fun c => { c with busy := none, last := .done, result, refusal := .none }

/-- A command is refused (R174 step 3). -/
def State.refuse (s : State) (why : CmdRefusal) : State :=
  s.modCommand fun c => { c with last := .refused, result := 0, refusal := why }

/-- The command whose argument names a line (R127, R71, R78, R139). -/
def State.withLine (s : State) (arg : Byte) (f : Line → State) : State :=
  match lineOf arg with
  | some l => f l
  | none => s.refuse .badLine

/-- The command whose argument names a drop (R30, R31). -/
def State.withDrop (s : State) (arg : Byte) (f : DropIx → State) : State :=
  match dropOf arg with
  | some d => f d
  | none => s.refuse .badDrop

/-- The command whose argument names a tag (R100, R101). -/
def State.withTag (s : State) (arg : Byte) (f : Tag → State) : State :=
  match tagOf arg with
  | some t => f t
  | none => s.refuse .badTag

/-! ### Requests (chapter 5) -/

/-- SUBMIT (R92, R93); the work selection of the line runs if it is at a boundary (R88). -/
def State.runSubmit (s : State) : State :=
  match s.judgeSubmit with
  | .error why => s.refuse why
  | .ok r => ((s.placeRequest r).select r.line).done (byteOf r.tag.val)

/-- RETIRE (R100). -/
def State.runRetire (s : State) : State :=
  s.withTag s.bus.arg0 fun t =>
    if (s.slot t).state = .done then (s.modSlot t fun x => { x with state := .free }).done 0 else s.refuse .notDone

/-- The transaction in GUARD or BACKOFF of a line ends early, and the selection runs at that boundary (R59, R60). -/
def State.endEarly (s : State) (l : Line) : State :=
  match (s.line l).ctl.state with
  | .guard | .backoff => (s.finishTxn l).select l
  | .idle | .send | .await | .receive | .discard | .pause => s

/-- ABORT of an ACTIVE slot (R101, R102): the flag, and the early end of its transaction. -/
def State.abortActive (s : State) (t : Tag) : State :=
  let l := (s.slot t).line
  let s := s.modSlot t fun x => { x with abortPending := true }
  if s.txnTag l = some t then s.endEarly l else s

/-- ABORT (R101, R102). The result byte is the slot's state after the command (log 14). -/
def State.runAbort (s : State) : State :=
  s.withTag s.bus.arg0 fun t =>
    match (s.slot t).state with
    | .queued => (s.completeQueued t .aborted).done SlotState.done.code
    | .active =>
      let s := s.abortActive t
      s.done (s.slot t).state.code
    | .free | .done => s.refuse .notAbortable

/-! ### Drops (chapter 2) -/

/-- A transaction to the drop is in progress on either line (R30, check 3). -/
def State.inUse (s : State) (d : DropIx) : Bool :=
  bothLines.any fun l => s.txnDrop l = some d

/-- An enabled drop of the same line has the same address (R30, check 5). -/
def State.duplicate (s : State) (d : DropIx) : Bool :=
  allDrops.any fun e => (s.drop e).enabled && (s.drop e).line = (s.drop d).line && (s.drop e).address = (s.drop d).address

/-- The checks of R30 on a drop, in order. -/
def State.judgeEnable (s : State) (d : DropIx) : Option CmdRefusal :=
  if (s.drop d).enabled then some .notDisabled
  else if s.inUse d then some .inUse
  else if (s.drop d).address = 0 ∨ (s.drop d).address = 127 then some .badAddress
  else if s.duplicate d then some .dupAddress
  else none

/-- DROP_ENABLE (R30). -/
def State.runDropEnable (s : State) : State :=
  s.withDrop s.bus.arg0 fun d =>
    match s.judgeEnable d with
    | some why => s.refuse why
    | none => ((s.modDrop d Drop.enable).postDropState d .unknown .disabled).done 0

/-- What an accepted DROP_DISABLE does, in the order of R31. -/
def State.disableDrop (s : State) (d : DropIx) : State :=
  let old := (s.drop d).state
  let l := (s.drop d).line
  let s := (s.modDrop d Drop.disable).postDropState d .disabled old
  let s := s.completeAll l (fun x => x.drop = d) .dropDisabled
  if s.txnDrop l = some d then s.endEarly l else s

/-- DROP_DISABLE (R31). -/
def State.runDropDisable (s : State) : State :=
  s.withDrop s.bus.arg0 fun d =>
    if (s.drop d).enabled then (s.disableDrop d).done 0 else s.refuse .notEnabled

/-! ### Lines (chapter 7) -/

/-- The refusal of a role command on a line (R127): in transition, or already in the role it asks for. -/
def LineEngine.refuseRole (e : LineEngine) (asked : Role) : Option CmdRefusal :=
  match e.role with
  | .yielding | .stopping => some .lineBusy
  | .off | .standby | .master => if e.role = asked then some .sameRole else none

/-- A role command (R127): checks, effect, and the line's role after it as the result. -/
def State.roleCommand (s : State) (asked : Role) (f : State → Line → State) : State :=
  s.withLine s.bus.arg0 fun l =>
    match (s.line l).refuseRole asked with
    | some why => s.refuse why
    | none =>
      let s := f s l
      s.done (s.line l).role.code

/-- LINE_START (R128). -/
def State.runLineStart (s : State) : State :=
  s.roleCommand .master fun s l => s.becomeMaster l .command

/-- LINE_STANDBY (R129). -/
def State.runLineStandby (s : State) : State :=
  s.roleCommand .standby fun s l => if (s.line l).role = .off then s.becomeStandby l else s.beginYield l

/-- LINE_STOP (R129). -/
def State.runLineStop (s : State) : State :=
  s.roleCommand .off fun s l => if (s.line l).role = .standby then s.stopStandby l else s.beginStop l

/-- A line reset takes effect and the command completes with OFF (R139). -/
def State.finishLineReset (s : State) (l : Line) : State :=
  (s.resetLine l).done Role.off.code

/-- LINE_RESET (R139, R176): BUSY while a character is in transmission on the line, else at once (log 8). -/
def State.runLineReset (s : State) : State :=
  s.withLine s.bus.arg0 fun l =>
    if (s.line l).tx.sending.isSome then
      (s.modTx l Transmitter.haltForReset).modCommand fun c => { c with busy := some (.lineReset l) }
    else s.finishLineReset l

/-! ### Schedule and cycles (chapter 4) -/

/-- SCHED_SWAP (R78). -/
def State.runSchedSwap (s : State) : State :=
  s.withLine s.bus.arg0 fun l =>
    let e := s.line l
    if e.sched.swapPending then s.refuse .swapPending
    else if e.role.mastering && e.cycle.inProgress then (s.modSched l fun x => { x with swapPending := true }).done 0
    else (s.swapBanks l).done 0

/-- TRIGGER_CYCLE (R71). -/
def State.runTriggerCycle (s : State) : State :=
  s.withLine s.bus.arg0 fun l =>
    if (s.line l).role = .master then ((s.modCycle l fun c => { c with owed := true }).select l).done 0
    else s.refuse .notMaster

/-! ### The ready list (chapter 6) -/

/-- READY_OPEN (R120). -/
def State.runReadyOpen (s : State) : State :=
  if s.ready.isEmpty then s.refuse .empty
  else if s.opened then s.refuse .alreadyOpen
  else s.openHead.done 0

/-- READY_RELEASE (R123). -/
def State.runReadyRelease (s : State) : State :=
  if s.opened then s.releaseHead.done 0 else s.refuse .noneOpen

/-! ### Counters (R36, R178) -/

/-- The statistics of a drop become 0. -/
def Drop.clearStats (d : Drop) : Drop :=
  { d with stats := .zero }

/-- CLEAR_COUNTERS (R36, R178). -/
def State.runClearCounters (s : State) : State :=
  match s.bus.arg0.toNat with
  | 0 => s.withDrop s.bus.arg1 fun d => (s.modDrop d Drop.clearStats).done 0
  | 1 => s.withLine s.bus.arg1 fun l => (s.modCounters l fun _ => .zero).done 0
  | 2 => ((s.modDrops Drop.clearStats).modLines fun _ e => { e with counters := .zero }).done 0
  | _ => s.refuse .badScope

/-! ### Soft reset (R176, R177) -/

/-- What a soft reset does to a line engine when it takes effect (R20, R65, R66, R89, R90, R140). -/
def LineEngine.softReset (e : LineEngine) : LineEngine :=
  { e.cleared with counters := .zero, stamping := none }

/-- What a soft reset does to the bus interface unit (R169, R171, R177). -/
def BusUnit.softReset (u : BusUnit) : BusUnit :=
  { u with hold := none, objectReg := 0, indexReg := 0, offset := 0, selected := none, snapshot := [], status := .none }

/-- SOFT_RESET takes effect on every block but the clock unit, and completes (R177). -/
def State.finishSoftReset (s : State) : State :=
  let s := s.modLines fun _ e => e.softReset
  let s := s.modDrops Drop.softReset
  let s := s.clearRequests.freeAllBuffers
  let s := s.modEvents EventUnit.softReset
  (s.modBus BusUnit.softReset).done 0

/-- The clock unit acts when the command is taken (R154). -/
def ClockUnit.softReset (c : ClockUnit) : ClockUnit :=
  { c with requested := c.effective }

/-- SOFT_RESET (R176): BUSY while a character is in transmission on either line, else at once (log 8). While it waits every frame
in progress stops (R12), one with only its last echo left to judge too: the model's choice (log 43). -/
def State.runSoftReset (s : State) : State :=
  let s := s.modClock ClockUnit.softReset
  if s.lineA.tx.sending.isSome || s.lineB.tx.sending.isSome then
    (s.modLines fun _ e => { e with tx := e.tx.haltForReset }).modCommand fun c => { c with busy := some .softReset }
  else s.finishSoftReset

/-! ### A write to CMD (R174, R175) -/

/-- The command that a code names (R178); every other code is refused BAD_COMMAND. -/
def runCode (code : Byte) (s : State) : State :=
  match code.toNat with
  | 0x01 => s.runSubmit
  | 0x02 => s.runRetire
  | 0x03 => s.runAbort
  | 0x10 => s.runDropEnable
  | 0x11 => s.runDropDisable
  | 0x20 => s.runLineStart
  | 0x21 => s.runLineStandby
  | 0x22 => s.runLineStop
  | 0x23 => s.runLineReset
  | 0x30 => s.runSchedSwap
  | 0x31 => s.runTriggerCycle
  | 0x40 => s.runReadyOpen
  | 0x41 => s.runReadyRelease
  | 0x50 => s.runClearCounters
  | 0x60 => s.runSoftReset
  | _ => s.refuse .badCommand

/-- A write to CMD while the unit is IDLE runs the command with the code stored (R174); while it is BUSY the write is ignored
but for the summary cause CMD_OVERRUN (R175). -/
def State.startCommand (s : State) (code : Byte) (run : State → State) : State :=
  if s.command.busy.isSome then s.raise .cmdOverrun else run (s.modCommand fun c => { c with code })

/-- A write of any code to CMD (R174, R175). -/
def State.writeCmd (s : State) (code : Byte) : State :=
  s.startCommand code (runCode code)

/-! ### The rows -/

/-- SUBMIT. -/
def execSubmit (s : State) : Host.Outcome State Fault Refusal :=
  finish (s.startCommand 0x01 State.runSubmit)

/-- RETIRE. -/
def execRetire (s : State) : Host.Outcome State Fault Refusal :=
  finish (s.startCommand 0x02 State.runRetire)

/-- ABORT. -/
def execAbort (s : State) : Host.Outcome State Fault Refusal :=
  finish (s.startCommand 0x03 State.runAbort)

/-- DROP_ENABLE. -/
def execDropEnable (s : State) : Host.Outcome State Fault Refusal :=
  finish (s.startCommand 0x10 State.runDropEnable)

/-- DROP_DISABLE. -/
def execDropDisable (s : State) : Host.Outcome State Fault Refusal :=
  finish (s.startCommand 0x11 State.runDropDisable)

/-- LINE_START. -/
def execLineStart (s : State) : Host.Outcome State Fault Refusal :=
  finish (s.startCommand 0x20 State.runLineStart)

/-- LINE_STANDBY. -/
def execLineStandby (s : State) : Host.Outcome State Fault Refusal :=
  finish (s.startCommand 0x21 State.runLineStandby)

/-- LINE_STOP. -/
def execLineStop (s : State) : Host.Outcome State Fault Refusal :=
  finish (s.startCommand 0x22 State.runLineStop)

/-- LINE_RESET. -/
def execLineReset (s : State) : Host.Outcome State Fault Refusal :=
  finish (s.startCommand 0x23 State.runLineReset)

/-- LINE_RESET_TAKES_EFFECT (R139): the character in transmission has ended. -/
def execLineResetTakesEffect (s : State) : Host.Outcome State Fault Refusal :=
  finish (match s.command.busy with
    | some (.lineReset l) => s.finishLineReset l
    | some .softReset | none => s)

/-- SCHED_SWAP. -/
def execSchedSwap (s : State) : Host.Outcome State Fault Refusal :=
  finish (s.startCommand 0x30 State.runSchedSwap)

/-- TRIGGER_CYCLE. -/
def execTriggerCycle (s : State) : Host.Outcome State Fault Refusal :=
  finish (s.startCommand 0x31 State.runTriggerCycle)

/-- READY_OPEN. -/
def execReadyOpen (s : State) : Host.Outcome State Fault Refusal :=
  finish (s.startCommand 0x40 State.runReadyOpen)

/-- READY_RELEASE. -/
def execReadyRelease (s : State) : Host.Outcome State Fault Refusal :=
  finish (s.startCommand 0x41 State.runReadyRelease)

/-- CLEAR_COUNTERS. -/
def execClearCounters (s : State) : Host.Outcome State Fault Refusal :=
  finish (s.startCommand 0x50 State.runClearCounters)

/-- SOFT_RESET. -/
def execSoftReset (s : State) : Host.Outcome State Fault Refusal :=
  finish (s.startCommand 0x60 State.runSoftReset)

/-- SOFT_RESET_TAKES_EFFECT (R177): the characters in transmission have ended. -/
def execSoftResetTakesEffect (s : State) : Host.Outcome State Fault Refusal :=
  finish (match s.command.busy with
    | some .softReset => s.finishSoftReset
    | some (.lineReset _) | none => s)

/-- BAD_COMMAND (R174): a write to CMD of a code that names no command. -/
def execBadCommand (code : Byte) (s : State) : Host.Outcome State Fault Refusal :=
  finish (s.writeCmd code)

/-- CMD_OVERRUN (R175): a write to CMD while the unit is BUSY; while it is IDLE the same write is taken (log 20). -/
def execCmdOverrun (code : Byte) (s : State) : Host.Outcome State Fault Refusal :=
  finish (s.writeCmd code)

/-- REGISTER_WRITE (R168): a write to any register of the map. -/
def execRegisterWrite (addr : BitVec 6) (value : Byte) (s : State) : Host.Outcome State Fault Refusal :=
  finish (if addr = 0x02 then s.writeCmd value else s.write addr value)

/-- DEVICE_RESET (R38 and the reset rule of every chapter): every block at once; the waiting commands and the model's count of
claimed buffers stay (log 33). -/
def execDeviceReset (s : State) : Host.Outcome State Fault Refusal :=
  finish { State.reset with pending := s.pending, fresh := s.fresh }

end Sys2Proof.Machine
end

