-- ==== Sys2Proof/Machine/Time.lean ====
section
/-! DEFINITION. What happens while no command waits (assumption log 3): the first event that has fallen due is taken, in the
order of log 4, and with none due one period of the effective source passes (chapter 8, R1 to R11). -/

namespace Sys2Proof.Machine

/-! ### Events that have fallen due -/

/-- The transmitter of a line is not in the middle of a character. -/
def LineEngine.wireFree (e : LineEngine) : Bool :=
  e.tx.sending.isNone

/-- The oldest echo waited for is overdue (R11). -/
def Transmitter.echoOverdue (x : Transmitter) : Bool :=
  x.stop.isNone && match x.echoes with
    | e :: _ => e.ended && Config.echoPatience ≤ e.overdue.bits
    | [] => false

/-- The rows of a line, each with whether it is due; each is due only while its own row would take place. -/
def State.lineDue (s : State) (l : Line) : List (Bool × Instr) :=
  let e := s.line l
  [(s.stoppedFor l .contention && e.wireFree, .contentionReport l),
   (s.stoppedFor l .clockFault && e.wireFree, .clockFaultReport l),
   (s.frameIsSent l && e.wireFree, .frameSent l),
   (e.tx.echoOverdue, .echoMissing l),
   (s.command.busy = some (.lineReset l) && e.wireFree, .lineResetTakesEffect),
   (e.mayEnd .yielding, .yieldEnd l),
   (e.mayEnd .stopping, .stopEnd l),
   (e.cycle.expiryDue, .cycleTimerExpiry l),
   (e.ctl.backoffOver && e.ctl.txn.isSome, .backoffElapsed l),
   (e.role = .standby && e.silence.due, .lineSilent l),
   (e.idleWith .inFrame && e.reader.gap < e.rx.idle, .gapFault l),
   (e.idleWith .flush && e.reader.gap < e.rx.idle, .quietEnd l),
   (e.ctl.windowRuns && e.ctl.windowLength ≤ e.ctl.windowTimer.bits, .responseWindowElapsed l),
   (e.observerTimerRuns && e.observer.window ≤ e.observer.timer.bits, .observerTimerElapsed l),
   (s.mayCall l && e.ctl.guard ≤ e.rx.idle, .guardSatisfied l),
   (e.ctl.state = .pause && e.ctl.pauseLength ≤ e.ctl.pauseTimer.bits, .pauseElapsed l)]

/-- The rows of the whole part. -/
def State.partDue (s : State) : List (Bool × Instr) :=
  [(s.command.busy = some .softReset && s.lineA.wireFree && s.lineB.wireFree, .softResetTakesEffect),
   (s.clock.xrefEnable && s.clock.monitor ≠ .absent && Config.xrefSilence ≤ s.clock.quiet, .xrefLost),
   (s.maySwitch, .clockSwitch)]

/-- The first event that has fallen due (log 4). -/
def State.due (s : State) : Option Instr :=
  ((s.partDue ++ s.lineDue .a ++ s.lineDue .b).find? (·.1)).map (·.2)

/-! ### One period of the effective source -/

/-- One period on a count of bit times: 8 divisor periods each (R1, R149). A phase held at or above that ends the bit time with
this period, the excess dropped (log 41). -/
def BitTimer.period (t : BitTimer) (divisor : Nat) : BitTimer :=
  if 8 * divisor ≤ t.phase + 1 then { bits := t.bits + 1, phase := 0 } else { t with phase := t.phase + 1 }

/-- One period on an echo waited for: it grows overdue once its character has ended (R11). -/
def Echo.period (divisor : Nat) (e : Echo) : Echo :=
  if e.ended then { e with overdue := e.overdue.period divisor } else e

/-- One period on the transmitter: the character in transmission goes on, its pin shows the bit (R1), and its 11th bit time
ends it; echoes of ended characters grow overdue, and after the last character the time since its stop bit is counted while
an echo is waited for (R10, R11). -/
def Transmitter.period (x : Transmitter) (divisor : Nat) : Transmitter :=
  let x := { x with echoes := x.echoes.map (Echo.period divisor) }
  match x.sending with
  | none => if x.echoes.isEmpty then x else { x with timer := x.timer.period divisor }
  | some c =>
    let timer := x.timer.period divisor
    if 11 ≤ timer.bits then { x with timer }.charEnd else { x with timer, pin := c.bit timer.bits }

/-- One period on the times of the controller: response window (R46) and pause (R83). -/
def Controller.period (c : Controller) (divisor : Nat) : Controller :=
  { c with
    windowTimer := if c.windowRuns then c.windowTimer.period divisor else c.windowTimer
    pauseTimer := if c.state = .pause then c.pauseTimer.period divisor else c.pauseTimer }

/-- The samples 3, 4 and 5 of a start bit as they stand recorded. -/
def voteOf (xs : List Bool) : Vote :=
  ⟨xs.getD 0 true, xs.getD 1 true, xs.getD 2 true⟩

/-- A sample inside a character (R3 to R5): samples 3, 4 and 5 of each bit are recorded; sample 5 of the start bit may find a
false start, and sample 5 of the stop bit, the 85th, delivers the character. -/
def Receiver.charSample (r : Receiver) (l : Line) (level : Bool) : Receiver × List Instr :=
  let n := r.sampleNo + 1
  let r := { r with
    sampleNo := n, samples := if 3 ≤ (n - 1) % 8 + 1 ∧ (n - 1) % 8 + 1 ≤ 5 then r.samples ++ [level] else r.samples
    idleSamples := if level then (r.idleSamples + 1) % 8 else 0 }
  if n = 5 ∧ (voteOf r.samples).majority then (r, [.falseStart l ⟨4 ≤ r.idleSamples, voteOf r.samples⟩])
  else if n = 85 then (r, [.characterReceived l (charOfSamples r.samples)])
  else (r, [])

/-- A sample of 0 in WAIT_HIGH on the idle count (R7). -/
def Receiver.lowSample (r : Receiver) : Receiver :=
  { r with idle := 0, idleSamples := 0, stopTail := r.stopTail - 1 }

/-- A sample of the receive pin (R2, R3). -/
def Receiver.sample (r : Receiver) (l : Line) (level : Bool) : Receiver × List Instr :=
  match r.state with
  | .waitHigh => if level then (r, [.lineSeenHigh l]) else (r.lowSample, [])
  | .huntEdge => if level then (r.idleSample, []) else (r, [.startBit l])
  | .receiving => r.charSample l level

/-- One period on the receiver: a sample at the end of each divisor period (R2). A phase held at or above that gives its sample
with this period, the excess dropped (log 41). -/
def Receiver.period (r : Receiver) (l : Line) (divisor : Nat) (level : Bool) : Receiver × List Instr :=
  if divisor ≤ r.phase + 1 then { r with phase := 0 }.sample l level else ({ r with phase := r.phase + 1 }, [])

/-- The level on the receive pin while no command waits: the part's own pin while it drives the line, else 1 (log 5). -/
def Transmitter.level (x : Transmitter) : Bool :=
  !x.enable || x.pin

/-- One period on the response timer of the observed call: it begins at the end of the call's last stop bit (R133). -/
def Observer.period (o : Observer) (divisor : Nat) : Observer :=
  if 0 < o.lead then { o with lead := o.lead - 1 } else { o with timer := o.timer.period divisor }

/-- One period on the stop bit of a stored reply (R115); the moment of its end lasts until the next period (log 4). -/
def OpenStamp.period (x : OpenStamp) : Option OpenStamp :=
  if x.left = 0 then none else some { x with left := x.left - 1 }

/-- One period on a line, and the rows that fall at its end; on an OFF line only the stop bit of a stored reply goes on. -/
def LineEngine.period (e : LineEngine) (l : Line) : LineEngine × List Instr :=
  let e := { e with stamping := e.stamping.bind OpenStamp.period }
  if e.role = .off then (e, [])
  else
    let (rx, rows) := e.rx.period l e.divisor e.tx.level
    ({ e with
       rx, tx := e.tx.period e.divisor, ctl := e.ctl.period e.divisor
       observer := if e.observerTimerRuns then e.observer.period e.divisor else e.observer }, rows)

/-- One period on the clock unit: the prescaler delivers a tick at the divider × 64 (R151), which starts it again from 0; a
count held over a fallback at or above that of IOSC, for which the spec does not say when the tick falls, delivers one tick with
the first period, the excess dropped: the model's choice (R147, log 41).
Under IOSC the monitor counts its periods without an edge; under XREF each period is edges of it, which restart that count
(R142, log 34). -/
def ClockUnit.period (c : ClockUnit) : ClockUnit × List Instr :=
  let quiet := match c.effective with
    | .iosc => if c.xrefEnable ∧ c.monitor ≠ .absent then c.quiet + 1 else c.quiet
    | .xref => 0
  ({ c with quiet, prescaler := c.prescaler + 1 }, if c.toTick ≤ 1 then [.tick] else [])

/-- One period of the effective source passes; the rows that fall at its end wait in the queue. -/
def State.period (s : State) : State :=
  let (clock, ticks) := s.clock.period
  let (lineA, rowsA) := s.lineA.period .a
  let (lineB, rowsB) := s.lineB.period .b
  { s with clock, lineA, lineB, pending := s.pending ++ ticks ++ rowsA ++ rowsB }.driveIrq

end Sys2Proof.Machine
end

