-- ==== Sys2Proof/Machine/Dispatch.lean ====
section
/-! DEFINITION. One arm per row of spec/opcode_table.json, each one call of the row's meaning. -/

namespace Sys2Proof.Machine

/-- The effect of a command on everything but the queue. -/
def exec (i : Instr) (s : State) : Host.Outcome State Fault Refusal :=
  match i with
  | .deviceReset => Sys2Proof.Machine.execDeviceReset s
  | .submit => Sys2Proof.Machine.execSubmit s
  | .retire => Sys2Proof.Machine.execRetire s
  | .abort => Sys2Proof.Machine.execAbort s
  | .dropEnable => Sys2Proof.Machine.execDropEnable s
  | .dropDisable => Sys2Proof.Machine.execDropDisable s
  | .lineStart => Sys2Proof.Machine.execLineStart s
  | .lineStandby => Sys2Proof.Machine.execLineStandby s
  | .lineStop => Sys2Proof.Machine.execLineStop s
  | .lineReset => Sys2Proof.Machine.execLineReset s
  | .lineResetTakesEffect => Sys2Proof.Machine.execLineResetTakesEffect s
  | .schedSwap => Sys2Proof.Machine.execSchedSwap s
  | .triggerCycle => Sys2Proof.Machine.execTriggerCycle s
  | .readyOpen => Sys2Proof.Machine.execReadyOpen s
  | .readyRelease => Sys2Proof.Machine.execReadyRelease s
  | .clearCounters => Sys2Proof.Machine.execClearCounters s
  | .softReset => Sys2Proof.Machine.execSoftReset s
  | .softResetTakesEffect => Sys2Proof.Machine.execSoftResetTakesEffect s
  | .badCommand code => Sys2Proof.Machine.execBadCommand code s
  | .cmdOverrun code => Sys2Proof.Machine.execCmdOverrun code s
  | .summaryRead => Sys2Proof.Machine.execSummaryRead s
  | .summaryClear mask => Sys2Proof.Machine.execSummaryClear mask s
  | .eventPop value => Sys2Proof.Machine.execEventPop value s
  | .timestampRead => Sys2Proof.Machine.execTimestampRead s
  | .accessSelect reg value => Sys2Proof.Machine.execAccessSelect reg value s
  | .accessOffsetWrite value => Sys2Proof.Machine.execAccessOffsetWrite value s
  | .accessDataRead => Sys2Proof.Machine.execAccessDataRead s
  | .accessDataWrite value => Sys2Proof.Machine.execAccessDataWrite value s
  | .clockControlWrite value => Sys2Proof.Machine.execClockControlWrite value s
  | .tickDividerWrite source value => Sys2Proof.Machine.execTickDividerWrite source value s
  | .holdRegisterWrite reg value => Sys2Proof.Machine.execHoldRegisterWrite reg value s
  | .registerWrite addr value => Sys2Proof.Machine.execRegisterWrite addr value s
  | .tick => Sys2Proof.Machine.execTick s
  | .cycleTimerExpiry line => Sys2Proof.Machine.execCycleTimerExpiry line s
  | .backoffElapsed line => Sys2Proof.Machine.execBackoffElapsed line s
  | .pauseElapsed line => Sys2Proof.Machine.execPauseElapsed line s
  | .lineSilent line => Sys2Proof.Machine.execLineSilent line s
  | .eventAgeExpiry => Sys2Proof.Machine.execEventAgeExpiry s
  | .characterReceived line samples => Sys2Proof.Machine.execCharacterReceived line samples s
  | .falseStart line samples => Sys2Proof.Machine.execFalseStart line samples s
  | .guardSatisfied line => Sys2Proof.Machine.execGuardSatisfied line s
  | .frameSent line => Sys2Proof.Machine.execFrameSent line s
  | .echoMissing line => Sys2Proof.Machine.execEchoMissing line s
  | .contentionReport line => Sys2Proof.Machine.execContentionReport line s
  | .clockFaultReport line => Sys2Proof.Machine.execClockFaultReport line s
  | .gapFault line => Sys2Proof.Machine.execGapFault line s
  | .quietEnd line => Sys2Proof.Machine.execQuietEnd line s
  | .responseWindowElapsed line => Sys2Proof.Machine.execResponseWindowElapsed line s
  | .observerTimerElapsed line => Sys2Proof.Machine.execObserverTimerElapsed line s
  | .yieldEnd line => Sys2Proof.Machine.execYieldEnd line s
  | .stopEnd line => Sys2Proof.Machine.execStopEnd line s
  | .xrefEdge rising => Sys2Proof.Machine.execXrefEdge rising s
  | .xrefPresent => Sys2Proof.Machine.execXrefPresent s
  | .xrefLost => Sys2Proof.Machine.execXrefLost s
  | .clockSwitch => Sys2Proof.Machine.execClockSwitch s
  | .startBit line => Sys2Proof.Machine.execStartBit line s
  | .lineSeenHigh line => Sys2Proof.Machine.execLineSeenHigh line s

end Sys2Proof.Machine
end

