-- ==== Sys2Proof/Safety.lean ====
section
/-! DEFINITION. What a good state of the part is, in the terms the claims use: every step keeps each of these. -/

namespace Sys2Proof.Machine

/-- A drop's failure count agrees with its state (R23), with the threshold in its range. -/
def Drop.Agrees (d : Drop) : Prop :=
  1 ≤ d.threshold ∧ d.threshold ≤ 15 ∧ d.failures ≤ 15 ∧
    match d.state with
    | .disabled | .online => d.failures = 0
    | .unknown => d.failures < d.threshold
    | .suspect => 1 ≤ d.failures ∧ d.failures < d.threshold
    | .offline => d.threshold ≤ d.failures

/-- Every drop record is in agreement (R23). -/
def State.DropsAgree (s : State) : Prop :=
  ∀ d, (s.drop d).Agrees

/-- The event unit keeps its bounds: 32 records at most (R158), ages and losses up to 255 (R160, R161), age 0 while empty
(R160), the threshold in its range (R163), no enable beside the named ones (R157, R163). -/
def EventUnit.Bounded (u : EventUnit) : Prop :=
  u.queue.length ≤ 32 ∧ u.headAge ≤ 255 ∧ u.lost ≤ 255 ∧ (u.queue = [] → u.headAge = 0) ∧
    1 ≤ u.threshold ∧ u.threshold ≤ 32 ∧ u.ageLimit ≤ 255 ∧ u.mask &&& 0xF001 = 0 ∧ u.irqEnable &&& 0xF8 = 0

/-- A summary bit that the snapshot holds or that is renewed is set (R164, R166), and losses are counted only while
EVENT_LOST is set (R161). -/
def EventUnit.SummarySound (u : EventUnit) : Prop :=
  u.snapshot &&& ~~~ u.summary = 0 ∧ u.renewed &&& ~~~ u.summary = 0 ∧ (u.lost ≠ 0 → u.summary.getLsbD 0 = true)

/-- The EVENTS source is active (R162). -/
def State.EventsActive (s : State) : Prop :=
  s.events.threshold ≤ s.events.queue.length ∨
    (s.events.queue ≠ [] ∧ s.events.ageLimit ≠ 0 ∧ s.events.ageLimit ≤ s.events.headAge)

/-- The READY source is active (R162). -/
def State.ReadyActive (s : State) : Prop :=
  s.ready ≠ [] ∧ s.opened = false

/-- The SUMMARY source is active (R162). -/
def State.SummaryActive (s : State) : Prop :=
  s.events.summary ≠ 0

/-- nIRQ is low exactly while a source is both active and enabled (R162). -/
def State.PinAgrees (s : State) : Prop :=
  s.irqPin = false ↔
    (s.EventsActive ∧ s.events.irqEnable.getLsbD 0 = true) ∨ (s.ReadyActive ∧ s.events.irqEnable.getLsbD 1 = true) ∨
      (s.SummaryActive ∧ s.events.irqEnable.getLsbD 2 = true)

/-- No two enabled drops of a line share an address, and every enabled drop's address lies in 1..126 (R30). -/
def State.AddressesUnique (s : State) : Prop :=
  (∀ d e, d ≠ e → (s.drop d).enabled = true → (s.drop e).enabled = true → (s.drop d).line = (s.drop e).line →
    (s.drop d).address ≠ (s.drop e).address) ∧
  ∀ d, (s.drop d).enabled = true → 1 ≤ (s.drop d).address.toNat ∧ (s.drop d).address.toNat ≤ 126

/-- XREF is effective only while the monitor is PRESENT, and XREF_ENABLE is set while XREF is requested or effective (R141,
R143). -/
def ClockUnit.Sound (c : ClockUnit) : Prop :=
  (c.effective = .xref → c.monitor = .present) ∧
    (c.effective = .xref ∨ c.requested = .xref → c.xrefEnable = true) ∧ (c.xrefEnable = false → c.monitor = .absent)

/-- The ready list holds exactly the buffers whose place is the ready list, each once; an open buffer is its head (R109,
R119, R120). -/
def State.ReadyAgrees (s : State) : Prop :=
  s.ready.Nodup ∧ (∀ b, b ∈ s.ready ↔ (s.buffer b).place = .ready) ∧ (s.opened = true → s.ready ≠ [])

/-- A line assembles at most one buffer, and none while it is OFF (R54, R109, R114); a slot holds at most one, and only while
it is QUEUED or ACTIVE with a DATA request with a payload of 1 to 32 bytes (R96, R109, R111). -/
def State.BuffersPlaced (s : State) : Prop :=
  (∀ l b c, (s.buffer b).place = .assembling l → (s.buffer c).place = .assembling l → b = c) ∧
  (∀ l b, (s.line l).role = .off → (s.buffer b).place ≠ .assembling l) ∧
  ∀ t b, (s.buffer b).place = .held t →
    ((s.slot t).state = .queued ∨ (s.slot t).state = .active) ∧ (s.slot t).kind = .data ∧
      1 ≤ (s.slot t).length ∧ (s.slot t).length ≤ 32 ∧ ∀ c, (s.buffer c).place = .held t → c = b

/-- A slot is QUEUED exactly while its tag stands in a queue, once, which its line and priority name; the request of a
transaction in hand is ACTIVE on its line (R95, R96). -/
def State.QueuesAgree (s : State) : Prop :=
  (∀ l p, ((s.line l).queueOf p).Nodup ∧
    ∀ t, t ∈ (s.line l).queueOf p ↔ (s.slot t).state = .queued ∧ (s.slot t).line = l ∧ (s.slot t).priority = p) ∧
  ∀ l t, s.txnTag l = some t → (s.slot t).state = .active ∧ (s.slot t).line = l

/-- The silence count and flag belong to STANDBY, a line without a mastering role has its controller IDLE, and an OFF line has its
cycle timer, receiver, reader and transmitter at rest (R137, R66, R130, R131, R67, R2, R1). -/
def LineEngine.RoleSound (e : LineEngine) : Prop :=
  (e.role ≠ .standby → e.silence.count = 0 ∧ e.silence.flag = false) ∧
    (e.role.mastering = false → e.ctl.state = .idle) ∧
    (e.role = .off → e.cycle.timer = 0 ∧ e.reader.state = .hunt ∧ e.rx.idle = 0 ∧ e.tx.enable = false ∧ e.tx.pin = true ∧
      e.tx.sending = none)

/-! ### What rows leave alone -/

/-- The configuration of a drop record (2.1). -/
def Drop.config (d : Drop) : BitVec 7 × Line × Nat × Nat × Nat × ReplyPolicy × AttnPolicy :=
  (d.address, d.line, d.retryLimit, d.threshold, d.revisit, d.replyPolicy, d.attnPolicy)

/-- What the host writes of a line: its parameters and the contents of its schedule banks (R45, R75). -/
def LineEngine.config (e : LineEngine) : LineParams × Bank × Bank :=
  (e.params, e.sched.bank0, e.sched.bank1)

/-- What the host writes of the event unit: event mask, threshold, age limit and interrupt enables (R157, R163). -/
def EventUnit.config (u : EventUnit) : Half × Nat × Nat × Byte :=
  (u.mask, u.threshold, u.ageLimit, u.irqEnable)

/-- `t` differs from `s` only in what the engines of the part own: not in what the host writes, not in the clock; and records
only join the event queue. nIRQ, which follows the sources, is another matter. -/
structure Untouched (s t : State) : Prop where
  events : s.events.queue <+: t.events.queue
  settings : t.events.config = s.events.config
  clock : t.clock = s.clock
  bus : t.bus = s.bus
  command : t.command = s.command
  staging : t.staging = s.staging
  sequence : t.sequence = s.sequence
  opened : t.opened = s.opened
  pending : t.pending = s.pending
  lines : ∀ l, (t.line l).config = (s.line l).config
  config : ∀ d, (t.drop d).config = (s.drop d).config

/-- The line that a row's event falls on; none for the host's accesses and commands, for ticks and for the clocks. -/
def eventLine : Instr → Option Line
  | .cycleTimerExpiry l | .backoffElapsed l | .pauseElapsed l | .lineSilent l | .characterReceived l _ | .falseStart l _
  | .guardSatisfied l | .frameSent l | .echoMissing l | .contentionReport l | .clockFaultReport l | .gapFault l
  | .quietEnd l | .responseWindowElapsed l | .observerTimerElapsed l | .yieldEnd l | .stopEnd l | .startBit l
  | .lineSeenHigh l => some l
  | .deviceReset | .submit | .retire | .abort | .dropEnable | .dropDisable | .lineStart | .lineStandby | .lineStop
  | .lineReset | .lineResetTakesEffect | .schedSwap | .triggerCycle | .readyOpen | .readyRelease | .clearCounters
  | .softReset | .softResetTakesEffect | .badCommand _ | .cmdOverrun _ | .summaryRead | .summaryClear _ | .eventPop _
  | .timestampRead | .accessSelect _ _ | .accessOffsetWrite _ | .accessDataRead | .accessDataWrite _
  | .clockControlWrite _ | .tickDividerWrite _ _ | .holdRegisterWrite _ _ | .registerWrite _ _ | .tick | .eventAgeExpiry
  | .xrefEdge _ | .xrefPresent | .xrefLost | .clockSwitch => none

/-- The code that a row writes to CMD, for the rows that write to CMD (R174). -/
def cmdCode : Instr → Option Byte
  | .submit => some 0x01
  | .retire => some 0x02
  | .abort => some 0x03
  | .dropEnable => some 0x10
  | .dropDisable => some 0x11
  | .lineStart => some 0x20
  | .lineStandby => some 0x21
  | .lineStop => some 0x22
  | .lineReset => some 0x23
  | .schedSwap => some 0x30
  | .triggerCycle => some 0x31
  | .readyOpen => some 0x40
  | .readyRelease => some 0x41
  | .clearCounters => some 0x50
  | .softReset => some 0x60
  | .badCommand code | .cmdOverrun code => some code
  | .registerWrite addr value => if addr = 0x02 then some value else none
  | .deviceReset | .lineResetTakesEffect | .softResetTakesEffect | .summaryRead | .summaryClear _ | .eventPop _
  | .timestampRead | .accessSelect _ _ | .accessOffsetWrite _ | .accessDataRead | .accessDataWrite _
  | .clockControlWrite _ | .tickDividerWrite _ _ | .holdRegisterWrite _ _ | .tick | .cycleTimerExpiry _
  | .backoffElapsed _ | .pauseElapsed _ | .lineSilent _ | .eventAgeExpiry | .characterReceived _ _ | .falseStart _ _
  | .guardSatisfied _ | .frameSent _ | .echoMissing _ | .contentionReport _ | .clockFaultReport _ | .gapFault _
  | .quietEnd _ | .responseWindowElapsed _ | .observerTimerElapsed _ | .yieldEnd _ | .stopEnd _ | .xrefEdge _
  | .xrefPresent | .xrefLost | .clockSwitch | .startBit _ | .lineSeenHigh _ => none

/-- A state that a run from reset, with any commands put into the queue before each step, comes to. -/
inductive Reachable : State → Prop where
  | reset : Reachable State.reset
  | step {s t : State} (h : Reachable s) (commands : List Instr)
      (e : step { s with pending := s.pending ++ commands } = .next t) : Reachable t

end Sys2Proof.Machine
end

