-- ==== Sys2Proof/Certificates/Slice0/Obligations.lean ====
section
/-! DEFINITION. The statements for the provers. Every statement is about every state that meets its hypotheses, reachable or
not. `s.driveIrq` only sets nIRQ by the sources (InterruptFollowsSources says how); `s.events.post r` is the event queue's
rule (EventQueueKeepsOrder). -/

namespace Sys2Proof.Machine

/-- The command unit after it accepted a command (R174 step 3), nIRQ with it. -/
def doneAs (s : State) (code result : Byte) : State :=
  { s with command := { code, busy := none, last := .done, result, refusal := .none } }.driveIrq

/-- The command unit after it refused a command (R174 step 3), nIRQ with it; nothing else moves. -/
def refusedAs (s : State) (code : Byte) (why : CmdRefusal) : State :=
  { s with command := { code, busy := none, last := .refused, result := 0, refusal := why } }.driveIrq

/-- The command unit is IDLE (R174). -/
abbrev State.idle (s : State) : Prop :=
  s.command.busy = none

/-- Register writes are taken: no SOFT_RESET waits (R176). -/
abbrev State.writable (s : State) : Prop :=
  s.command.busy ≠ some .softReset

/-- The 16-bit value of a more and a less significant byte. -/
def wide (hi lo : Byte) : Nat :=
  hi.toNat * 256 + lo.toNat

/-- The access port has this object selected with the offset at `k` and a snapshot of the object's size. -/
abbrev State.atField (s : State) (o : ObjectSel) (k : Nat) : Prop :=
  s.bus.selected = some o ∧ s.bus.offset = k ∧ k < o.size ∧ s.bus.snapshot.length = o.size

/-- A data write refused with this status (R173): only the status and the offset move, and the hold register becomes
`h`. -/
def State.writeRefused (s : State) (k : Nat) (h : Option (HoldId × Byte)) (why : AccessStatus) : State :=
  { s with bus := { s.bus with offset := k + 1, status := why, hold := h } }.driveIrq

/-- The bus unit after a data write of one byte at offset `k` is accepted (R173). -/
def BusUnit.tookByte (u : BusUnit) (k : Nat) (v : Byte) : BusUnit :=
  { u with offset := k + 1, status := .none, snapshot := u.snapshot.set k v }

/-- The bus unit after a 16-bit field is committed at offset `k`, that of its less significant byte (R173). -/
def BusUnit.tookHalf (u : BusUnit) (k : Nat) (hi lo : Byte) : BusUnit :=
  { u with offset := k + 1, status := .none, hold := none, snapshot := (u.snapshot.set (k - 1) hi).set k lo }

/-- The more significant half of the commit at offset `k`: the held byte of the field, else the field's present one
(R169). -/
abbrev State.upperIs (s : State) (o : ObjectSel) (k : Nat) (current hi : Byte) : Prop :=
  (s.bus.hold = some (.field o (k - 1), hi)) ∨ ((∀ b, s.bus.hold ≠ some (.field o (k - 1), b)) ∧ hi = current)

/-- The receiver after a character (R5); the three samples left of its stop bit are the model's reading (log 24). -/
def afterChar (r : Receiver) (framing : Bool) : Receiver :=
  { r with state := if framing then .waitHigh else .huntEdge, sampleNo := 0, samples := [], idle := 0, idleSamples := 0
           stopTail := 3 }

/-- A line after a character went to the frame reader, as far as the receiver, the silence count and the transmitter's
tail took note of it (R4 to R6, R137). Samples that the row asserts end the stop bit of a reply stored before it (log 2, the model's
choice). -/
def LineEngine.heard (e : LineEngine) (c : CharSamples) : LineEngine :=
  { e with rx := afterChar e.rx c.framing, silence := if c.framing then e.silence else .zero
           stamping := if 85 ≤ e.rx.sampleNo then e.stamping else none
           tx := { e.tx with tail := false }
           counters := { e.counters with noise := if c.noisy then satInc e.counters.noise else e.counters.noise } }

/-- A character comes to the frame reader of a line (R6): it is being received, no frame of the part's own is in
progress, its start bit began after driver enable was released if such a frame has just ended, and the observer does not
wait for it. -/
abbrev State.arrives (s : State) (l : Line) (c : CharSamples) : Prop :=
  (s.line l).rx.state = .receiving ∧ c.start.majority = false ∧ (s.line l).tx.enable = false ∧
    ((s.line l).tx.tail = true → (s.line l).rx.afterRelease = true) ∧ (s.line l).observer.waiting = false

/-- The value that most of three samples show (R3 to R5). -/
def mostOf (v : Vote) : Bool :=
  (v.s3 && v.s4) || (v.s3 && v.s5) || (v.s4 && v.s5)

/-- Three samples that do not all agree (R3, R4). -/
abbrev disagree (v : Vote) : Prop :=
  ¬ (v.s3 = v.s4 ∧ v.s4 = v.s5)

/-- A character without framing error whose mark bit is 0 (R1, R5). -/
abbrev plainChar (c : CharSamples) : Prop :=
  c.framing = false ∧ c.markBit = false

/-- The frame reader after a good address character (R15). -/
def LineEngine.opened (e : LineEngine) (b : Byte) : Reader :=
  { state := .inFrame, position := .control, sum := b, expected := 0, gap := e.params.gapLimit }

/-- The frame reader `r` of a line once it follows a frame in error to its end (R17). -/
def LineEngine.flushed (e : LineEngine) (r : Reader) : Reader :=
  { r with state := .flush, gap := e.params.gapLimit }

/-- The kinds a reply may have, by the low half of its control byte: REPLY (1) or BUSY (3) to a POLL, ACK (2) or BUSY to a
DATA (R52, R134). -/
abbrev answersCall (call : FrameKind) (control : Byte) : Prop :=
  (call = .poll ∧ (control &&& 0x0F = 1 ∨ control &&& 0x0F = 3)) ∨ (call = .data ∧ (control &&& 0x0F = 2 ∨ control &&& 0x0F = 3))

/-- The kind that the low half of a control byte answering a call names. -/
def replyKind (control : Byte) : FrameKind :=
  if control &&& 0x0F = 1 then .reply else if control &&& 0x0F = 2 then .ack else .busy

/-- The store mode that a drop's reply policy gives; none under DISCARD (R112, R136). -/
def policyMode : ReplyPolicy → Option StoreMode
  | .queue => some .append
  | .replace => some .replace
  | .discard => none

/-- The store mode of the reply to a transaction with this source (R54, R112). -/
def replyMode (x : TxnSource) (p : ReplyPolicy) : Option StoreMode :=
  match x with
  | .request _ => some .append
  | .schedule | .extraPoll | .sync => policyMode p

/-- Buffer `i` is the free one with the lowest number; that a claim takes this one is the model's choice (log 19). -/
abbrev State.lowestFree (s : State) (i : BufIx) : Prop :=
  (s.buffer i).place = .free ∧ ∀ j < i, (s.buffer j).place ≠ .free

/-- A buffer that a REPLACE of this origin and drop may take the place of (R117). -/
abbrev State.replaceable (s : State) (o : Origin) (d : DropIx) (b : BufIx) : Prop :=
  (s.buffer b).origin = o ∧ (s.buffer b).drop = d

/-- `t` is `s` with the buffer `y` stored as buffer `i`, by its mode: at the tail (R116), or in the place of the `old`
nearest the tail, not the open buffer's (R117). -/
def State.storedAs (s t : State) (i : BufIx) (y : Buffer) (o : Origin) (d : DropIx) : Prop :=
  ((y.mode = .append ∨ ∀ j ∈ (if s.opened then s.ready.drop 1 else s.ready), ¬ s.replaceable o d j) ∧
    t = { s.setBuffer i y with ready := s.ready ++ [i] }) ∨
  ∃ front old back, y.mode = .replace ∧ s.ready = front ++ old :: back ∧ (s.opened = true → front ≠ []) ∧ old ∉ front ∧
    s.replaceable o d old ∧ (∀ j ∈ back, ¬ s.replaceable o d j) ∧
    t = { (s.setBuffer i { y with replaced := min 255 ((s.buffer old).replaced + 1) }).setBuffer old
            { s.buffer old with place := .free } with ready := front ++ i :: back }

/-- The line is at a boundary with no urgent request and no extra poll owed: its schedule decides (R84, R85). -/
abbrev State.atSchedule (s : State) (l : Line) : Prop :=
  (s.line l).role = .master ∧ (s.line l).ctl.state = .idle ∧ (s.line l).urgent = [] ∧
    ∀ d, ¬ ((s.drop d).attention = true ∧ (s.drop d).line = l)

/-- The walk of the cycle in progress comes to this entry (R80). -/
abbrev State.comesTo (s : State) (l : Line) (x : Entry) : Prop :=
  (s.line l).cycle.inProgress = true ∧ (s.line l).cycle.walk < (s.line l).sched.activeBank.length ∧
    (s.line l).sched.activeBank.entries.toList.getD (s.line l).cycle.walk .sync = x

/-- What is left of the stop bit of a stored reply after a row that carries the next sample: no more than the samples after it (log
2, the model's choice). -/
def stampAtSample (e : LineEngine) : Option OpenStamp :=
  if e.rx.stopTail = 0 then e.stamping
  else e.stamping.map fun x => { x with left := min x.left ((e.rx.stopTail - 1) * e.divisor) }

/-- The receiver once a row has said that the line has been idle for `n` bit times (R7, R9): a count below that is put there at
the end of its last bit time, from which the next one counts (log 2, the model's choice). -/
def idleAtLeast (r : Receiver) (n : Nat) : Receiver :=
  if n ≤ r.idle then r else { r with idle := n, idleSamples := 0, stopTail := 0, phase := 0 }

/-- What is left of the stop bit of a stored reply once a row has said so: nothing where it puts the idle count up (log 2, the
model's choice). -/
def stampIdle (e : LineEngine) (n : Nat) : Option OpenStamp :=
  if n ≤ e.rx.idle then e.stamping else none

/-- The record of a drop after the end report of a transaction, whose call has begun or not (R25, R26): last outcome, toggle,
statistics, and for an enabled drop state, failure count and fresh flag by the class of the outcome. -/
def dropAfterEnd (r : Drop) (o : TxnOutcome) (began : Bool) : Drop :=
  let good := o = .ok ∨ o = .busy ∨ o = .noBuffer
  let bad := o = .timeout ∨ o = .gap ∨ o = .check ∨ o = .framing ∨ o = .length ∨ o = .unexpected
  let n := min 15 (r.failures + 1)
  { r with
    lastOutcome := o
    toggle := if began then !r.toggle else r.toggle
    stats := { r.stats with
      successes := if o = .ok then satInc r.stats.successes else r.stats.successes
      failures := if bad then satInc r.stats.failures else r.stats.failures }
    state := if r.state = .disabled then .disabled else if good then .online
             else if bad then (if r.state = .offline ∨ r.threshold ≤ n then .offline
                               else if r.state = .online then .suspect else r.state)
             else r.state
    failures := if r.state = .disabled then r.failures else if good then 0 else if bad then n else r.failures
    fresh := if r.state ≠ .disabled ∧ good then false else r.fresh }

/-- The request a transaction carries, if it carries one (R42). -/
def Txn.request (x : Txn) : Option Tag :=
  match x.source with
  | .request g => some g
  | .schedule | .extraPoll | .sync => none

/-- R59's table for the transaction `x` of a line in this role: its outcome, or none where its request is put back. -/
def State.endOf (s : State) (role : Role) (x : Txn) : Option TxnOutcome :=
  if x.lastOutcome = .ok then some .ok
  else if ∃ g, x.request = some g ∧ (s.slot g).abortPending = true then some .aborted
  else if ∃ d, x.drop = some d ∧ (s.drop d).state = .disabled then some .dropDisabled
  else if role = .stopping then some .lineStopped
  else if (role = .yielding ∨ role = .standby) ∧ x.attempts < x.retry + 1 then
    (if x.request = none then some .lineStopped else none)
  else some x.lastOutcome

/-- The controller of a line at rest: IDLE with no transaction (R59). -/
def Controller.resting (c : Controller) : Controller :=
  { c with state := .idle, txn := none, window := .none, deciding := false, discard := .passing, reply := .empty }

/-- `s` with this buffer, if one is named, back in the pool. -/
def State.returned (s : State) : Option BufIx → State
  | some b => s.setBuffer b { s.buffer b with place := .free }
  | none => s

/-- The cycle of a line after its schedule entry's transaction `x` ended with outcome `o` (R82): performed if a call began,
skipped invalid if its drop was disabled before. -/
def cycleAfterTxn (c : Cycle) (x : Txn) (o : TxnOutcome) : Cycle :=
  if x.source = .schedule ∧ 0 < x.attempts then { c with performed := c.performed + 1 }
  else if x.source = .schedule ∧ o = .dropDisabled then { c with skipped := c.skipped + 1 }
  else c

/-- `s` after the transaction `x` of a line in this role has come to its end (R59). Put back (R103), its request is QUEUED at the
front of its queue and nothing is reported. Ended, the end report reaches its drop, with DROP_STATE if the state changed; then its
request is completed, its payload buffer back in the pool, and REQUEST_DONE posted (R98, R99). -/
def State.txnEnded (s : State) (l : Line) (role : Role) (x : Txn) : State :=
  let e := s.line l
  match s.endOf role x, x.request with
  | none, some g =>
    (s.setLine l (({ e with ctl := e.ctl.resting } : LineEngine).modQueue (s.slot g).priority (g :: ·))).setSlot g
      { s.slot g with state := .queued, lastLength := x.lastLength }
  | none, none => s
  | some o, request =>
    let counted := s.setLine l { e with
      ctl := e.ctl.resting, cycle := cycleAfterTxn e.cycle x o
      counters := if x.source = .schedule ∧ x.attempts = 0 ∧ o = .dropDisabled then
          { e.counters with skippedInvalid := satInc e.counters.skippedInvalid } else e.counters }
    let told := match x.drop with
      | none => counted
      | some d =>
        let r := s.drop d
        let ended := dropAfterEnd r o (0 < x.attempts)
        { counted.setDrop d ended with
          events := if ended.state = r.state then s.events else s.events.post
            { kind := .dropState, line := some r.line, drop := some d, tag := none, code := ended.state.code
              detail := r.state.code, stamp := s.clock.timestamp } }
    match request with
    | none => told
    | some g =>
      let q := s.slot g
      { (told.setSlot g { q with
          state := .done, outcome := o, abortPending := false
          replyLength := if x.kind = .poll then x.lastLength else 0
          replyStored := decide (x.kind = .poll) && x.lastStored }).returned (s.heldBy g) with
        events := told.events.post
          { kind := .requestDone, line := some q.line, drop := some q.drop, tag := some g, code := o.code
            detail := BitVec.ofNat 8 q.attempts, stamp := s.clock.timestamp } }

/-- `s` after the work in hand of a line in this role has come to its end with no attempt in flight (R60, R131): the transaction it
has, or a PAUSE. -/
def State.workEnded (s : State) (l : Line) (role : Role) : State :=
  match (s.line l).ctl.txn with
  | some x => s.txnEnded l role x
  | none => s.setLine l { s.line l with ctl := (s.line l).ctl.resting }

/-- The cycle of a line that leaves its mastering role: one in progress is abandoned (R74). -/
def Cycle.left (c : Cycle) : Cycle :=
  if c.inProgress then { c with inProgress := false, walk := 0, mayRestart := 0 < c.performed } else c

/-- The event unit after a line left its mastering role: CYCLE_DONE of the cycle abandoned, with the abandoned mark, if the line's
cycle events are on (R74). -/
def State.eventsLeft (s : State) (l : Line) : EventUnit :=
  let e := s.line l
  if e.cycle.inProgress = true ∧ e.params.cycleEvents = true then
    s.events.post { kind := .cycleDone, line := some l, drop := none, tag := none, code := BitVec.ofNat 8 e.cycle.performed
                    detail := BitVec.ofNat 8 e.cycle.skipped ||| 0x80, stamp := s.clock.timestamp }
  else s.events

/-- `s` with the role of a line changed and LINE_ROLE posted (R126, R130, R131). -/
def State.roleTold (s : State) (l : Line) (role : Role) (cause : RoleCause) : State :=
  { s.setLine l { s.line l with role } with
    events := s.events.post { kind := .lineRole, line := some l, drop := none, tag := none, code := role.code, detail := cause.code
                              stamp := s.clock.timestamp } }

/-- `s` after a line that came to STANDBY has left its cycle, the frame it had open and what it assembled, its observer and its
silence count starting afresh (R74, R6, R114, R132, R137). -/
def State.onStandby (s : State) (l : Line) : State :=
  let e := s.line l
  { (s.setLine l { e with
      cycle := e.cycle.left, observer := .empty, silence := .zero
      reader := if e.reader.state = .inFrame then e.flushed e.reader else e.reader }).returned (s.assembling l) with
    events := s.eventsLeft l }

/-- `s` after an OFF or STANDBY line has become MASTER, before its work selection (R128): from OFF its receiver, reader, transmitter
and cycle timer start afresh (R129, R67, R150); from STANDBY an open frame is abandoned and a capture's buffer returned. Silence
and consecutive contention are 0, the gap count is at the gap quota, and a takeover sets the pending flag; LINE_ROLE is posted. -/
def State.onMaster (s : State) (l : Line) (cause : RoleCause) : State :=
  let e := s.line l
  let begun := { e.cycle with gapCount := e.params.gapQuota, owed := e.cycle.owed || decide (cause = .takeover) }
  let led := { e with observer := .empty, silence := .zero, contention := 0 }
  let left := if e.role = .off then
      s.setLine l { led with rx := .reset, reader := .reset, tx := .reset
                             divisor := e.params.divisorFor s.clock.effective
                             cycle := { begun with timer := 0, expiryDue := false } }
    else
      (s.setLine l { led with reader := if e.reader.state = .inFrame then e.flushed e.reader else e.reader
                              cycle := begun }).returned (s.assembling l)
  left.roleTold l .master cause

/-- `s` after a line that came to OFF has left its cycle and what it assembled, its receiver, frame reader, transmitter, observer,
silence count and cycle timer stopped (R74, R114, R130, R2, R20, R67). -/
def State.onOff (s : State) (l : Line) : State :=
  let e := s.line l
  { (s.setLine l { e with
      cycle := { e.cycle.left with timer := 0, expiryDue := false }, observer := .empty, silence := .zero
      rx := .reset, reader := .reset, tx := .reset }).returned (s.assembling l) with
    events := s.eventsLeft l }

/-- The requests a line reset completes, in the order of R106: the ACTIVE one, then the queued ones, urgent before normal. -/
def State.resetTags (s : State) (l : Line) : List Tag :=
  (s.txnTag l).toList ++ (s.line l).urgent ++ (s.line l).normal

/-- The event unit after a line reset: REQUEST_DONE of every request completed, in the order of R106, then LINE_ROLE with role OFF
and cause RESET unless the role was OFF (R139 step 5). -/
def State.eventsReset (s : State) (l : Line) : EventUnit :=
  let done := (s.resetTags l).foldl (fun u g => EventUnit.post u
    { kind := .requestDone, line := some (s.slot g).line, drop := some (s.slot g).drop, tag := some g, code := 15
      detail := BitVec.ofNat 8 (s.slot g).attempts, stamp := s.clock.timestamp }) s.events
  if (s.line l).role = .off then done
  else done.post { kind := .lineRole, line := some l, drop := none, tag := none, code := 0, detail := 3
                   stamp := s.clock.timestamp }

/-- `s` after the demotion of a MASTER line whose contention is counted (R131): STANDBY with LINE_ROLE, the summary bit, then the
end of the work in hand, then the rest of what entering STANDBY does. -/
def State.demoted (s : State) (l : Line) : State :=
  let told := s.roleTold l .standby .demotion
  let raised := { told with events := told.events.raise (match l with | .a => .contentionA | .b => .contentionB) }
  (raised.workEnded l .standby).onStandby l

end Sys2Proof.Machine

section

open Sys2Proof Sys2Proof.Machine

/-! ### The machine as a whole -/

/-- A step with a command waiting is the meaning of the command at the front, on the state with the rest of the queue. The
queue of waiting commands is the model's (log 21). -/
def Obligations.StepRunsFront : Prop :=
  ∀ (c : Instr) (rest : List Instr) (s : State),
    s.pending = c :: rest → step s = exec c { s with pending := rest }

/-- Every command answers a next state and leaves the queue of waiting commands alone; every step answers a next state.
A row whose condition does not hold leaves the state (log 1, the model's choice). -/
def Obligations.EveryCommandAnswers : Prop :=
  (∀ (c : Instr) (s : State), ∃ t, exec c s = .next t ∧ t.pending = s.pending) ∧ ∀ s : State, ∃ t, step s = .next t

/-- The numbers that R179 gives the codes of its tables, each table in its order. -/
abbrev codesNumbered : Prop :=
  [Line.a, .b].map (·.code) = [0, 1] ∧ [Source.iosc, .xref].map (·.code) = [0, 1] ∧
  [ReqKind.poll, .data].map (·.code) = [1, 2] ∧ [Priority.normal, .urgent].map (·.code) = [0, 1] ∧
  [SlotState.free, .queued, .active, .done].map (·.code) = [0, 1, 2, 3] ∧
  [DropState.disabled, .unknown, .online, .suspect, .offline].map (·.code) = [0, 1, 2, 3, 4] ∧
  [ReplyPolicy.queue, .replace, .discard].map (·.code) = [0, 1, 2] ∧
  [AttnPolicy.ignore, .report, .extraPoll].map (·.code) = [0, 1, 2] ∧
  [Origin.schedule, .request, .observed].map (·.code) = [0, 1, 2] ∧
  [CycleMode.timed, .continuous, .manual].map (·.code) = [0, 1, 2] ∧
  [Role.off, .standby, .master, .yielding, .stopping].map (·.code) = [0, 1, 2, 3, 4] ∧
  [RoleCause.command, .takeover, .demotion, .reset].map (·.code) = [0, 1, 2, 3] ∧
  [Monitor.absent, .starting, .present].map (·.code) = [0, 1, 2] ∧
  [CmdResult.none, .done, .refused].map (·.code) = [0, 1, 2] ∧
  [FrameKind.reply, .ack, .busy, .poll, .data, .sync].map (·.code) = [1, 2, 3, 4, 5, 6] ∧
  [CtlState.idle, .guard, .send, .await, .receive, .discard, .backoff, .pause].map (·.code) = [0, 1, 2, 3, 4, 5, 6, 7] ∧
  [AccessStatus.none, .readOnly, .dropEnabled, .bankActive, .bankCommitted, .noneOpen, .outOfRange, .badObject].map (·.code) =
    [0, 1, 2, 3, 4, 5, 6, 7] ∧
  [EventKind.requestDone, .dropState, .dropAttention, .replyLost, .cycleDone, .cycleOverrun, .scheduleSwapped, .lineRole,
    .lineSilent, .clockSwitched, .clockFallback].map (·.code) = [1, 2, 3, 4, 5, 6, 7, 8, 9, 10, 11] ∧
  [TxnOutcome.none, .ok, .busy, .noBuffer, .timeout, .gap, .check, .framing, .length, .unexpected, .contention, .clockFault,
    .aborted, .dropDisabled, .lineStopped, .lineReset].map (·.code) = [0, 1, 2, 3, 4, 5, 6, 7, 8, 9, 10, 11, 12, 13, 14, 15] ∧
  [CmdRefusal.none, .badCommand, .badKind, .badLength, .badDrop, .dropDisabled, .lineOff, .noSlot, .poolLow, .badTag, .notDone,
    .notAbortable, .notDisabled, .inUse, .badAddress, .dupAddress, .notEnabled, .badLine, .lineBusy, .sameRole, .notMaster,
    .swapPending, .empty, .alreadyOpen, .noneOpen, .badScope].map (·.code) =
    [0, 1, 2, 3, 4, 5, 6, 7, 8, 9, 10, 11, 12, 13, 14, 15, 16, 17, 18, 19, 20, 21, 22, 23, 24, 25]

/-- The event window shows this record's fields, a line, drop or tag that is none as 0xFF, the timestamp's least
significant byte first (R159, R179). -/
abbrev windowShows (s : State) (x : EventRecord) : Prop :=
  s.readRegister 0x12 = BitVec.ofNat 8 x.kind.code ∧
  s.readRegister 0x13 = (match x.line with | none => 0xFF | some l => l.code) ∧
  s.readRegister 0x14 = (match x.drop with | none => 0xFF | some d => BitVec.ofNat 8 d.val) ∧
  s.readRegister 0x15 = (match x.tag with | none => 0xFF | some g => BitVec.ofNat 8 g.val) ∧
  s.readRegister 0x16 = x.code ∧ s.readRegister 0x17 = x.detail ∧
  s.readRegister 0x18 = x.stamp.setWidth 8 ∧ s.readRegister 0x19 = (x.stamp >>> 8).setWidth 8 ∧
  s.readRegister 0x1A = (x.stamp >>> 16).setWidth 8 ∧ s.readRegister 0x1B = (x.stamp >>> 24).setWidth 8

/-- The eight registers of a line block show the line (R179); with no transaction in hand attempts used shows 0, the model's choice
(log 44). -/
abbrev blockShows (s : State) (l : Line) : Prop :=
  let e := s.line l
  let reg (k : BitVec 6) : Byte := s.readRegister ((match l with | .a => 0x30 | .b => 0x38) + k)
  (reg 0).toNat = e.role.code.toNat + e.cycle.inProgress.toNat * 8 + e.cycle.owed.toNat * 16 + e.sched.swapPending.toNat * 32 +
    e.sched.active.toNat * 64 + e.silence.flag.toNat * 128 ∧
  wide (reg 1) (reg 2) = e.cycle.number.toNat ∧ reg 3 = BitVec.ofNat 8 e.cycle.walk ∧
  reg 4 = e.ctl.state.code + BitVec.ofNat 8 (16 * (match e.ctl.txn with | none => 0 | some x => x.attempts)) ∧
  reg 5 = (match e.ctl.txn.bind (·.drop) with | none => 0xFF | some d => BitVec.ofNat 8 d.val) ∧
  wide (reg 6) (reg 7) = e.silence.count.toNat

/-- What a read of each register shows of the state, in every state; the register map after device reset, address by
address, the pins, and the invariants of the model. IRQ_STATUS is said by InterruptFollowsSources, TIMESTAMP1 to 3 by
TimestampReadLatches, ACCESS_SIZE by AccessDataReadAdvances. -/
def Obligations.RegistersAndReset : Prop :=
  codesNumbered ∧
  (∀ s : State,
    let r (a : BitVec 6) : Byte := s.readRegister a
    r 0x00 = 0x32 ∧ r 0x01 = 0x01 ∧ r 0x02 = s.command.code ∧ r 0x03 = s.bus.arg0 ∧ r 0x04 = s.bus.arg1 ∧
    (r 0x05).toNat = (if s.command.busy = none then 0 else 1) + s.command.last.code.toNat * 2 ∧
    r 0x06 = s.command.result ∧ r 0x07 = s.command.refusal.code ∧ r 0x08 = s.bus.objectReg ∧ r 0x09 = s.bus.indexReg ∧
    r 0x0A = BitVec.ofNat 8 s.bus.offset ∧
    r 0x0B = (if s.bus.offset < s.bus.size then s.bus.snapshot.getD s.bus.offset 0 else 0) ∧
    r 0x0C = s.bus.status.code ∧ r 0x0D = BitVec.ofNat 8 s.bus.size ∧
    (r 0x0E).toNat = ((List.finRange 24).filter fun b => decide ((s.buffer b).place = .free)).length ∧
    r 0x0F = BitVec.ofNat 8 s.ready.length ∧
    (s.ready = [] → r 0x10 = 0xFF) ∧
    (∀ b rest, s.ready = b :: rest →
      (r 0x10).toNat = (s.buffer b).drop.val + (s.buffer b).origin.code.toNat * 32 + s.opened.toNat * 128) ∧
    r 0x11 = BitVec.ofNat 8 s.events.queue.length ∧
    (s.events.queue = [] → r 0x12 = 0 ∧ r 0x13 = 0xFF ∧ r 0x14 = 0xFF ∧ r 0x15 = 0xFF ∧ r 0x16 = 0 ∧ r 0x17 = 0 ∧
      r 0x18 = 0 ∧ r 0x19 = 0 ∧ r 0x1A = 0 ∧ r 0x1B = 0) ∧
    (∀ x rest, s.events.queue = x :: rest → windowShows s x) ∧
    r 0x1C = 0 ∧ r 0x1D = BitVec.ofNat 8 s.events.lost ∧ wide (r 0x1E) (r 0x1F) = s.events.mask.toNat ∧
    r 0x20 = BitVec.ofNat 8 s.events.threshold ∧ r 0x21 = BitVec.ofNat 8 s.events.ageLimit ∧ r 0x22 = s.events.irqEnable ∧
    r 0x24 = s.events.summary ∧ r 0x25 = 0 ∧
    (r 0x26).toNat = s.clock.requested.code.toNat + s.clock.xrefEnable.toNat * 2 ∧
    (r 0x27).toNat = s.clock.effective.code.toNat + s.clock.monitor.code.toNat * 2 +
      (if s.clock.requested = s.clock.effective then 0 else 8) ∧
    wide (r 0x28) (r 0x29) = s.clock.divIosc.toNat ∧ wide (r 0x2A) (r 0x2B) = s.clock.divXref.toNat ∧
    r 0x2C = s.clock.timestamp.setWidth 8 ∧ ∀ l, blockShows s l) ∧
  (∀ a : BitVec 6, State.reset.readRegister a =
    match a.toNat with
    | 0x00 => 0x32 | 0x01 => 0x01 | 0x0E => 24 | 0x10 => 0xFF | 0x13 => 0xFF | 0x14 => 0xFF | 0x15 => 0xFF | 0x1E => 0x0F
    | 0x1F => 0xFE | 0x20 => 1 | 0x28 => 0x01 | 0x29 => 0x20 | 0x2B => 0xFA | 0x35 => 0xFF | 0x3D => 0xFF
    | _ => 0) ∧
  (∀ l, (State.reset.line l).role = .off ∧ (State.reset.line l).tx.pin = true ∧ (State.reset.line l).tx.enable = false) ∧
  State.reset.irqPin = true ∧ State.reset.pending = [] ∧
  State.reset.DropsAgree ∧ State.reset.AddressesUnique ∧ State.reset.events.Bounded ∧ State.reset.events.SummarySound ∧
  State.reset.PinAgrees ∧ State.reset.clock.Sound ∧ State.reset.ReadyAgrees ∧ State.reset.QueuesAgree ∧
  State.reset.BuffersPlaced ∧
  ∀ l, (State.reset.line l).RoleSound

/-- R38: device reset puts every drop record in its reset state at once, and no event is posted. The registers read as
RegistersAndReset says. -/
def Obligations.DeviceResetDropRecords : Prop :=
  ∀ s : State, ∃ t, exec .deviceReset s = .next t ∧
    (∀ d, (t.drop d).state = .disabled ∧ (t.drop d).address.toNat = d.val + 1 ∧ (t.drop d).line = .a ∧
      (t.drop d).retryLimit = 2 ∧ (t.drop d).threshold = 3 ∧ (t.drop d).revisit = 8 ∧ (t.drop d).replyPolicy = .queue ∧
      (t.drop d).attnPolicy = .ignore ∧ (t.drop d).failures = 0 ∧ (t.drop d).toggle = false ∧ (t.drop d).fresh = false ∧
      (t.drop d).attention = false ∧ (t.drop d).lastOutcome = .none ∧
      (t.drop d).stats = { successes := 0, failures := 0, busies := 0, timeouts := 0, replyErrors := 0, stales := 0,
                           observations := 0 }) ∧
    t.events.queue = [] ∧ t.events.lost = 0 ∧ ∀ a, t.readRegister a = State.reset.readRegister a

/-! ### Invariants that every step keeps -/

/-- R23: a drop's failure count agrees with its state, at reset and after every step; an offline threshold changes only
while its drop is DISABLED (a device reset makes it so). -/
def Obligations.FailureCountsAgree : Prop :=
  State.reset.DropsAgree ∧
  ∀ s t : State, s.DropsAgree → step s = .next t →
    t.DropsAgree ∧
    ∀ d, (t.drop d).threshold = (s.drop d).threshold ∨ (s.drop d).state = .disabled ∨ (t.drop d).state = .disabled

/-- No step lets two enabled drops of a line share an address. -/
def Obligations.AddressesStayUnique : Prop :=
  ∀ s t : State, s.AddressesUnique → step s = .next t → t.AddressesUnique

/-- The event unit keeps its bounds. Snapshot and renewal marks stay within the set bits, and losses are counted only
with EVENT_LOST set. -/
def Obligations.EventUnitStaysSound : Prop :=
  (∀ s t : State, s.events.Bounded → step s = .next t → t.events.Bounded) ∧
  (∀ s t : State, s.events.SummarySound → step s = .next t → t.events.SummarySound)

/-- XREF is effective only while the monitor is PRESENT. -/
def Obligations.ClockStaysSound : Prop :=
  ∀ s t : State, s.clock.Sound → step s = .next t → t.clock.Sound

/-- The ready list and the places of the buffers go on agreeing. -/
def Obligations.ReadyListStaysSound : Prop :=
  ∀ s t : State, s.ReadyAgrees → step s = .next t → t.ReadyAgrees

/-- At most one buffer assembles on a line and none while it is OFF; a held buffer belongs to a QUEUED or ACTIVE DATA
request with a payload of 1 to 32 bytes (R111), which holds no other. -/
def Obligations.BuffersStayPlaced : Prop :=
  ∀ s t : State, s.BuffersPlaced → step s = .next t → t.BuffersPlaced

/-- The queues and the slots go on agreeing. -/
def Obligations.QueuesStaySound : Prop :=
  ∀ s t : State, s.QueuesAgree → step s = .next t → t.QueuesAgree

/-- Silence belongs to STANDBY, a line without a mastering role has its controller IDLE, and an OFF line rests. -/
def Obligations.RolesStaySound : Prop :=
  ∀ s t : State, (∀ l, (s.line l).RoleSound) → step s = .next t → ∀ l, (t.line l).RoleSound

/-- R162: after every step nIRQ is low exactly while a source is active and enabled, and IRQ_STATUS shows the sources; a
write to IRQ_STATUS changes nothing; the row EVENT_AGE_EXPIRY only lets nIRQ follow the head's age. -/
def Obligations.InterruptFollowsSources : Prop :=
  (∀ s t : State, step s = .next t → t.PinAgrees) ∧
  (∀ s : State,
    ((s.readRegister 0x23).getLsbD 0 = true ↔ s.EventsActive) ∧ ((s.readRegister 0x23).getLsbD 1 = true ↔ s.ReadyActive) ∧
    ((s.readRegister 0x23).getLsbD 2 = true ↔ s.SummaryActive)) ∧
  (∀ (s : State) (v : Byte), ∃ t, exec (.registerWrite 0x23 v) s = .next t ∧ t = { s with irqPin := t.irqPin } ∧ t.PinAgrees) ∧
  ∀ s : State, ∃ t, exec .eventAgeExpiry s = .next t ∧ t = { s with irqPin := t.irqPin } ∧ t.PinAgrees

/-- A row of one line leaves the other line's engine alone. -/
def Obligations.LinesAreIndependent : Prop :=
  ∀ (s t : State) (c : Instr) (l : Line), s.QueuesAgree → eventLine c = some l → exec c s = .next t →
    t.line (otherLine l) = s.line (otherLine l)

/-- The frame of the rows that are events on a line: what the host writes (its side of the part, line parameters, the contents of
the schedule banks, drop configuration, event mask, threshold, age limit and interrupt enables) and the clock unit are unchanged,
and records only join the event queue. -/
def Obligations.LineRowsLeaveHostSide : Prop :=
  ∀ (s t : State) (c : Instr) (l : Line), eventLine c = some l → exec c s = .next t → Untouched s t

/-- One period of the effective source on the receiver: without a sample (R1), and with a sample of this level, the
receiver and the row the sample makes (R2, R3, R5, R7). The samples left of a stop bit are the model's reading (log 24).
-/
def rxAfterPeriod (l : Line) (e : LineEngine) (level : Bool) : Receiver × List Instr :=
  let r := e.rx
  if r.phase + 1 < e.divisor then ({ r with phase := r.phase + 1 }, [])
  else match r.state, level with
    | .waitHigh, true => ({ r with phase := 0 }, [.lineSeenHigh l])
    | .waitHigh, false => ({ r with phase := 0, idle := 0, idleSamples := 0, stopTail := r.stopTail - 1 }, [])
    | .huntEdge, false => ({ r with phase := 0 }, [.startBit l])
    | .huntEdge, true =>
      (if r.stopTail ≠ 0 then { r with phase := 0, stopTail := r.stopTail - 1 }
       else if r.idleSamples < 7 then { r with phase := 0, idleSamples := r.idleSamples + 1 }
       else { r with phase := 0, idle := min 256 (r.idle + 1), idleSamples := 0 }, [])
    | .receiving, level =>
      let taken := if r.sampleNo % 8 = 2 ∨ r.sampleNo % 8 = 3 ∨ r.sampleNo % 8 = 4 then r.samples ++ [level] else r.samples
      let ones := if level then (r.idleSamples + 1) % 8 else 0
      let vote : Vote := ⟨taken.getD 0 true, taken.getD 1 true, taken.getD 2 true⟩
      ({ r with phase := 0, sampleNo := r.sampleNo + 1, samples := taken, idleSamples := ones },
       if r.sampleNo = 4 ∧ vote.majority = true then [.falseStart l ⟨4 ≤ ones, vote⟩]
       else if r.sampleNo = 84 then [.characterReceived l (charOfSamples taken)] else [])

/-- One period of the effective source on a bit timer: a bit time is 8 divisor periods (R1, R149). -/
def timerAfterPeriod (divisor : Nat) (t : BitTimer) : BitTimer :=
  if t.phase + 1 < 8 * divisor then { t with phase := t.phase + 1 } else { bits := t.bits + 1, phase := 0 }

/-- One period of the effective source on the echoes waited for: the time since the end of a character's stop bit, after which its
echo is missing, counts for those whose character has ended (R11). -/
def echoesAfterPeriod (divisor : Nat) (xs : List Echo) : List Echo :=
  xs.map fun x => if x.ended then { x with overdue := timerAfterPeriod divisor x.overdue } else x

/-- One period of the effective source on the transmitter. With no character in transmission only the times of R10 and R11 go on,
while an echo is waited for. A character in transmission shows its next bit (R1); its 11th bit time ends it, and from then its own
echo can be missing. The next character follows back to back, or driver enable is released (R10 to R12). -/
def txAfterPeriod (divisor : Nat) (x : Transmitter) : Transmitter :=
  let timer := timerAfterPeriod divisor x.timer
  let echoes := echoesAfterPeriod divisor x.echoes
  let sent := echoes.map fun y => { y with ended := true }
  match x.sending with
  | none => if x.echoes = [] then x else { x with timer, echoes }
  | some c =>
    if timer.bits < 11 then
      { x with timer, echoes
               pin := if timer.bits = 0 then false
                      else if timer.bits ≤ 8 then c.data.getLsbD (timer.bits - 1)
                      else if timer.bits = 9 then c.mark else true }
    else match x.stop, x.toSend with
      | none, next :: rest =>
        { x with sending := some next, toSend := rest, pin := false, timer := .zero
                 echoes := sent ++ [{ char := next, ended := false, overdue := .zero }] }
      | _, _ => { x with sending := none, enable := false, pin := true, tail := true, timer := .zero, echoes := sent }

/-- A stored reply whose stop bit lasts, `n` periods later (R115). -/
def stampAfter (n : Nat) (x : Option OpenStamp) : Option OpenStamp :=
  match x with
  | none => none
  | some x => if x.left < n then none else some { x with left := x.left - n }

/-- A step with no command waiting (log 3, the model's choice): the first event that has fallen due is the row that
takes it, and with none due one period of the effective source passes. The prescaler counts it and delivers a tick at
the divider × 64 (R151), which restarts it; one already there (R147) gives one tick, its excess dropped (log 41, the
model's choice). Under XREF each period restarts the quiet count (log 34, the model's choice); the rows of one instant
come in the order tick, line A, line B (log 4, the model's choice); on each line that is not OFF the receiver takes its
sample, the receive pin showing the part's own pin while it drives the line and 1 otherwise (log 5, the model's choice);
a character in transmission shows its next bit and ends after its 11th, and the echoes waited for of characters that have ended
grow overdue; the window, the pause and the observer's timer count while they run; all else stays. -/
def Obligations.EmptyQueueLetsTimePass : Prop :=
  (∀ (s : State) (c : Instr), s.pending = [] → s.due = some c → step s = exec c s) ∧
  (∀ s : State, s.due = none → ∀ l,
    let e := s.line l
    e.cycle.expiryDue = false ∧ (e.role = .standby → e.silence.due = false) ∧
    (e.role ≠ .off → e.rx.state = .huntEdge → e.reader.state ≠ .hunt → e.rx.idle ≤ e.reader.gap) ∧
    (e.ctl.window = .running → e.ctl.state = .await ∨ e.ctl.state = .receive → e.ctl.windowTimer.bits < e.ctl.windowLength) ∧
    (e.ctl.state = .pause → e.ctl.pauseTimer.bits < e.ctl.pauseLength) ∧
    (e.ctl.txn ≠ none → e.ctl.state = .backoff → e.ctl.backoffCount < e.ctl.backoffLength) ∧
    (e.role = .yielding ∨ e.role = .stopping → e.ctl.state.inFlight = true)) ∧
  ∀ s : State, s.pending = [] → s.due = none → ∃ t, step s = .next t ∧
    let ticks := s.clock.divider.toNat * 64 ≤ s.clock.prescaler + 1
    let rows (l : Line) := if (s.line l).role = .off then []
      else (rxAfterPeriod l (s.line l) (!(s.line l).tx.enable || (s.line l).tx.pin)).2
    t = { s with lineA := t.lineA, lineB := t.lineB, irqPin := t.irqPin
                 pending := (if ticks then [.tick] else []) ++ rows .a ++ rows .b
                 clock := { s.clock with
                   prescaler := s.clock.prescaler + 1
                   quiet := if s.clock.effective = .xref then 0
                            else if s.clock.xrefEnable = true ∧ s.clock.monitor ≠ .absent then s.clock.quiet + 1
                            else s.clock.quiet } } ∧
    ∀ l,
      let e := s.line l
      let one := timerAfterPeriod e.divisor
      (e.role = .off → t.line l = { e with stamping := stampAfter 1 e.stamping }) ∧
      (e.role ≠ .off →
        t.line l = { e with
          rx := (rxAfterPeriod l e (!e.tx.enable || e.tx.pin)).1
          tx := txAfterPeriod e.divisor e.tx
          stamping := stampAfter 1 e.stamping
          ctl := { e.ctl with
            windowTimer := if e.ctl.window = .running ∧ (e.ctl.state = .await ∨ e.ctl.state = .receive ∨
              (e.ctl.state = .discard ∧ e.ctl.discard = .passing)) then one e.ctl.windowTimer else e.ctl.windowTimer
            pauseTimer := if e.ctl.state = .pause then one e.ctl.pauseTimer else e.ctl.pauseTimer }
          observer := if e.role = .standby ∧ e.observer.call ≠ none ∧ e.observer.elapsed = false then
              (if e.observer.lead = 0 then { e.observer with timer := one e.observer.timer }
               else { e.observer with lead := e.observer.lead - 1 })
            else e.observer })

/-! ### Event unit (chapter 9) -/

/-- The rows that take records out of the event queue: EVENT_POP, device reset and soft reset. -/
def takesRecords (c : Instr) : Bool :=
  match c with
  | .eventPop _ | .deviceReset | .softResetTakesEffect => true
  | .registerWrite addr _ => addr = 0x1C || cmdCode c = some 0x60
  | _ => cmdCode c = some 0x60

/-- R158 and EVENT_POP: the queue holds what was posted in order, loses a post when it is full, and gives its head to
EVENT_POP; a masked post leaves everything as it was. -/
def Obligations.EventQueueKeepsOrder : Prop :=
  (∀ (u : EventUnit) (r : EventRecord), u.mask.getLsbD r.kind.code = false → u.post r = u) ∧
  (∀ (u : EventUnit) (r : EventRecord), u.mask.getLsbD r.kind.code = true →
    (u.queue.length < 32 →
      u.post r = { u with queue := u.queue ++ [r], headAge := if u.queue = [] then 0 else u.headAge }) ∧
    (u.queue.length = 32 →
      u.post r = { u with lost := min 255 (u.lost + 1), summary := u.summary ||| 0x01
                          renewed := if u.summary.getLsbD 0 then u.renewed ||| 0x01 else u.renewed })) ∧
  (∀ (s : State) (v : Byte), s.writable → exec (.eventPop v) s = .next (State.driveIrq
    { s with events :=
        match s.events.queue with
        | [] => s.events
        | [_] => { s.events with queue := [], headAge := 0 }
        | _ :: r :: rest =>
          { s.events with queue := r :: rest, headAge := min 255 (s.clock.timestamp - r.stamp).toNat } })) ∧
  (∀ (c : Instr) (s t : State), takesRecords c = false → exec c s = .next t → s.events.queue <+: t.events.queue) ∧
  (∀ s : State, ∃ t, exec .deviceReset s = .next t ∧ t.events.queue = []) ∧
  (∀ s : State, s.command.busy = some .softReset → ∃ t, exec .softResetTakesEffect s = .next t ∧ t.events.queue = []) ∧
  ∀ s : State, s.readRegister 0x11 = BitVec.ofNat 8 s.events.queue.length

/-- R165: a read of SUMMARY returns the bits, takes the snapshot and clears every renewal mark; an occurrence after it is
protected, one before it is shown; neither snapshot nor marks are shown in any register. -/
def Obligations.SummaryReadTakesSnapshot : Prop :=
  (∀ s : State, exec .summaryRead s = .next (State.driveIrq
    { s with bus := { s.bus with data := s.events.summary }
             events := { s.events with snapshot := s.events.summary, renewed := 0 } })) ∧
  (∀ (u : EventUnit) (b : SummaryBit),
    ((u.readSummary.raise b).summary.getLsbD b.index = true) ∧
    (u.summary.getLsbD b.index = false →
      (u.readSummary.raise b).snapshot.getLsbD b.index = false ∧ (u.readSummary.raise b).renewed.getLsbD b.index = false) ∧
    (u.summary.getLsbD b.index = true → (u.readSummary.raise b).renewed.getLsbD b.index = true) ∧
    ((u.raise b).readSummary.snapshot.getLsbD b.index = true ∧ (u.raise b).readSummary.renewed = 0)) ∧
  ∀ (s : State) (a : BitVec 6) (x y : Byte),
    { s with events := { s.events with snapshot := x, renewed := y } }.readRegister a = s.readRegister a

/-- R166: a write to SUMMARY_CLEAR clears each bit that is in the mask, in the snapshot and not renewed, and removes it
from the snapshot; nothing that recurred after the latest read is cleared, by this write or by a second one without a
read. -/
def Obligations.SummaryClearSparesRecurrence : Prop :=
  (∀ (s : State) (m : Byte), s.writable → ∃ t, exec (.summaryClear m) s = .next t ∧
    t = { s with events := { s.events with summary := t.events.summary, snapshot := t.events.snapshot, lost := t.events.lost }
                 irqPin := t.irqPin } ∧
    (∀ k, k < 8 →
      if m.getLsbD k = true ∧ s.events.snapshot.getLsbD k = true ∧ s.events.renewed.getLsbD k = false then
        t.events.summary.getLsbD k = false ∧ t.events.snapshot.getLsbD k = false
      else
        t.events.summary.getLsbD k = s.events.summary.getLsbD k ∧ t.events.snapshot.getLsbD k = s.events.snapshot.getLsbD k) ∧
    t.events.lost = if s.events.summary.getLsbD 0 = true ∧ t.events.summary.getLsbD 0 = false then 0 else s.events.lost) ∧
  ∀ (u : EventUnit) (b : SummaryBit) (m n : Byte), u.SummarySound →
    ((u.readSummary.raise b).clearSummary m).summary.getLsbD b.index = true ∧
    ((u.clearSummary m).raise b).summary.getLsbD b.index = true ∧
    (((u.readSummary.clearSummary m).raise b).clearSummary n).summary.getLsbD b.index = true

/-! ### Register window and access port (chapter 10) -/

/-- R170: a read of TIMESTAMP0 returns the least significant byte and latches the other three of the same count; reads of
TIMESTAMP1 to 3 return the latch, which only another read of TIMESTAMP0 and a device reset change. -/
def Obligations.TimestampReadLatches : Prop :=
  (∀ s : State, exec .timestampRead s = .next (State.driveIrq
    { s with bus := { s.bus with data := s.clock.timestamp.setWidth 8
                                 latch := (s.clock.timestamp >>> 8).setWidth 24 } })) ∧
  (∀ s : State, s.readRegister 0x2D = s.bus.latch.setWidth 8 ∧ s.readRegister 0x2E = (s.bus.latch >>> 8).setWidth 8 ∧
    s.readRegister 0x2F = (s.bus.latch >>> 16).setWidth 8) ∧
  (∀ (c : Instr) (s t : State), c ≠ .timestampRead → c ≠ .deviceReset → exec c s = .next t → t.bus.latch = s.bus.latch) ∧
  (∀ s : State, ∃ t, exec .deviceReset s = .next t ∧ t.bus.latch = 0) ∧
  ∀ (s : State) (k : BitVec 6), 0x18 ≤ k.toNat → k.toNat ≤ 0x1B → ∀ x : BitVec 24,
    { s with bus := { s.bus with latch := x } }.readRegister k = s.readRegister k

/-- The two bytes of a 16-bit field of an object, the more significant one first (R179). -/
def halfField (h : Half) : List Byte :=
  [(h >>> 8).setWidth 8, h.setWidth 8]

/-- A number as a byte of a field. -/
def numField (n : Nat) : Byte :=
  BitVec.ofNat 8 n

/-- A byte of flags, bit 0 first (R179). -/
def flagField (flags : List Bool) : Byte :=
  numField (flags.foldr (fun b n => (if b then 1 else 0) + 2 * n) 0)

/-- A field that may be none: 0xFF for none (R179). -/
def fieldOrNone (f : Option Nat) : Byte :=
  match f with
  | none => 0xFF
  | some n => numField n

/-- The layouts of the seven objects, byte by byte (R179). -/
def layoutOf (s : State) : ObjectSel → List Byte
  | .drop d =>
    let x := s.drop d
    [x.address.setWidth 8, x.line.code, numField x.retryLimit, numField x.threshold, numField x.revisit, x.replyPolicy.code,
      x.attnPolicy.code, x.state.code, numField x.failures, flagField [x.toggle, x.fresh, x.attention], x.lastOutcome.code] ++
      halfField x.stats.successes ++ halfField x.stats.failures ++ halfField x.stats.busies ++ halfField x.stats.timeouts ++
      halfField x.stats.replyErrors ++ halfField x.stats.stales ++ halfField x.stats.observations
  | .sched l n =>
    let x := (s.line l).sched.bank n
    numField x.length :: x.entries.toList.flatMap fun
      | .poll d => [1, numField d.val]
      | .sync => [2, 0]
      | .pause k => [3, numField k]
  | .staging => [s.staging.drop, s.staging.kind, s.staging.priority, s.staging.length] ++ s.staging.payload.toList
  | .slot g =>
    let x := s.slot g
    [x.state.code, numField x.drop.val, x.line.code, x.kind.code, x.priority.code, numField x.length,
      flagField [decide (∃ b, (s.buffer b).place = .held g), x.replyStored, x.abortPending]] ++ halfField x.sequence ++
      [fieldOrNone x.retry, numField x.attempts, x.outcome.code, numField x.replyLength]
  | .buffer =>
    match s.opened, s.ready with
    | true, b :: _ =>
      let x := s.buffer b
      [x.origin.code, fieldOrNone (x.tag.map (·.val)), numField x.drop.val, x.line.code, x.kind.code,
        flagField [x.attention, x.extraPoll], numField x.length, numField x.replaced] ++
        halfField ((x.stamp >>> 16).setWidth 16) ++ halfField (x.stamp.setWidth 16) ++ halfField x.cycle ++ x.payload.toList
    | _, _ => []
  | .params l =>
    let x := (s.line l).params
    halfField (BitVec.ofNat 16 x.divIosc) ++ halfField (BitVec.ofNat 16 x.divXref) ++ [numField x.gapLimit, numField x.guard] ++
      halfField (BitVec.ofNat 16 x.window) ++ [numField x.backoff, x.mode.code] ++ halfField (BitVec.ofNat 16 x.period) ++
      [numField x.gapQuota, flagField [x.cycleEvents, x.autoTakeover, x.capture], numField x.contentionLimit] ++
      halfField (BitVec.ofNat 16 x.takeoverSilence)
  | .counters l =>
    let x := (s.line l).counters
    halfField x.unsolicited ++ halfField x.noise ++ halfField x.stale ++ halfField x.contention ++ halfField x.repliesLost ++
      halfField x.overruns ++ halfField x.skippedInvalid ++ halfField x.skippedOffline

/-- A write to ACCESS_OBJECT or ACCESS_INDEX stores the byte and selects the object that the two registers now name: its
bytes become the snapshot, the offset 0 and the hold register empty; a code or index out of range selects nothing. The
bytes of each object are laid out as R179 says. -/
def Obligations.AccessSelectTakesSnapshot : Prop :=
  (∀ (s : State) (o : ObjectSel), s.objectBytes o = layoutOf s o) ∧
  ∀ (s : State) (r : SelectReg) (v : Byte), s.writable → ∃ t, exec (.accessSelect r v) s = .next t ∧
    t = { s with bus := { s.bus with objectReg := t.bus.objectReg, indexReg := t.bus.indexReg, hold := none, offset := 0
                                     selected := t.bus.selected, snapshot := t.bus.snapshot, status := t.bus.status }
                 irqPin := t.irqPin } ∧
    (r = .object → t.bus.objectReg = v ∧ t.bus.indexReg = s.bus.indexReg) ∧
    (r = .index → t.bus.objectReg = s.bus.objectReg ∧ t.bus.indexReg = v) ∧
    (t.bus.selected = none → t.bus.snapshot = [] ∧ t.readRegister 0x0D = 0) ∧
    (∀ o, t.bus.selected = some o → t.bus.snapshot = s.objectBytes o ∧ t.bus.snapshot.length = o.size ∧
      t.readRegister 0x0D = BitVec.ofNat 8 o.size ∧ t.bus.status = .none) ∧
    (let c := t.bus.objectReg.toNat
     let i := t.bus.indexReg.toNat
     (c = 0 → t.bus.selected = none ∧ t.bus.status = .none) ∧
     (∀ h : i < 32, c = 1 → t.bus.selected = some (.drop ⟨i, h⟩)) ∧
     (c = 2 → (i = 0 → t.bus.selected = some (.sched .a false)) ∧ (i = 1 → t.bus.selected = some (.sched .a true)) ∧
       (i = 2 → t.bus.selected = some (.sched .b false)) ∧ (i = 3 → t.bus.selected = some (.sched .b true))) ∧
     (c = 3 → i = 0 → t.bus.selected = some .staging) ∧
     (∀ h : i < 16, c = 4 → t.bus.selected = some (.slot ⟨i, h⟩)) ∧
     (c = 5 → i = 0 → s.opened = true → s.ready ≠ [] → t.bus.selected = some .buffer) ∧
     (c = 5 → i = 0 → s.opened = false → t.bus.selected = none ∧ t.bus.status = .noneOpen) ∧
     (c = 6 → (i = 0 → t.bus.selected = some (.params .a)) ∧ (i = 1 → t.bus.selected = some (.params .b))) ∧
     (c = 7 → (i = 0 → t.bus.selected = some (.counters .a)) ∧ (i = 1 → t.bus.selected = some (.counters .b))) ∧
     ((c = 1 ∧ 32 ≤ i) ∨ (c = 2 ∧ 4 ≤ i) ∨ (c = 3 ∧ 1 ≤ i) ∨ (c = 4 ∧ 16 ≤ i) ∨ (c = 5 ∧ 1 ≤ i) ∨ (c = 6 ∧ 2 ≤ i) ∨
         (c = 7 ∧ 2 ≤ i) ∨ 8 ≤ c →
       t.bus.selected = none ∧ t.bus.status = .badObject))

/-- R172: a read of ACCESS_DATA returns the snapshot byte at the offset and advances the offset, which holds at the
size; a write to ACCESS_OFFSET sets it up to the size. -/
def Obligations.AccessDataReadAdvances : Prop :=
  (∀ s : State, exec .accessDataRead s = .next (State.driveIrq
    { s with bus := { s.bus with
        data := if s.bus.offset < s.bus.size then s.bus.snapshot.getD s.bus.offset 0 else 0
        offset := min s.bus.size (s.bus.offset + 1) } })) ∧
  (∀ (s : State) (v : Byte), s.writable → exec (.accessOffsetWrite v) s = .next (State.driveIrq
    { s with bus := if v.toNat ≤ s.bus.size then { s.bus with offset := v.toNat } else s.bus })) ∧
  (∀ s : State, s.bus.selected = none → s.bus.size = 0) ∧ ∀ (s : State) (o : ObjectSel), s.bus.selected = some o →
    s.bus.size = o.size

/-- The configuration values that a drop record takes (R37). -/
abbrev dropValueFits (k : Nat) (v : Byte) : Prop :=
  (k = 0 ∧ v.toNat ≤ 127) ∨ (k = 1 ∧ v.toNat ≤ 1) ∨ (k = 2 ∧ v.toNat ≤ 7) ∨ (k = 3 ∧ 1 ≤ v.toNat ∧ v.toNat ≤ 15) ∨
    (k = 4 ∧ 1 ≤ v.toNat ∧ v.toNat ≤ 16) ∨ ((k = 5 ∨ k = 6) ∧ v.toNat ≤ 2)

/-- The offsets of the more significant bytes of the 16-bit fields of a read-only object (R179); none of an object with a
field that the host may write. -/
def readOnlyHalves : ObjectSel → Option (List Nat)
  | .slot _ => some [7]
  | .buffer => some [12]
  | .counters _ => some [0, 2, 4, 6, 8, 10, 12, 14]
  | .drop _ | .sched _ _ | .staging | .params _ => none

/-- A data write to the staging area is accepted as written, whatever the byte; with no object selected, or at the
object's size, a data write is refused and the offset stays. R37: a data write to a drop record. Configuration (offsets
0 to 6) is refused DROP_ENABLED on an enabled drop, refused OUT_OF_RANGE or accepted on a DISABLED one; dynamic fields
and statistics are refused READ_ONLY, a statistic at the commit of its less significant byte. A data write to a slot,
the open buffer or the line counters is refused READ_ONLY, for a 16-bit field when its less significant byte is written;
that the four bytes of a buffer's timestamp are judged one by one is log 30, the model's choice. -/
def Obligations.StagingAndDropWrites : Prop :=
  ((∀ (s : State) (k : Nat) (v : Byte), s.writable → s.atField .staging k → ∃ t, exec (.accessDataWrite v) s = .next t ∧
    t = { s with staging := t.staging, bus := s.bus.tookByte k v, irqPin := t.irqPin } ∧
    t.staging.bytes = s.staging.bytes.set k v) ∧
  ∀ (s : State) (v : Byte), s.writable →
    (s.bus.selected = none ∨ ∃ o, s.bus.selected = some o ∧ s.bus.offset = o.size) →
    exec (.accessDataWrite v) s = .next (State.driveIrq { s with bus := { s.bus with status := .badObject } })) ∧
  (∀ (s : State) (d : DropIx) (k : Nat) (v : Byte), s.writable → s.atField (.drop d) k →
    (k < 7 → (s.drop d).state ≠ .disabled → exec (.accessDataWrite v) s = .next (s.writeRefused k s.bus.hold .dropEnabled)) ∧
    (k < 7 → (s.drop d).state = .disabled → ¬ dropValueFits k v →
      exec (.accessDataWrite v) s = .next (s.writeRefused k s.bus.hold .outOfRange)) ∧
    (k < 7 → (s.drop d).state = .disabled → dropValueFits k v → ∃ t, exec (.accessDataWrite v) s = .next t ∧
      t = { s.setDrop d (t.drop d) with bus := s.bus.tookByte k v, irqPin := t.irqPin } ∧
      (t.drop d).bytes = (s.drop d).bytes.set k v) ∧
    (7 ≤ k → k < 11 → exec (.accessDataWrite v) s = .next (s.writeRefused k s.bus.hold .readOnly)) ∧
    (11 ≤ k → k % 2 = 1 →
      exec (.accessDataWrite v) s = .next (s.writeRefused k (some (.field (.drop d) k, v)) .none)) ∧
    (11 ≤ k → k % 2 = 0 → exec (.accessDataWrite v) s = .next (s.writeRefused k none .readOnly))) ∧
  ∀ (s : State) (o : ObjectSel) (k : Nat) (v : Byte) (halves : List Nat), s.writable → s.atField o k →
    readOnlyHalves o = some halves →
    (k ∈ halves → exec (.accessDataWrite v) s = .next (s.writeRefused k (some (.field o k, v)) .none)) ∧
    (k ∈ halves.map (· + 1) → exec (.accessDataWrite v) s = .next (s.writeRefused k none .readOnly)) ∧
    (k ∉ halves → k ∉ halves.map (· + 1) → exec (.accessDataWrite v) s = .next (s.writeRefused k s.bus.hold .readOnly))

/-- An entry in range (R76). -/
abbrev entryFits (kind arg : Byte) : Prop :=
  (kind = 1 ∧ arg.toNat ≤ 31) ∨ (kind = 2 ∧ arg = 0) ∨ (kind = 3 ∧ arg ≠ 0)

/-- R77: a data write to a schedule bank, its length at offset 0 and its entries at the offsets of their arguments: the
bank's ownership is judged first, then the range. -/
def Obligations.BankWriteJudgesOwnershipFirst : Prop :=
  ∀ (s : State) (l : Line) (n : Bool) (k : Nat) (v hi : Byte), s.writable → s.atField (.sched l n) k →
    (k % 2 = 1 → exec (.accessDataWrite v) s = .next (s.writeRefused k (some (.field (.sched l n) k, v)) .none)) ∧
    (k % 2 = 0 → (k ≠ 0 → s.upperIs (.sched l n) k (((s.line l).sched.bank n).bytes.getD (k - 1) 0) hi) →
      let hold := if k = 0 then s.bus.hold else none
      let fits := if k = 0 then v.toNat ≤ 24 else entryFits hi v
      ((s.line l).sched.active = n → exec (.accessDataWrite v) s = .next (s.writeRefused k hold .bankActive)) ∧
      ((s.line l).sched.active ≠ n → (s.line l).sched.swapPending = true →
        exec (.accessDataWrite v) s = .next (s.writeRefused k hold .bankCommitted)) ∧
      ((s.line l).sched.active ≠ n → (s.line l).sched.swapPending = false → ¬ fits →
        exec (.accessDataWrite v) s = .next (s.writeRefused k hold .outOfRange)) ∧
      ((s.line l).sched.active ≠ n → (s.line l).sched.swapPending = false → fits →
        ∃ t, exec (.accessDataWrite v) s = .next t ∧
          t = { s.setLine l { s.line l with sched := (s.line l).sched.setBank n ((t.line l).sched.bank n) } with
                bus := if k = 0 then s.bus.tookByte k v else s.bus.tookHalf k hi v, irqPin := t.irqPin } ∧
          ((t.line l).sched.bank n).bytes =
            if k = 0 then ((s.line l).sched.bank n).bytes.set 0 v
            else (((s.line l).sched.bank n).bytes.set (k - 1) hi).set k v))

/-- The 8-bit line parameters by offset, with the values they take (R8, R45, R68, R140). -/
abbrev paramByteFits (k : Nat) (v : Byte) : Prop :=
  ((k = 4 ∨ k = 5 ∨ k = 8 ∨ k = 14) ∧ 1 ≤ v.toNat) ∨ (k = 9 ∧ v.toNat ≤ 2) ∨ (k = 12 ∧ 1 ≤ v.toNat ∧ v.toNat ≤ 16) ∨
    (k = 13 ∧ v.toNat ≤ 7)

/-- The 16-bit line parameters by the offset of their less significant byte, with the values they take (R45, R68, R140,
R149). -/
abbrev paramHalfFits (k h : Nat) : Prop :=
  ((k = 1 ∨ k = 3 ∨ k = 7) ∧ 1 ≤ h ∧ h ≤ 4095) ∨ (k = 11 ∧ 1 ≤ h) ∨ k = 16

/-- What an accepted write of a line parameter does to the cycle: period and cycle mode restart the timer and clear the
pending flag, every other parameter leaves it alone (R68). That an expiry due and not yet taken goes with them is the
model's reading (log 26). -/
def cycleAfterWrite (k : Nat) (c : Cycle) : Cycle :=
  if k = 9 ∨ k = 11 then { c with timer := 0, expiryDue := false, owed := false } else c

/-- A data write to a line parameter is accepted in range, refused OUT_OF_RANGE outside it; 16-bit parameters are
committed at their less significant byte. A write to the cycle mode or the period restarts the cycle timer and clears
the pending flag; that it also drops an expiry that is due and not yet taken is the model's reading (log 26). -/
def Obligations.LineParameterWrite : Prop :=
  ∀ (s : State) (l : Line) (k : Nat) (v hi : Byte), s.writable → s.atField (.params l) k →
    (k ∈ [0, 2, 6, 10, 15] →
      exec (.accessDataWrite v) s = .next (s.writeRefused k (some (.field (.params l) k, v)) .none)) ∧
    (k ∈ [4, 5, 8, 9, 12, 13, 14] → ¬ paramByteFits k v →
      exec (.accessDataWrite v) s = .next (s.writeRefused k s.bus.hold .outOfRange)) ∧
    (k ∈ [4, 5, 8, 9, 12, 13, 14] → paramByteFits k v → ∃ t, exec (.accessDataWrite v) s = .next t ∧
      t = { s.setLine l { s.line l with params := (t.line l).params, cycle := cycleAfterWrite k (s.line l).cycle } with
            bus := s.bus.tookByte k v, irqPin := t.irqPin } ∧
      (t.line l).params.bytes = (s.line l).params.bytes.set k v) ∧
    (k ∈ [1, 3, 7, 11, 16] → s.upperIs (.params l) k ((s.line l).params.bytes.getD (k - 1) 0) hi →
      (¬ paramHalfFits k (wide hi v) → exec (.accessDataWrite v) s = .next (s.writeRefused k none .outOfRange)) ∧
      (paramHalfFits k (wide hi v) → ∃ t, exec (.accessDataWrite v) s = .next t ∧
        t = { s.setLine l { s.line l with params := (t.line l).params, cycle := cycleAfterWrite k (s.line l).cycle } with
              bus := s.bus.tookHalf k hi v, irqPin := t.irqPin } ∧
        (t.line l).params.bytes = ((s.line l).params.bytes.set (k - 1) hi).set k v))

/-- R152: an accepted write to either tick divider restarts the prescaler, whichever source it belongs to; a value of
0 is refused and restarts nothing; resets. Of R151: the dividers' range and defaults, and that 0 leaves the divider. R143: what a write to CLOCK_CONTROL does to the requested source,
XREF_ENABLE and the monitor (values whose bits 7 to 2 are 0, the bits the register does not name). -/
def Obligations.ClockRegisterWrites : Prop :=
  ((∀ (s : State) (src : Source) (v hi : Byte), s.writable →
    (s.bus.hold = some (.reg (dividerReg src), hi) ∨
      ((∀ b, s.bus.hold ≠ some (.reg (dividerReg src), b)) ∧ hi.toNat = (s.clock.dividerOf src).toNat / 256)) →
    (wide hi v = 0 → exec (.tickDividerWrite src v) s = .next (State.driveIrq { s with bus := { s.bus with hold := none } })) ∧
    (wide hi v ≠ 0 → ∃ t, exec (.tickDividerWrite src v) s = .next t ∧
      t = { s with bus := { s.bus with hold := none }, irqPin := t.irqPin
                   clock := { s.clock with prescaler := 0, divIosc := t.clock.divIosc, divXref := t.clock.divXref } } ∧
      (t.clock.dividerOf src).toNat = wide hi v ∧ ∀ o, o ≠ src → t.clock.dividerOf o = s.clock.dividerOf o)) ∧
  (∀ s : State, ∃ t, exec .deviceReset s = .next t ∧ t.clock.divIosc = 288 ∧ t.clock.divXref = 250 ∧ t.clock.prescaler = 0) ∧
  ∀ (s t : State) (c : Instr), c = .softReset ∨ c = .softResetTakesEffect ∨ c = .lineReset ∨ c = .lineResetTakesEffect →
    exec c s = .next t → t.clock.divIosc = s.clock.divIosc ∧ t.clock.divXref = s.clock.divXref ∧
      t.clock.prescaler = s.clock.prescaler) ∧
  ((∀ (s : State) (v : Byte), s.writable → v &&& 0xFC = 0 → ∃ t, exec (.clockControlWrite v) s = .next t ∧
    t = { s with irqPin := t.irqPin
                 clock := { s.clock with requested := if v.getLsbD 0 then .xref else .iosc
                                         xrefEnable := t.clock.xrefEnable, monitor := t.clock.monitor
                                         edges := t.clock.edges, quiet := t.clock.quiet } } ∧
    t.clock.xrefEnable = (v.getLsbD 1 || v.getLsbD 0 || (s.clock.xrefEnable && decide (s.clock.effective = .xref))) ∧
    (t.clock.xrefEnable = false → t.clock.monitor = .absent) ∧
    (s.clock.xrefEnable = false → t.clock.xrefEnable = true → t.clock.monitor = .absent ∧ t.clock.edges = 0) ∧
    (s.clock.xrefEnable = true → t.clock.xrefEnable = true →
      t.clock.monitor = s.clock.monitor ∧ t.clock.edges = s.clock.edges ∧ t.clock.quiet = s.clock.quiet)) ∧
  ∀ s : State, ∃ t, exec .deviceReset s = .next t ∧ t.clock.requested = .iosc ∧ t.clock.xrefEnable = false)

/-- Writes to the registers without a row of their own, and to the more significant byte of a 16-bit register: the
argument bytes, the event mask, the threshold, the age limit and the enables take what is in range; read-only
registers ignore it. While SOFT_RESET waits every register write is ignored, but that a write to CMD still raises
CMD_OVERRUN; a code that names no command is refused BAD_COMMAND by an IDLE command unit. -/
def Obligations.PlainAndIgnoredWrites : Prop :=
  (∀ (s : State) (v hi : Byte), s.writable →
    (exec (.registerWrite 0x03 v) s = .next (State.driveIrq { s with bus := { s.bus with arg0 := v } })) ∧
    (exec (.registerWrite 0x04 v) s = .next (State.driveIrq { s with bus := { s.bus with arg1 := v } })) ∧
    (exec (.registerWrite 0x20 v) s = .next (State.driveIrq
      { s with events := if 1 ≤ v.toNat ∧ v.toNat ≤ 32 then { s.events with threshold := v.toNat } else s.events })) ∧
    (exec (.registerWrite 0x21 v) s = .next (State.driveIrq { s with events := { s.events with ageLimit := v.toNat } })) ∧
    (exec (.registerWrite 0x22 v) s = .next (State.driveIrq { s with events := { s.events with irqEnable := v &&& 0x07 } })) ∧
    (∀ r, exec (.holdRegisterWrite r v) s = .next (State.driveIrq { s with bus := { s.bus with hold := some (.reg r, v) } })) ∧
    (s.bus.hold = some (.reg .eventMask, hi) ∨
        ((∀ b, s.bus.hold ≠ some (.reg .eventMask, b)) ∧ hi.toNat = s.events.mask.toNat / 256) →
      exec (.registerWrite 0x1F v) s = .next (State.driveIrq
        { s with bus := { s.bus with hold := none }
                 events := { s.events with mask := BitVec.ofNat 16 (wide hi v) &&& 0x0FFE } })) ∧
    (∀ a : BitVec 6, a.toNat ∈ [0x00, 0x01, 0x05, 0x06, 0x07, 0x0C, 0x0D, 0x0E, 0x0F, 0x10, 0x11, 0x12, 0x13, 0x14, 0x15, 0x16,
        0x17, 0x18, 0x19, 0x1A, 0x1B, 0x1D, 0x23, 0x24, 0x27, 0x2C, 0x2D, 0x2E, 0x2F] ∨ 0x30 ≤ a.toNat →
      exec (.registerWrite a v) s = .next s.driveIrq)) ∧
  ((∀ (s : State) (v : Byte) (r : SelectReg) (w : WideReg) (src : Source) (a : BitVec 6),
    s.command.busy = some .softReset → a ≠ 0x02 →
    ∀ c, c ∈ [Instr.summaryClear v, .eventPop v, .accessSelect r v, .accessOffsetWrite v, .accessDataWrite v,
        .clockControlWrite v, .tickDividerWrite src v, .holdRegisterWrite w v, .registerWrite a v] →
      exec c s = .next s.driveIrq) ∧
  ∀ (s : State) (code : Byte), s.idle → code ∉ commandCodes →
    exec (.badCommand code) s = .next (refusedAs s code .badCommand))

/-! ### Commands (chapter 10) -/

/-- R175: a write to CMD while the command unit is BUSY is ignored but for the summary cause CMD_OVERRUN, whatever the
code; CMD reads back the command in progress; the argument registers are taken (during LINE_RESET) and touch nothing
else; once the unit is IDLE a write to CMD is taken. -/
def Obligations.CmdOverrunKeepsCommand : Prop :=
  (∀ (s : State) (c : Instr) (code : Byte), cmdCode c = some code → s.command.busy ≠ none →
    exec c s = .next (State.driveIrq
      { s with events := if s.events.summary.getLsbD 2 then { s.events with renewed := s.events.renewed ||| 0x04 }
                         else { s.events with summary := s.events.summary ||| 0x04 } })) ∧
  (∀ (s t : State) (c : Instr) (code : Byte), cmdCode c = some code → s.command.busy ≠ none → exec c s = .next t →
    t.readRegister 0x02 = s.command.code) ∧
  (∀ (s : State) (l : Line) (v : Byte), s.command.busy = some (.lineReset l) →
    exec (.registerWrite 0x03 v) s = .next (State.driveIrq { s with bus := { s.bus with arg0 := v } }) ∧
    exec (.registerWrite 0x04 v) s = .next (State.driveIrq { s with bus := { s.bus with arg1 := v } })) ∧
  ∀ (s t : State) (c : Instr) (code : Byte), cmdCode c = some code → s.idle → exec c s = .next t → t.command.code = code

/-- READY_OPEN (R120) opens the head of the ready list, refused EMPTY or ALREADY_OPEN; the buffer stays open until
READY_RELEASE, device reset or soft reset. That its timestamp may become final there, where the stop bit of its check character
still lasts, and that the line's note of that stop bit ends with it, is the model's reading (log 40; TickAdvancesCounts says how).
READY_RELEASE (R123) removes the open buffer from the head of the ready list and frees it; the next head is not opened; refused
NONE_OPEN with no buffer open. -/
def Obligations.ReadyOpenAndRelease : Prop :=
  ((∀ s : State, s.idle →
    (s.ready = [] → exec .readyOpen s = .next (refusedAs s 0x40 .empty)) ∧
    (s.ready ≠ [] → s.opened = true → exec .readyOpen s = .next (refusedAs s 0x40 .alreadyOpen)) ∧
    (∀ b rest, s.ready = b :: rest → s.opened = false →
      ((∀ x, (s.line (s.buffer b).line).stamping = some x → x.buffer ≠ b) →
        exec .readyOpen s = .next (doneAs { s with opened := true } 0x40 0)) ∧
      ∃ t, exec .readyOpen s = .next t ∧
        (let l := (s.buffer b).line
         t = doneAs { (s.setLine l { s.line l with stamping := (t.line l).stamping }).setBuffer b
           { s.buffer b with stamp := (t.buffer b).stamp } with opened := true } 0x40 0) ∧
        t.openBuffer = some b ∧ t.readRegister 0x0F = s.readRegister 0x0F ∧
        (t.readRegister 0x10).getLsbD 7 = true)) ∧
  ∀ (c : Instr) (s t : State), exec c s = .next t → s.opened = true →
    t.opened = true ∨ c = .deviceReset ∨ c = .softResetTakesEffect ∨ cmdCode c = some 0x41 ∨ cmdCode c = some 0x60) ∧
  (∀ s : State, s.idle →
    (s.opened = false → exec .readyRelease s = .next (refusedAs s 0x41 .noneOpen)) ∧
    ∀ b rest, s.opened = true → s.ready = b :: rest → (s.buffer b).place = .ready →
      exec .readyRelease s = .next (doneAs
        { s.setBuffer b { s.buffer b with place := .free } with ready := rest, opened := false } 0x41 0) ∧
      let t := doneAs { s.setBuffer b { s.buffer b with place := .free } with ready := rest, opened := false } 0x41 0
      t.freeCount = s.freeCount + 1 ∧ t.readRegister 0x0F = BitVec.ofNat 8 rest.length ∧
        t.readRegister 0x10 = (match rest with
          | [] => 0xFF
          | next :: _ => BitVec.ofNat 8 (s.buffer next).drop.val ||| ((s.buffer next).origin.code <<< 5)))

/-- R36: CLEAR_COUNTERS by its scope, with the refusals in the order of R178. -/
def Obligations.ClearCountersByScope : Prop :=
  ∀ s : State, s.idle →
    (3 ≤ s.bus.arg0.toNat → exec .clearCounters s = .next (refusedAs s 0x50 .badScope)) ∧
    (s.bus.arg0 = 0 → 31 < s.bus.arg1.toNat → exec .clearCounters s = .next (refusedAs s 0x50 .badDrop)) ∧
    (s.bus.arg0 = 1 → 1 < s.bus.arg1.toNat → exec .clearCounters s = .next (refusedAs s 0x50 .badLine)) ∧
    (∀ d : DropIx, s.bus.arg0 = 0 → s.bus.arg1.toNat = d.val →
      exec .clearCounters s = .next (doneAs (s.setDrop d { s.drop d with stats := .zero }) 0x50 0)) ∧
    (∀ l : Line, s.bus.arg0 = 1 → s.bus.arg1 = l.code →
      exec .clearCounters s = .next (doneAs (s.setLine l { s.line l with counters := .zero }) 0x50 0)) ∧
    (s.bus.arg0 = 2 → ∃ t, exec .clearCounters s = .next (doneAs t 0x50 0) ∧
      t = { s with drops := t.drops, lineA := { s.lineA with counters := .zero }
                   lineB := { s.lineB with counters := .zero } } ∧
      ∀ d, t.drop d = { s.drop d with stats := .zero })

/-- SOFT_RESET. With no character in transmission it takes effect within its write; else the command unit is BUSY, both
transmitters stop after their character, and SOFT_RESET_TAKES_EFFECT completes it. When it takes effect drops, cycles,
requests, buffers, roles and the event unit take their soft-reset values, configuration and clock are kept. That it takes
effect within its write is the model's reading (log 8). -/
def Obligations.SoftResetKeepsConfiguration : Prop :=
  (∀ s : State, s.idle → (s.lineA.tx.sending ≠ none ∨ s.lineB.tx.sending ≠ none) → ∃ t, exec .softReset s = .next t ∧
    t = { s with lineA := { s.lineA with tx := t.lineA.tx }, lineB := { s.lineB with tx := t.lineB.tx }
                 clock := { s.clock with requested := s.clock.effective }
                 command := { s.command with code := 0x60, busy := some .softReset }, irqPin := t.irqPin } ∧
    ∀ l, (t.line l).tx = { (s.line l).tx with stop := (t.line l).tx.stop } ∧
      ((s.line l).tx.sending ≠ none → (t.line l).tx.stop ≠ none)) ∧
  ∀ (s : State) (c : Instr),
    (c = .softReset ∧ s.idle ∧ s.lineA.tx.sending = none ∧ s.lineB.tx.sending = none) ∨
      (c = .softResetTakesEffect ∧ s.command.busy = some .softReset) →
    ∃ t, exec c s = .next t ∧
      t.command.busy = none ∧ t.command.last = .done ∧ t.command.result = 0 ∧ t.command.refusal = .none ∧
      (∀ l, (t.line l).role = .off ∧ (t.line l).ctl.state = .idle ∧ (t.line l).ctl.txn = none ∧
        (t.line l).params = (s.line l).params ∧ (t.line l).counters = .zero ∧ (t.line l).contention = 0 ∧
        (t.line l).sched = { (s.line l).sched with swapPending := false } ∧ (t.line l).cycle = .reset ∧
        (t.line l).tx = .reset ∧ (t.line l).reader.state = .hunt ∧ (t.line l).observer = .empty ∧
        (t.line l).silence = .zero ∧ (t.line l).urgent = [] ∧ (t.line l).normal = []) ∧
      (∀ d, t.drop d =
        { s.drop d with state := if (s.drop d).state = .disabled then .disabled else .unknown, failures := 0, toggle := false
                        fresh := !decide ((s.drop d).state = .disabled), attention := false, lastOutcome := .none
                        stats := .zero }) ∧
      (∀ g, t.slot g = .reset) ∧ t.sequence = 0 ∧ t.staging = .reset ∧ t.ready = [] ∧ t.opened = false ∧ t.freeCount = 24 ∧
      t.events = { s.events with queue := [], headAge := 0, lost := 0, summary := 0, snapshot := 0, renewed := 0 } ∧
      t.bus = { s.bus with hold := none, objectReg := 0, indexReg := 0, offset := 0, selected := none, snapshot := []
                           status := .none } ∧
      t.clock = (if c = .softReset then { s.clock with requested := s.clock.effective } else s.clock)

/-! ### Requests (chapter 5) -/

/-- R92: the checks of SUBMIT in order; the first that fails is the refusal, and a refused SUBMIT changes nothing; a
SUBMIT that passes them all is accepted, on a MASTER as on a STANDBY line. -/
def Obligations.SubmitRefusals : Prop :=
  ∀ s : State, s.idle →
    let g := s.staging
    let kindFits := (g.kind = 1 ∨ g.kind = 2) ∧ (g.priority = 0 ∨ g.priority = 1)
    let lengthFits := (g.kind = 1 → g.length = 0) ∧ (g.kind = 2 → g.length.toNat ≤ 32)
    (¬ kindFits → exec .submit s = .next (refusedAs s 0x01 .badKind)) ∧
    (kindFits → ¬ lengthFits → exec .submit s = .next (refusedAs s 0x01 .badLength)) ∧
    (kindFits → lengthFits → 31 < g.drop.toNat → exec .submit s = .next (refusedAs s 0x01 .badDrop)) ∧
    ∀ d : DropIx, kindFits → lengthFits → g.drop.toNat = d.val →
      let role := (s.line (s.drop d).line).role
      ((s.drop d).state = .disabled → exec .submit s = .next (refusedAs s 0x01 .dropDisabled)) ∧
      ((s.drop d).state ≠ .disabled → role = .off ∨ role = .stopping ∨ role = .yielding →
        exec .submit s = .next (refusedAs s 0x01 .lineOff)) ∧
      ((s.drop d).state ≠ .disabled → role = .master ∨ role = .standby → (∀ t, (s.slot t).state ≠ .free) →
        exec .submit s = .next (refusedAs s 0x01 .noSlot)) ∧
      ((s.drop d).state ≠ .disabled → role = .master ∨ role = .standby → (∃ t, (s.slot t).state = .free) →
        g.kind = 2 → g.length ≠ 0 → s.freeCount ≤ 2 → exec .submit s = .next (refusedAs s 0x01 .poolLow)) ∧
      ((s.drop d).state ≠ .disabled → role = .master ∨ role = .standby → (∃ t, (s.slot t).state = .free) →
        g.kind = 1 ∨ g.length = 0 ∨ 3 ≤ s.freeCount →
        ∃ t, exec .submit s = .next t ∧ t.command.last = .done ∧ t.command.refusal = .none)

/-- An accepted SUBMIT: the lowest FREE slot is filled and QUEUED at the tail of the queue its priority names, with the next
sequence number; a DATA with a payload takes one free buffer and its bytes. On a line at a boundary (MASTER with its controller
IDLE) the work selection then runs within the SUBMIT (R93, R88; PauseElapsedSelectsWork says what it takes); elsewhere nothing
else moves. -/
def Obligations.SubmitFillsSlot : Prop :=
  ∀ (s : State) (d : DropIx) (tag : Tag) (kind : ReqKind) (priority : Priority), s.idle →
    s.staging.kind = kind.code → s.staging.priority = priority.code → s.staging.drop.toNat = d.val →
    (kind = .poll → s.staging.length = 0) → s.staging.length.toNat ≤ 32 → (s.drop d).state ≠ .disabled →
    (s.line (s.drop d).line).role = .standby ∨ (s.line (s.drop d).line).role = .master →
    (s.slot tag).state = .free → (∀ g < tag, (s.slot g).state ≠ .free) →
    (s.staging.length ≠ 0 → 3 ≤ s.freeCount) →
    let l := (s.drop d).line
    let e := s.line l
    ∃ q : State,
      q = { s.setLine l (e.modQueue priority (· ++ [tag])) with
            sequence := s.sequence + 1, slots := q.slots, buffers := q.buffers } ∧
      q.slot tag = { state := .queued, drop := d, line := l, kind, priority, length := s.staging.length.toNat
                     sequence := s.sequence + 1, retry := none, attempts := 0, outcome := .none, lastLength := 0
                     replyLength := 0, replyStored := false, abortPending := false } ∧
      (∀ g, g ≠ tag → q.slot g = s.slot g) ∧
      (s.staging.length = 0 → q.buffers = s.buffers) ∧
      (s.staging.length ≠ 0 → ∃ b, (s.buffer b).place = .free ∧ (q.buffer b).place = .held tag ∧
        (q.buffer b).length = s.staging.length.toNat ∧
        (∀ k, k < s.staging.length.toNat → (q.buffer b).payload.toList.getD k 0 = s.staging.payload.toList.getD k 0) ∧
        ∀ e, e ≠ b → q.buffer e = s.buffer e) ∧
      (e.role = .standby ∨ e.ctl.state ≠ .idle →
        exec .submit s = .next (doneAs q 0x01 (BitVec.ofNat 8 tag.val))) ∧
      (e.role = .master → e.ctl.state = .idle →
        exec .submit s = .next (doneAs (q.select l) 0x01 (BitVec.ofNat 8 tag.val)))

/-- R100: RETIRE makes a DONE slot FREE and keeps its other fields; the ready list is untouched; the next SUBMIT finds
this slot or a lower one. ABORT: a QUEUED request leaves its queue and completes ABORTED, its buffer returned and
REQUEST_DONE posted; an ACTIVE one whose attempt is in flight is only marked; FREE and DONE slots are refused. The
result byte is the slot's state after the command (log 14, the model's reading). One whose transaction waits in GUARD
or BACKOFF ends early with it: the slot is DONE with ABORTED, the drop's last outcome is ABORTED and its toggle flips
exactly if a call began, and the work selection runs. -/
def Obligations.RetireAndAbort : Prop :=
  (∀ s : State, s.idle →
    (15 < s.bus.arg0.toNat → exec .retire s = .next (refusedAs s 0x02 .badTag)) ∧
    ∀ tag : Tag, s.bus.arg0.toNat = tag.val →
      ((s.slot tag).state ≠ .done → exec .retire s = .next (refusedAs s 0x02 .notDone)) ∧
      ((s.slot tag).state = .done →
        exec .retire s = .next (doneAs (s.setSlot tag { s.slot tag with state := .free }) 0x02 0) ∧
        ∃ g, (doneAs (s.setSlot tag { s.slot tag with state := .free }) 0x02 0).freeSlot = some g ∧ g ≤ tag)) ∧
  (∀ s : State, s.idle →
    (15 < s.bus.arg0.toNat → exec .abort s = .next (refusedAs s 0x03 .badTag)) ∧
    ∀ tag : Tag, s.bus.arg0.toNat = tag.val →
      let x := s.slot tag
      (x.state = .free ∨ x.state = .done → exec .abort s = .next (refusedAs s 0x03 .notAbortable)) ∧
      (x.state = .active → (s.line x.line).ctl.state.inFlight = true →
        exec .abort s = .next (doneAs (s.setSlot tag { x with abortPending := true }) 0x03 2)) ∧
      (∀ y d, (s.line x.line).ctl.state = .guard ∨ (s.line x.line).ctl.state = .backoff → s.QueuesAgree →
        (s.line x.line).ctl.txn = some y → y.source = .request tag → y.drop = some d → y.lastOutcome ≠ .ok →
        ∃ t : State, exec .abort s = .next (doneAs (t.select x.line) 0x03 3) ∧
          t = { s.setLine x.line { s.line x.line with
                  ctl := { (s.line x.line).ctl with state := .idle, txn := none, window := .none, deciding := false
                                                    discard := .passing, reply := .empty } } with
                drops := (s.setDrop d { s.drop d with
                  lastOutcome := .aborted
                  toggle := if 0 < y.attempts then !(s.drop d).toggle else (s.drop d).toggle }).drops
                slots := (s.setSlot tag { x with
                  state := .done, outcome := .aborted, abortPending := false
                  replyLength := if y.kind = .poll then y.lastLength else 0
                  replyStored := decide (y.kind = .poll) && y.lastStored }).slots
                buffers := t.buffers
                events := s.events.post { kind := .requestDone, line := some x.line, drop := some x.drop, tag := some tag
                                          code := 12, detail := BitVec.ofNat 8 x.attempts, stamp := s.clock.timestamp } } ∧
          ∀ b, t.buffer b = if s.heldBy tag = some b then { s.buffer b with place := .free } else s.buffer b) ∧
      (x.state = .queued → ∃ t, exec .abort s = .next t ∧
        t = { s.setLine x.line ((s.line x.line).modQueue x.priority (·.filter (· ≠ tag))) with
              slots := t.slots, buffers := t.buffers, irqPin := t.irqPin
              events := s.events.post { kind := .requestDone, line := some x.line, drop := some x.drop, tag := some tag
                                        code := 12, detail := BitVec.ofNat 8 x.attempts, stamp := s.clock.timestamp }
              command := { code := 0x03, busy := none, last := .done, result := 3, refusal := .none } } ∧
        t.slot tag = { x with state := .done, outcome := .aborted, abortPending := false, replyLength := 0
                              replyStored := false } ∧
        (∀ g, g ≠ tag → t.slot g = s.slot g) ∧
        ∀ b, t.buffer b = if s.heldBy tag = some b then { s.buffer b with place := .free } else s.buffer b))

/-! ### Drops (chapter 2) -/

/-- DROP_ENABLE: the five checks in order, and what an accepted one writes and posts. -/
def Obligations.DropEnableStartsAfresh : Prop :=
  ∀ s : State, s.idle →
    (31 < s.bus.arg0.toNat → exec .dropEnable s = .next (refusedAs s 0x10 .badDrop)) ∧
    ∀ d : DropIx, s.bus.arg0.toNat = d.val →
      let x := s.drop d
      let used := s.txnDrop .a = some d ∨ s.txnDrop .b = some d
      let duplicate := ∃ e, (s.drop e).state ≠ .disabled ∧ (s.drop e).line = x.line ∧ (s.drop e).address = x.address
      (x.state ≠ .disabled → exec .dropEnable s = .next (refusedAs s 0x10 .notDisabled)) ∧
      (x.state = .disabled → used → exec .dropEnable s = .next (refusedAs s 0x10 .inUse)) ∧
      (x.state = .disabled → ¬ used → x.address = 0 ∨ x.address = 127 →
        exec .dropEnable s = .next (refusedAs s 0x10 .badAddress)) ∧
      (x.state = .disabled → ¬ used → x.address ≠ 0 → x.address ≠ 127 → duplicate →
        exec .dropEnable s = .next (refusedAs s 0x10 .dupAddress)) ∧
      (x.state = .disabled → ¬ used → x.address ≠ 0 → x.address ≠ 127 → ¬ duplicate →
        exec .dropEnable s = .next (doneAs
          { s.setDrop d { x with state := .unknown, failures := 0, toggle := false, fresh := true, attention := false } with
            events := s.events.post { kind := .dropState, line := some x.line, drop := some d, tag := none, code := 1
                                      detail := 0, stamp := s.clock.timestamp } } 0x10 0))

/-- DROP_DISABLE: DISABLED at once with count 0 and attention clear, DROP_STATE posted first, the drop's queued requests
completed DROP_DISABLED; its configuration is kept. A transaction to it in GUARD or BACKOFF ends early DROP_DISABLED,
the toggle flipped exactly if a call began, its request completed; one with an attempt in flight goes on. -/
def Obligations.DropDisableCompletesQueued : Prop :=
  ∀ s : State, s.idle →
    (31 < s.bus.arg0.toNat → exec .dropDisable s = .next (refusedAs s 0x11 .badDrop)) ∧
    ∀ d : DropIx, s.bus.arg0.toNat = d.val →
      ((s.drop d).state = .disabled → exec .dropDisable s = .next (refusedAs s 0x11 .notEnabled)) ∧
      ((s.drop d).state ≠ .disabled → ∃ t, exec .dropDisable s = .next t ∧
        t.command = { code := 0x11, busy := none, last := .done, result := 0, refusal := .none } ∧
        (t.drop d).state = .disabled ∧ (t.drop d).failures = 0 ∧ (t.drop d).attention = false ∧
        (∀ e, (t.drop e).config = (s.drop e).config) ∧
        (s.events.post { kind := .dropState, line := some (s.drop d).line, drop := some d, tag := none, code := 0
                         detail := (s.drop d).state.code, stamp := s.clock.timestamp }).queue <+: t.events.queue ∧
        (s.QueuesAgree → ∀ g, (s.slot g).state = .queued → (s.slot g).drop = d → (s.slot g).line = (s.drop d).line →
          (t.slot g).state = .done ∧ (t.slot g).outcome = .dropDisabled) ∧
        (∀ x, (s.line (s.drop d).line).ctl.txn = some x → x.drop = some d →
          ((s.line (s.drop d).line).ctl.state.inFlight = true → (t.line (s.drop d).line).ctl = (s.line (s.drop d).line).ctl ∧
            (t.drop d).lastOutcome = (s.drop d).lastOutcome ∧ (t.drop d).toggle = (s.drop d).toggle) ∧
          ((s.line (s.drop d).line).ctl.state = .guard ∨ (s.line (s.drop d).line).ctl.state = .backoff →
            x.lastOutcome ≠ .ok → s.abortPending x = false → s.QueuesAgree →
            (t.drop d).lastOutcome = .dropDisabled ∧
            (t.drop d).toggle = (if 0 < x.attempts then !(s.drop d).toggle else (s.drop d).toggle) ∧
            ((t.line (s.drop d).line).ctl.txn = none ∨ ((t.line (s.drop d).line).ctl.state = .guard ∧
              (t.line (s.drop d).line).ctl.txn.bind (·.drop) ≠ some d)) ∧
            ∀ g, x.source = .request g → (t.slot g).state = .done ∧ (t.slot g).outcome = .dropDisabled)) ∧
        t.bus = s.bus ∧ t.clock = s.clock ∧ t.staging = s.staging ∧ t.sequence = s.sequence ∧ t.opened = s.opened)

/-! ### Lines (chapter 7) -/

/-- The refusals of the role commands, in their order. LINE_START on an OFF or STANDBY line: MASTER, silence and
consecutive contention 0, the gap count at the gap quota, the pending flag as it was, LINE_ROLE the first event posted; a line that
was OFF starts its receiver afresh with the working divisor loaded, a STANDBY line's open frame is flushed; then the work selection
runs (R128). -/
def Obligations.LineStartAndRoleRefusals : Prop :=
  (∀ s : State, s.idle →
    ∀ p, p ∈ [(Instr.lineStart, (0x20 : Byte), Role.master), (.lineStandby, 0x21, .standby), (.lineStop, 0x22, .off)] →
      (1 < s.bus.arg0.toNat → exec p.1 s = .next (refusedAs s p.2.1 .badLine)) ∧
      ∀ l : Line, s.bus.arg0 = l.code →
        ((s.line l).role = .yielding ∨ (s.line l).role = .stopping →
          exec p.1 s = .next (refusedAs s p.2.1 .lineBusy)) ∧
        ((s.line l).role = p.2.2 → exec p.1 s = .next (refusedAs s p.2.1 .sameRole))) ∧
  (∀ (s : State) (l : Line), s.idle → s.bus.arg0 = l.code → (s.line l).role = .off ∨ (s.line l).role = .standby →
    ((s.onMaster l .command).line l).cycle.gapCount = (s.line l).params.gapQuota ∧
    ((s.onMaster l .command).line l).cycle.owed = (s.line l).cycle.owed ∧
    exec .lineStart s = .next (doneAs ((s.onMaster l .command).select l) 0x20 2) ∧
    ∃ t, exec .lineStart s = .next t ∧
      t.command = { code := 0x20, busy := none, last := .done, result := 2, refusal := .none } ∧
      (t.line l).role = .master ∧ (t.line l).silence = { count := 0, flag := false, due := false } ∧
      (t.line l).contention = 0 ∧ (t.line l).params = (s.line l).params ∧ (t.line l).tx.enable = (if (s.line l).role = .off
        then false else (s.line l).tx.enable) ∧
      ((s.line l).role = .off → (t.line l).rx.state = .waitHigh ∧ (t.line l).rx.idle = 0 ∧
        (t.line l).reader.state = .hunt ∧ (t.line l).cycle.timer = 0 ∧
        (t.line l).divisor = (s.line l).params.divisorFor s.clock.effective) ∧
      ((s.line l).role = .standby → (t.line l).cycle.timer = (s.line l).cycle.timer ∧ (t.line l).observer = .empty ∧
        (t.line l).reader.state = if (s.line l).reader.state = .inFrame then .flush else (s.line l).reader.state) ∧
      (s.events.post { kind := .lineRole, line := some l, drop := none, tag := none, code := 2, detail := 0
                       stamp := s.clock.timestamp }).queue <+: t.events.queue ∧
      t.bus = s.bus ∧ t.clock = s.clock ∧ t.staging = s.staging ∧ t.sequence = s.sequence ∧ t.opened = s.opened)

/-- LINE_STANDBY and LINE_STOP. An OFF line becomes STANDBY. A MASTER line with an attempt in flight becomes YIELDING or
STOPPING and keeps its transaction; STOPPING completes its queued requests LINE_STOPPED. With no attempt in flight the
role ends at once, in STANDBY or OFF. A STANDBY line stops at once, its LINE_ROLE the last record posted, after the
REQUEST_DONE of every request completed. -/
def Obligations.LineStandbyAndStop : Prop :=
  ∀ (s : State) (l : Line), s.idle → s.bus.arg0 = l.code →
    ((s.line l).role = .off → exec .lineStandby s = .next (doneAs
      { s.setLine l { s.line l with
          role := .standby, rx := .reset, reader := .reset, tx := .reset, observer := .empty, silence := .zero
          cycle := { (s.line l).cycle with timer := 0, expiryDue := false }
          divisor := (s.line l).params.divisorFor s.clock.effective } with
        events := s.events.post { kind := .lineRole, line := some l, drop := none, tag := none, code := 1, detail := 0
                                  stamp := s.clock.timestamp } } 0x21 1)) ∧
    ((s.line l).role = .master → (s.line l).ctl.state.inFlight = true → exec .lineStandby s = .next (doneAs
      { s.setLine l { s.line l with role := .yielding } with
        events := s.events.post { kind := .lineRole, line := some l, drop := none, tag := none, code := 3, detail := 0
                                  stamp := s.clock.timestamp } } 0x21 3)) ∧
    ((s.line l).role = .master → (s.line l).ctl.state.inFlight = false → ∃ t, exec .lineStandby s = .next t ∧
      t.command = { code := 0x21, busy := none, last := .done, result := 1, refusal := .none } ∧
      (t.line l).role = .standby ∧ (t.line l).ctl.state = .idle ∧ (t.line l).cycle.inProgress = false ∧
      (t.line l).observer = .empty ∧ (t.line l).silence = .zero) ∧
    ((s.line l).role = .master → (s.line l).ctl.state.inFlight = true → s.QueuesAgree → ∃ t, exec .lineStop s = .next t ∧
      t.command = { code := 0x22, busy := none, last := .done, result := 4, refusal := .none } ∧
      t.line l = { s.line l with role := .stopping, urgent := [], normal := [] } ∧
      ∀ g, (s.slot g).state = .queued → (s.slot g).line = l →
        (t.slot g).state = .done ∧ (t.slot g).outcome = .lineStopped) ∧
    ((s.line l).role = .master → (s.line l).ctl.state.inFlight = false → ∃ t, exec .lineStop s = .next t ∧
      t.command = { code := 0x22, busy := none, last := .done, result := 0, refusal := .none } ∧
      (t.line l).role = .off ∧ (t.line l).ctl.state = .idle ∧ (t.line l).rx = .reset ∧ (t.line l).cycle.timer = 0) ∧
    ((s.line l).role = .standby → s.QueuesAgree → ∃ t, exec .lineStop s = .next t ∧
      t.command = { code := 0x22, busy := none, last := .done, result := 0, refusal := .none } ∧
      t.line l = { s.line l with
        role := .off, rx := .reset, reader := .reset, tx := .reset, observer := .empty, silence := .zero
        cycle := { (s.line l).cycle with timer := 0, expiryDue := false }, urgent := [], normal := [] } ∧
      (∀ g, (s.slot g).state = .queued → (s.slot g).line = l →
        (t.slot g).state = .done ∧ (t.slot g).outcome = .lineStopped) ∧
      ∃ u : EventUnit, t.events = u.post { kind := .lineRole, line := some l, drop := none, tag := none, code := 0, detail := 0
                                           stamp := s.clock.timestamp } ∧
        u.mask = s.events.mask ∧ ∃ done, u.queue = s.events.queue ++ done ∧
          (∀ r ∈ done, r.kind = .requestDone ∧ r.line = some l ∧ r.code = 14 ∧ r.stamp = s.clock.timestamp) ∧
          ∀ g, (s.slot g).state = .queued → (s.slot g).line = l → s.events.mask.getLsbD 1 = true →
            32 ≤ u.queue.length ∨ ∃ r ∈ done, r.tag = some g)

/-- LINE_RESET. With a character in transmission the command unit stays BUSY and the transmitter stops after it; without
one, or when LINE_RESET_TAKES_EFFECT ends the wait, the line is OFF with everything in hand abandoned, its requests
completed LINE_RESET with their payload buffers returned and REQUEST_DONE posted in the order of R106, its assembling buffer
returned, then LINE_ROLE with cause RESET posted unless the line was OFF (R139); parameters, counters, banks and the other line
are kept. That it takes effect within its write is the model's reading (log 8). -/
def Obligations.LineResetAbandonsWork : Prop :=
  ∀ (s : State) (l : Line),
    (s.idle → 1 < s.bus.arg0.toNat → exec .lineReset s = .next (refusedAs s 0x23 .badLine)) ∧
    (s.idle → s.bus.arg0 = l.code → (s.line l).tx.sending ≠ none → ∃ t, exec .lineReset s = .next t ∧
      t = { s.setLine l { s.line l with tx := { (s.line l).tx with stop := (t.line l).tx.stop } } with
            command := { s.command with code := 0x23, busy := some (.lineReset l) }, irqPin := t.irqPin } ∧
      (t.line l).tx.stop ≠ none) ∧
    ∀ c, (c = .lineReset ∧ s.idle ∧ s.bus.arg0 = l.code ∧ (s.line l).tx.sending = none) ∨
        (c = .lineResetTakesEffect ∧ s.command.busy = some (.lineReset l)) →
      s.QueuesAgree → ∃ t, exec c s = .next t ∧
        t.command.busy = none ∧ t.command.last = .done ∧ t.command.result = 0 ∧ t.command.refusal = .none ∧
        t.line l = { s.line l with
          role := .off, rx := .reset, reader := .reset, tx := .reset, ctl := .reset, contention := 0, cycle := .reset
          sched := { (s.line l).sched with swapPending := false }, observer := .empty, silence := .zero
          urgent := [], normal := [] } ∧
        t.line (otherLine l) = s.line (otherLine l) ∧
        (∀ d, t.drop d = if (s.drop d).line = l then { s.drop d with attention := false } else s.drop d) ∧
        (∀ g, t.slot g = if ((s.slot g).state = .queued ∧ (s.slot g).line = l) ∨ s.txnTag l = some g then
            { s.slot g with state := .done, outcome := .lineReset, abortPending := false, replyLength := 0, replyStored := false }
          else s.slot g) ∧
        (∀ b, t.buffer b = if s.assembling l = some b ∨ ∃ g ∈ s.resetTags l, s.heldBy g = some b then
            { s.buffer b with place := .free } else s.buffer b) ∧
        t.events = s.eventsReset l ∧
        t.ready = s.ready ∧ t.opened = s.opened ∧ t.staging = s.staging ∧ t.sequence = s.sequence ∧ t.clock = s.clock ∧
        t.bus = s.bus

/-! ### Schedule and cycles (chapter 4) -/

/-- R78: SCHED_SWAP swaps at once unless a mastering line has a cycle in progress, then pending. R71: TRIGGER_CYCLE sets the
pending flag of a MASTER line in every cycle mode, without an overrun; with the controller IDLE the work selection
then runs. -/
def Obligations.SwapAndTrigger : Prop :=
  (∀ s : State, s.idle →
    (1 < s.bus.arg0.toNat → exec .schedSwap s = .next (refusedAs s 0x30 .badLine)) ∧
    ∀ l : Line, s.bus.arg0 = l.code →
      let e := s.line l
      let walking := (e.role = .master ∨ e.role = .yielding ∨ e.role = .stopping) ∧ e.cycle.inProgress = true
      (e.sched.swapPending = true → exec .schedSwap s = .next (refusedAs s 0x30 .swapPending)) ∧
      (e.sched.swapPending = false → walking →
        exec .schedSwap s = .next (doneAs
          (s.setLine l { e with sched := { e.sched with swapPending := true } }) 0x30 0)) ∧
      (e.sched.swapPending = false → ¬ walking →
        exec .schedSwap s = .next (doneAs
          { s.setLine l { e with sched := { e.sched with active := !e.sched.active } } with
            events := s.events.post { kind := .scheduleSwapped, line := some l, drop := none, tag := none
                                      code := if e.sched.active then 0 else 1, detail := 0, stamp := s.clock.timestamp } }
          0x30 0))) ∧
  (∀ s : State, s.idle →
    (1 < s.bus.arg0.toNat → exec .triggerCycle s = .next (refusedAs s 0x31 .badLine)) ∧
    ∀ l : Line, s.bus.arg0 = l.code →
      ((s.line l).role ≠ .master → exec .triggerCycle s = .next (refusedAs s 0x31 .notMaster)) ∧
      ((s.line l).role = .master → (s.line l).ctl.state ≠ .idle →
        exec .triggerCycle s = .next (doneAs
          (s.setLine l { s.line l with cycle := { (s.line l).cycle with owed := true } }) 0x31 0)) ∧
      ((s.line l).role = .master → (s.line l).ctl.state = .idle →
        exec .triggerCycle s = .next (doneAs
          ((s.setLine l { s.line l with cycle := { (s.line l).cycle with owed := true } }).select l) 0x31 0)))

/-- What a tick, `n` periods after the last row, advances on a line before its work selection (R151): the cycle timer unless the line
is OFF (R67), the silence count and its judgement on STANDBY (R137), a backoff (R63); the condition of the continuous rule that a
tick has been taken since the last cycle ended holds from then on (R87). -/
def tickedLine (n : Nat) (e : LineEngine) : LineEngine :=
  let count := satInc e.silence.count
  { e with
    stamping := stampAfter n e.stamping
    ctl := if e.ctl.state = .backoff then { e.ctl with backoffCount := e.ctl.backoffCount + 1 } else e.ctl
    silence := if e.role = .standby then { e.silence with
        count, due := decide (e.params.takeoverSilence ≠ 0 ∧ e.silence.flag = false ∧ e.params.takeoverSilence ≤ count.toNat) }
      else e.silence
    cycle := { e.cycle with
      mayRestart := true
      timer := if e.role = .off then e.cycle.timer else if e.params.period ≤ e.cycle.timer + 1 then 0 else e.cycle.timer + 1
      expiryDue := decide (e.role ≠ .off ∧ e.params.period ≤ e.cycle.timer + 1) } }

/-- TICK, with nothing left to settle from the tick before: the timestamp, each cycle timer, silence count, backoff and
the head's age advance by one, and the host's side stays; then the work selection of each line runs (R84, R151;
PauseElapsedSelectsWork says what it takes), with a CONTINUOUS line free to start its next cycle though its last one performed
nothing (R87). That line A selects before line B is the model's choice (log 29). A STANDBY line is judged silent when its new count
is at or above a takeover silence other than 0 and its flag is clear, also where the count holds at 65535 (log 45, the model's
choice). The timestamp of a stored reply goes on with the tick while the stop bit of its check character lasts, the tick falling when the prescaler has counted what it still lacks (log 40,
the model's reading), and a tick at the moment of its end counts (log 4, the model's choice). What a tick finds due is
taken by rows of its own (log 6, the model's choice). A buffer opened while that stop bit lasts has the ticks that still fall in it
counted in ahead, as the prescaler stands, and no tick writes it after that (R121, log 40). -/
def Obligations.TickAdvancesCounts : Prop :=
  (∀ s : State,
    let n := s.clock.divider.toNat * 64 - s.clock.prescaler
    (∀ l, (s.line l).cycle.expiryDue = false ∧ (s.line l).silence.due = false ∧
      ((s.line l).ctl.state = .backoff → (s.line l).ctl.backoffCount < (s.line l).ctl.backoffLength)) →
    ∃ p : State, p = { s with
        lineA := tickedLine n s.lineA, lineB := tickedLine n s.lineB, buffers := p.buffers
        clock := { s.clock with timestamp := s.clock.timestamp + 1, prescaler := 0 }
        events := if s.events.queue = [] then s.events else { s.events with headAge := min 255 (s.events.headAge + 1) } } ∧
      exec .tick s = .next (State.driveIrq ((p.select .a).select .b)) ∧
    ∃ t, exec .tick s = .next t ∧ t.buffers = p.buffers ∧
      t.clock = { s.clock with timestamp := s.clock.timestamp + 1, prescaler := 0 } ∧
      (∀ l, (t.line l).stamping = stampAfter n (s.line l).stamping) ∧
      (∀ b, t.buffer b =
        if (s.buffer b).place = .ready ∧
            (s.line (s.buffer b).line).stamping.any (fun x => decide (x.buffer = b ∧ n ≤ x.left)) = true then
          { s.buffer b with stamp := s.clock.timestamp + 1 }
        else s.buffer b) ∧
      (∀ l, (t.line l).role = (s.line l).role ∧ (t.line l).params = (s.line l).params ∧
        (t.line l).cycle.timer =
          (if (s.line l).role = .off then (s.line l).cycle.timer
           else if (s.line l).params.period ≤ (s.line l).cycle.timer + 1 then 0 else (s.line l).cycle.timer + 1) ∧
        ((t.line l).cycle.expiryDue = true ↔
          (s.line l).role ≠ .off ∧ (s.line l).params.period ≤ (s.line l).cycle.timer + 1) ∧
        (t.line l).silence.count =
          (if (s.line l).role = .standby then satInc (s.line l).silence.count else (s.line l).silence.count) ∧
        (t.line l).silence.flag = (s.line l).silence.flag ∧
        ((t.line l).silence.due = true ↔
          (s.line l).role = .standby ∧ (s.line l).params.takeoverSilence ≠ 0 ∧ (s.line l).silence.flag = false ∧
            (s.line l).params.takeoverSilence ≤ (satInc (s.line l).silence.count).toNat) ∧
        ((s.line l).ctl.state = .backoff → (t.line l).ctl.backoffCount = (s.line l).ctl.backoffCount + 1)) ∧
      (s.events.queue ≠ [] → t.events.headAge = min 255 (s.events.headAge + 1)) ∧
      s.events.queue <+: t.events.queue ∧ t.bus = s.bus ∧ t.command = s.command ∧ t.staging = s.staging ∧
      t.sequence = s.sequence ∧ t.opened = s.opened ∧ ∀ d, (t.drop d).config = (s.drop d).config) ∧
  ∀ (s : State) (b : BufIx) (rest : List BufIx) (left : Nat), s.idle → s.opened = false → s.ready = b :: rest →
    (s.line (s.buffer b).line).stamping = some { buffer := b, left } →
    let period := s.clock.divider.toNat * 64
    let first := period - s.clock.prescaler
    ∃ t, exec .readyOpen s = .next t ∧ (t.line (s.buffer b).line).stamping = none ∧
      (left < first → (t.buffer b).stamp = (s.buffer b).stamp) ∧
      ∀ n, 1 ≤ n → first + (n - 1) * period ≤ left → left < first + n * period →
        (t.buffer b).stamp = (s.buffer b).stamp + BitVec.ofNat 32 n

/-- CYCLE_TIMER_EXPIRY: no effect but on a TIMED mastering line; there a cycle is owed, or, with a cycle in progress, an
overrun is counted, with its event and summary bit when the pending flag was clear. What a tick finds due is taken by
rows of its own (log 6, the model's choice). -/
def Obligations.ExpiryOwesCycleOrOverruns : Prop :=
  ∀ (s : State) (l : Line), (s.line l).cycle.expiryDue = true →
    let e := s.line l
    let timed := e.params.mode = .timed ∧ (e.role = .master ∨ e.role = .yielding ∨ e.role = .stopping)
    let taken : Cycle := { e.cycle with expiryDue := false }
    (¬ timed → exec (.cycleTimerExpiry l) s = .next (State.driveIrq (s.setLine l { e with cycle := taken }))) ∧
    (timed → e.cycle.inProgress = true → e.cycle.owed = true →
      exec (.cycleTimerExpiry l) s = .next (State.driveIrq (s.setLine l
        { e with cycle := taken, counters := { e.counters with overruns := satInc e.counters.overruns } }))) ∧
    (timed → e.cycle.inProgress = true → e.cycle.owed = false →
      exec (.cycleTimerExpiry l) s = .next (State.driveIrq
        { s.setLine l { e with cycle := { taken with owed := true }
                               counters := { e.counters with overruns := satInc e.counters.overruns } } with
          events := (s.events.post { kind := .cycleOverrun, line := some l, drop := none, tag := none, code := 0
                                     detail := e.cycle.number.setWidth 8, stamp := s.clock.timestamp }).raise
                      (match l with | .a => .overrunA | .b => .overrunB) })) ∧
    (timed → e.cycle.inProgress = false → e.role ≠ .master ∨ e.ctl.state ≠ .idle →
      exec (.cycleTimerExpiry l) s = .next (State.driveIrq (s.setLine l { e with cycle := { taken with owed := true } }))) ∧
    (timed → e.cycle.inProgress = false → e.role = .master → e.ctl.state = .idle →
      exec (.cycleTimerExpiry l) s = .next (State.driveIrq
        ((s.setLine l { e with cycle := { taken with owed := true } }).select l)))

/-- The first start of a transaction (R42, R97). -/
def freshTxn (source : TxnSource) (drop : Option DropIx) (address : BitVec 7) (kind : FrameKind) (retry attempts : Nat) : Txn :=
  { source, drop, address, kind, retry, attempts, lastOutcome := .none, lastLength := 0, lastStored := false }

/-- In `t` the line is in GUARD with this transaction in hand (R42, R43). -/
abbrev startsWith (t : State) (l : Line) (x : Txn) : Prop :=
  (t.line l).ctl.state = .guard ∧ (t.line l).ctl.txn = some x

/-- `t` is `s` with the request of slot `g` taken on the line: ACTIVE, its retry limit captured at its first start, 0
for an OFFLINE drop; one that was put back goes on with the attempts used and the reply length it has (R42, R97, R99). -/
def takesRequest (s t : State) (l : Line) (g : Tag) : Prop :=
  let x := s.slot g
  let d := s.drop x.drop
  let limit := x.retry.getD (if d.state = .offline then 0 else d.retryLimit)
  startsWith t l { freshTxn (.request g) (some x.drop) d.address (match x.kind with | .poll => .poll | .data => .data) limit
    x.attempts with lastLength := x.lastLength } ∧
  t.slot g = { x with state := .active, retry := some limit } ∧ ∀ h, h ≠ g → t.slot h = s.slot h

/-- PAUSE_ELAPSED returns the controller to IDLE and the work selection runs, which takes the first of: the front of the
urgent queue, the lowest drop owed an extra poll, the schedule of a cycle in progress or owed, the front of the normal
queue, nothing. A cycle starts from the pending flag or by the continuous rule, taking a pending swap with it, and ends
when the walk has passed the bank; an entry of a drop that is disabled or of the other line is skipped invalid, that of
an OFFLINE drop is skipped offline unless the cycle number divides by its revisit interval, and the next entry is
judged. The row asserts that its time has passed (log 2, the model's choice): the timer says so afterwards, and the stop bit of a
reply stored before the pause is over. -/
def Obligations.PauseElapsedSelectsWork : Prop :=
  (∀ (s : State) (l : Line), (s.line l).ctl.state = .pause →
    exec (.pauseElapsed l) s = .next (State.driveIrq ((s.setLine l { s.line l with
      stamping := if (s.line l).ctl.pauseLength ≤ (s.line l).ctl.pauseTimer.bits then (s.line l).stamping else none
      ctl := { (s.line l).ctl with state := .idle, txn := none, window := .none, deciding := false, discard := .passing
                                   reply := .empty
                                   pauseTimer := { (s.line l).ctl.pauseTimer with bits := (s.line l).ctl.pauseLength } } }).select
      l))) ∧
  (∀ (s : State) (l : Line), (s.line l).role ≠ .master ∨ (s.line l).ctl.state ≠ .idle → s.select l = s) ∧
  (∀ (s : State) (l : Line), (s.line l).role = .master → (s.line l).ctl.state = .idle →
    (∀ g rest, (s.line l).urgent = g :: rest → takesRequest s (s.select l) l g) ∧
    ∀ d, (s.line l).urgent = [] → (s.drop d).attention = true → (s.drop d).line = l →
      (∀ e < d, ¬ ((s.drop e).attention = true ∧ (s.drop e).line = l)) →
      startsWith (s.select l) l (freshTxn .extraPoll (some d) (s.drop d).address .poll (s.drop d).retryLimit 0) ∧
        ((s.select l).drop d).attention = false) ∧
  ∀ (s : State) (l : Line), s.atSchedule l →
    let e := s.line l
    let continues := e.params.mode = .continuous ∧ (e.params.gapQuota ≤ e.cycle.gapCount ∨ e.normal = []) ∧
      e.cycle.mayRestart = true
    let walked := { e.cycle with walk := e.cycle.walk + 1 }
    (e.cycle.inProgress = false → e.cycle.owed = false → ¬ continues →
      (∀ g rest, e.normal = g :: rest → takesRequest s (s.select l) l g ∧
        ((s.select l).line l).cycle.gapCount = min (max e.params.gapQuota e.cycle.gapCount) (e.cycle.gapCount + 1)) ∧
      (e.normal = [] → s.select l = s)) ∧
    (e.cycle.inProgress = false → e.cycle.owed = true ∨ continues →
      let swap := e.sched.swapPending
      s.select l = State.select
        { s.setLine l { e with
            sched := if swap then { e.sched with active := !e.sched.active, swapPending := false } else e.sched
            cycle := { e.cycle with owed := false, inProgress := true, number := e.cycle.number + 1, walk := 0, performed := 0
                                    skipped := 0, gapCount := 0 } } with
          events := if swap then s.events.post { kind := .scheduleSwapped, line := some l, drop := none, tag := none
                                                 code := if e.sched.active then 0 else 1, detail := 0
                                                 stamp := s.clock.timestamp } else s.events } l) ∧
    (e.cycle.inProgress = true → e.sched.activeBank.length ≤ e.cycle.walk →
      s.select l = State.select
        { s.setLine l { e with cycle := { e.cycle with inProgress := false, mayRestart := 0 < e.cycle.performed } } with
          events := if e.params.cycleEvents then s.events.post
              { kind := .cycleDone, line := some l, drop := none, tag := none, code := BitVec.ofNat 8 e.cycle.performed
                detail := BitVec.ofNat 8 e.cycle.skipped, stamp := s.clock.timestamp } else s.events } l) ∧
    (∀ d, s.comesTo l (.poll d) → (s.drop d).state = .disabled ∨ (s.drop d).line ≠ l →
      s.select l = (s.setLine l { e with
        cycle := { walked with skipped := e.cycle.skipped + 1 }
        counters := { e.counters with skippedInvalid := satInc e.counters.skippedInvalid } }).select l) ∧
    (∀ d, s.comesTo l (.poll d) → (s.drop d).state = .offline → (s.drop d).line = l →
      e.cycle.number.toNat % (s.drop d).revisit ≠ 0 →
      s.select l = (s.setLine l { e with
        cycle := { walked with skipped := e.cycle.skipped + 1 }
        counters := { e.counters with skippedOffline := satInc e.counters.skippedOffline } }).select l) ∧
    (∀ d, s.comesTo l (.poll d) → (s.drop d).state ≠ .disabled → (s.drop d).line = l →
      ((s.drop d).state = .offline → e.cycle.number.toNat % (s.drop d).revisit = 0) →
      startsWith (s.select l) l (freshTxn .schedule (some d) (s.drop d).address .poll (s.drop d).retryLimit 0) ∧
      ((s.select l).line l).cycle = walked) ∧
    (s.comesTo l .sync →
      startsWith (s.select l) l (freshTxn .sync none 127 .sync 0 0) ∧ ((s.select l).line l).cycle = walked) ∧
    ∀ n, s.comesTo l (.pause n) →
      ((s.select l).line l).ctl.state = .pause ∧ ((s.select l).line l).ctl.pauseLength = n * 16 ∧
      ((s.select l).line l).cycle = { walked with performed := e.cycle.performed + 1 }

/-! ### Characters (chapter 1) -/

/-- The observer when the character it waited for has come to nothing or has been judged (R134): with no reply in hand
an elapsed timer forgets the call that is still observed. -/
def waitOver (o : Observer) : Observer :=
  match o.elapsed, o.call, o.follow with
  | true, some _, .nothing | true, some _, .call _ _ _ | true, some _, .failed =>
    { o with waiting := false, call := none, follow := .nothing, capture := .none }
  | _, _, _ => { o with waiting := false }

/-- The receiver's rows: START_BIT enters RECEIVING with the idle count 0 and reloads the working divisor between
frames; LINE_SEEN_HIGH enters HUNT_EDGE and its sample counts for the idle count; FALSE_START counts noise and returns
to HUNT_EDGE, its idle count begun after the last sample that read 0 and the end of the last stop bit, ends an attempt
that waited for it TIMEOUT, and forgets an observed call that waited for it. The samples left of a stop bit are the
model's reading (log 24); FALSE_START carries sample 2 beside its vote (log 32, the model's choice). What the samples that a row
carries leave of the stop bit of a reply stored before is the model's choice (log 2). -/
def Obligations.ReceiverRows : Prop :=
  ∀ (s : State) (l : Line), (s.line l).role ≠ .off →
    let e := s.line l
    let missed (second : Bool) (v : Vote) : LineEngine :=
      let ones := if v.s5 = false then 0 else if v.s4 = false then 1 else if v.s3 = false then 2
                  else if second = false then 3 else 4
      { e with counters := { e.counters with noise := satInc e.counters.noise }
               rx := { e.rx with
                 state := .huntEdge, sampleNo := 0, samples := [], idle := 0, idleSamples := min ones (4 - e.rx.stopTail)
                 stopTail := 0 }
               stamping := if 5 ≤ e.rx.sampleNo then e.stamping else none }
    (e.rx.state = .huntEdge → ∃ t, exec (.startBit l) s = .next t ∧
      t = { s.setLine l { e with
              divisor := if e.reader.state = .hunt ∧ e.tx.enable = false then e.params.divisorFor s.clock.effective
                         else e.divisor
              tx := (t.line l).tx, stamping := stampAtSample e
              rx := { state := .receiving, sampleNo := 1, samples := [], phase := 0, afterRelease := !e.tx.enable, idle := 0
                      idleSamples := 0, stopTail := e.rx.stopTail - 1 } } with irqPin := t.irqPin } ∧
      (e.tx.sending = none → (t.line l).tx = e.tx)) ∧
    (e.rx.state = .waitHigh → exec (.lineSeenHigh l) s = .next (State.driveIrq (s.setLine l
      { e with stamping := stampAtSample e, rx :=
          if e.rx.stopTail ≠ 0 then { e.rx with state := .huntEdge, idle := 0, stopTail := e.rx.stopTail - 1 }
          else if e.rx.idleSamples < 7 then { e.rx with state := .huntEdge, idle := 0, idleSamples := e.rx.idleSamples + 1 }
          else { e.rx with state := .huntEdge, idle := 1, idleSamples := 0 } }))) ∧
    ∀ (second : Bool) (vote : Vote), e.rx.state = .receiving → vote.majority = true →
      let gives (t : State) : Prop := exec (.falseStart l ⟨second, vote⟩) s = .next t.driveIrq
      (e.ctl.deciding = true → e.ctl.state = .await → gives ((s.setLine l (missed second vote)).endAttempt l .timeout)) ∧
      (e.ctl.deciding = false ∨ e.ctl.state ≠ .await →
        (e.observer.waiting = false → gives (s.setLine l (missed second vote))) ∧
        (e.observer.waiting = true → gives (s.setLine l { missed second vote with observer := waitOver e.observer })))

/-- CHARACTER_RECEIVED: data bits, mark bit and framing error are the majorities of their samples, and disagreeing
samples make a noisy character (that those of the stop bit do not is log 36, the model's choice). Noise counts once, a
framing error sends the receiver to WAIT_HIGH, a character without one restarts the silence count, whatever the line's
role; three samples are left of its stop bit, the model's reading (log 24). It goes to the echo comparator while a frame
is in progress, and after it if its start bit began before driver enable was released: a match leaves the list, a
mismatch stops the frame, and with no echo waited for it is discarded. Else it goes to the frame reader: a stray counts
as unsolicited, and in AWAIT the called drop's address opens its reply, the first character after the call or not; in
SEND what it reports is kept for the frame's end. A character that a wait was for is judged first (log 18, the model's
reading). -/
def Obligations.CharacterGoesToOnePlace : Prop :=
  (∀ c : CharSamples, (∀ k : Fin 8, c.byte.getLsbD k = mostOf c.data[k]) ∧ c.markBit = mostOf c.mark ∧
    c.framing = !mostOf c.stop ∧
    (c.noisy = true ↔ disagree c.start ∨ (∃ k : Fin 8, disagree c.data[k]) ∨ disagree c.mark)) ∧
  ∀ (s : State) (l : Line) (c : CharSamples), (s.line l).role ≠ .off → (s.line l).rx.state = .receiving →
    c.start.majority = false →
    let e := s.line l
    let h := e.heard c
    let kept := { h with tx := e.tx }
    let waits : Prop := e.ctl.state = .await ∧ e.ctl.deciding = true
    let gives (t : State) : Prop := exec (.characterReceived l c) s = .next t.driveIrq
    let echo : Prop := e.tx.enable = true ∨ (e.tx.tail = true ∧ e.rx.afterRelease = false)
    (∃ t, exec (.characterReceived l c) s = .next t ∧ (t.line l).rx = h.rx ∧ (t.line l).counters.noise = h.counters.noise ∧
      (t.line l).silence = h.silence) ∧
    (echo → e.observer.waiting = false →
      (∀ x rest, e.tx.stop = none → e.tx.echoes = x :: rest →
        let judged := s.setLine l { kept with tx := { e.tx with
          echoes := rest
          stop := if c.byte = x.char.data ∧ c.markBit = x.char.mark ∧ c.framing = false then none else some .contention } }
        (¬ waits → gives judged) ∧ (waits → gives (judged.endAttempt l .timeout))) ∧
      (e.tx.stop ≠ none ∨ e.tx.echoes = [] →
        (¬ waits → gives (s.setLine l kept)) ∧ (waits → gives ((s.setLine l kept).endAttempt l .timeout)))) ∧
    (s.arrives l c → e.role = .master →
      (e.ctl.state = .idle ∨ e.ctl.state = .guard ∨ e.ctl.state = .backoff ∨ e.ctl.state = .pause → e.reader.state = .hunt →
        c.markBit = false →
        gives (s.setLine l { h with counters := { h.counters with unsolicited := satInc e.counters.unsolicited } })) ∧
      (e.ctl.state = .send → e.reader.state = .hunt →
        (c.markBit = false →
          gives (s.setLine l { h with ctl := { e.ctl with kept := e.ctl.kept ++ [.stray c.noisy c.framing] } })) ∧
        (c.markBit = true → c.framing = false →
          gives (s.setLine l { h with
            reader := e.opened c.byte, ctl := { e.ctl with kept := e.ctl.kept ++ [.start c.byte] } }))) ∧
      ∀ x, e.ctl.state = .await → e.reader.state = .hunt → e.ctl.txn = some x → c.markBit = true → c.framing = false →
        c.byte.getLsbD 7 = true → c.byte.setWidth 7 = x.address →
        gives (s.setLine l { h with
          reader := { state := .inFrame, position := .control, sum := c.byte, expected := 0, gap := e.params.gapLimit }
          ctl := { e.ctl with state := .receive } }))

/-- The reply of the called drop in RECEIVE, up to its check character: a framing error or a mark bit of 1 gives
FRAMING; the control character is judged on its toggle, then on its kind (UNEXPECTED), and its attention flag is kept;
the length character is judged by the reply's kind (LENGTH) and claims a buffer for a reply that must be stored, which
is granted while one is free; payload characters are written into that buffer. -/
def Obligations.ReplyIsChecked : Prop :=
  ∀ (s : State) (l : Line) (c : CharSamples) (x : Txn) (d : DropIx), s.arrives l c → (s.line l).role.mastering = true →
    (s.line l).ctl.state = .receive → (s.line l).reader.state = .inFrame → (s.line l).ctl.txn = some x → x.drop = some d →
    let e := s.line l
    let h := e.heard c
    let b := c.byte
    let r := { e.reader with sum := e.reader.sum + b }
    let faulty (o : TxnOutcome) (k : Controller) : Controller := { k with state := .discard, discard := .faulty o }
    let mode := replyMode x.source (s.drop d).replyPolicy
    let next (n : Nat) : Reader := { r with expected := n, position := if n = 0 then .check else .payload 0 }
    let lengthIs (n : Nat) : Controller := { e.ctl with reply := { e.ctl.reply with length := n } }
    let gives (t : State) : Prop := exec (.characterReceived l c) s = .next t.driveIrq
    (c.framing = true ∨ c.markBit = true →
      gives (s.setLine l { h with reader := e.flushed e.reader, ctl := faulty .framing e.ctl })) ∧
    (plainChar c → e.reader.position = .control →
      (b.getLsbD 5 ≠ e.ctl.call.control.getLsbD 5 →
        gives ((s.setLine l { h with
            reader := { r with position := .length }, counters := { h.counters with stale := satInc e.counters.stale }
            ctl := { e.ctl with state := .discard, discard := .passing } }).setDrop d
          { s.drop d with stats := { (s.drop d).stats with stales := satInc (s.drop d).stats.stales } })) ∧
      (b.getLsbD 5 = e.ctl.call.control.getLsbD 5 → answersCall x.kind b →
        gives (s.setLine l { h with
          reader := { r with position := .length }
          ctl := { e.ctl with window := .met
                              reply := { e.ctl.reply with kind := some (replyKind b), attention := b.getLsbD 6 } } })) ∧
      (b.getLsbD 5 = e.ctl.call.control.getLsbD 5 → ¬ answersCall x.kind b →
        gives (s.setLine l { h with
          reader := e.flushed { r with position := .length }, ctl := faulty .unexpected { e.ctl with window := .met } }))) ∧
    (plainChar c → e.reader.position = .length →
      let n := b.toNat
      (32 < n → gives (s.setLine l { h with reader := e.flushed r, ctl := faulty .length e.ctl })) ∧
      (n = 0 ∨ (n ≤ 32 ∧ e.ctl.reply.kind = some .reply ∧ mode = none) →
        gives (s.setLine l { h with reader := next n, ctl := lengthIs n })) ∧
      (1 ≤ n → n ≤ 32 → e.ctl.reply.kind ≠ some .reply →
        gives (s.setLine l { h with reader := e.flushed (next n), ctl := faulty .length (lengthIs n) })) ∧
      ∀ m, 1 ≤ n → n ≤ 32 → e.ctl.reply.kind = some .reply → mode = some m → (∀ i, (s.buffer i).place ≠ .assembling l) →
        let claimed (k : Claim) : Controller := { e.ctl with reply := { e.ctl.reply with length := n, claim := k } }
        ((∀ i, (s.buffer i).place ≠ .free) →
          gives { s.setLine l { h with reader := next n, ctl := claimed .denied
                                       counters := { h.counters with repliesLost := satInc e.counters.repliesLost } } with
                  events := s.events.raise .poolEmpty }) ∧
        ∀ i, s.lowestFree i → ∃ t, exec (.characterReceived l c) s = .next t ∧
          t = { (s.setLine l { h with reader := next n, ctl := claimed .granted }).setBuffer i (t.buffer i) with
                fresh := t.fresh, irqPin := t.irqPin } ∧
          t.buffer i = { s.buffer i with place := .assembling l, line := l, length := n, mode := m
                                         payload := (t.buffer i).payload }) ∧
    ∀ k, plainChar c → e.reader.position = .payload k →
      let h' := { h with reader := { r with position := if k + 1 < e.reader.expected then .payload (k + 1) else .check } }
      (e.ctl.reply.claim ≠ .granted → gives (s.setLine l h')) ∧
      ∀ i, e.ctl.reply.claim = .granted → s.assembling l = some i →
        gives ((s.setLine l h').setBuffer i
          { s.buffer i with payload := (s.buffer i).payload.setIfInBounds k b })

/-- The check character of the called drop's reply in RECEIVE: a wrong one gives CHECK; at a right one the attempt ends
BUSY, OK or, with the claim denied, NO_BUFFER after REPLY_LOST; an assembled reply is handed over with the origin, tag,
drop, attention, line cycle and timestamp, and stored at the tail or in place of an older one; the three samples left of
the character's stop bit are noted, over which TickAdvancesCounts takes the timestamp on (log 40, the model's reading).
What the end of an attempt does then is said by AttemptEnds. -/
def Obligations.ReplyCleanEnd : Prop :=
  ∀ (s : State) (l : Line) (c : CharSamples) (x : Txn) (d : DropIx), s.arrives l c → (s.line l).role.mastering = true →
    (s.line l).ctl.state = .receive → (s.line l).reader.state = .inFrame → (s.line l).ctl.txn = some x → x.drop = some d →
    (s.line l).reader.position = .check → plainChar c →
    let e := s.line l
    let h := e.heard c
    let y := e.ctl.reply
    let origin : Origin := match x.source with
      | .request _ => .request
      | .schedule | .extraPoll | .sync => .schedule
    let tag : Option Tag := match x.source with
      | .request g => some g
      | .schedule | .extraPoll | .sync => none
    let closed := { h with reader := { e.reader with state := .hunt, sum := 0 } }
    let s' := s.setLine l closed
    let gives (t : State) : Prop := exec (.characterReceived l c) s = .next t.driveIrq
    (c.byte ≠ ~~~ e.reader.sum →
      gives (s.setLine l { h with
        reader := e.flushed e.reader, ctl := { e.ctl with state := .discard, discard := .faulty .check } })) ∧
    (c.byte = ~~~ e.reader.sum →
      (y.kind = some .busy → gives (s'.endAttempt l .busy)) ∧
      (y.kind ≠ some .busy → y.claim = .none → gives (s'.endAttempt l .ok)) ∧
      (y.kind ≠ some .busy → y.claim = .denied →
        gives (State.endAttempt
          { s' with events := s.events.post { kind := .replyLost, line := some l, drop := some d, tag, code := origin.code
                                              detail := 0, stamp := s.clock.timestamp } } l .noBuffer)) ∧
      ∀ i, y.kind ≠ some .busy → y.claim = .granted → s.assembling l = some i → i ∉ s.ready →
        ∀ t, (s.setLine l { closed with stamping := some { buffer := i, left := 3 * e.divisor } }).storedAs t i
            { s.buffer i with place := .ready, origin, tag, drop := d, kind := .reply, attention := y.attention
                              extraPoll := x.source = .extraPoll, replaced := 0, stamp := s.clock.timestamp
                              cycle := e.cycle.number } origin d →
          gives (t.endAttempt l .ok))

/-- What the end of an attempt has done to a drop record and the event queue before a retry or the transaction's end: the
attempt's statistic (R35), and a good reply's attention by the policy of an enabled drop (R32, R33). -/
def dropAfterAttempt (r : Drop) (o : TxnOutcome) (noticed extra : Bool) : Drop :=
  { r with
    attention := r.attention || (noticed && r.attnPolicy = .extraPoll && !extra)
    stats := { r.stats with
      busies := if o = .busy then satInc r.stats.busies else r.stats.busies
      timeouts := if o = .timeout then satInc r.stats.timeouts else r.stats.timeouts
      replyErrors := if o = .gap ∨ o = .check ∨ o = .framing ∨ o = .length ∨ o = .unexpected then satInc r.stats.replyErrors
                     else r.stats.replyErrors } }

/-- The end of an attempt, its call begun, with outcome `o` on a line whose transaction goes to a drop. The drop takes the
attempt's statistic and attention, the slot its outcome and attempts used, CONTENTION is counted. At the contention limit a
MASTER line is demoted, and its request with attempts left is put back at the front of its queue, any other transaction ended.
Else, with another attempt allowed (R58) the controller enters BACKOFF after BUSY and GUARD else, the
call built afresh; a request on a line that yields is put back at the front of its queue; else the transaction ends with
the outcome that R59 chooses, the end report reaches the drop, DROP_STATE is posted if its state changed, a request is
completed and REQUEST_DONE posted after that, and the work selection runs. That the slot's attempts used moves here is
the model's reading (log 37). -/
def Obligations.AttemptEnds : Prop :=
  ∀ (s : State) (l : Line) (o : TxnOutcome) (x : Txn) (d : DropIx), (s.line l).ctl.txn = some x → x.drop = some d →
    x.kind ≠ .sync → x.source ≠ .sync → 0 < x.attempts → s.QueuesAgree →
    o ∈ [TxnOutcome.ok, .busy, .noBuffer, .timeout, .gap, .check, .framing, .length, .unexpected, .contention, .clockFault] →
    let e := s.line l
    let r := s.drop d
    let tag : Option Tag := match x.source with
      | .request g => some g
      | .schedule | .extraPoll | .sync => none
    let stored := o = .ok ∧ e.ctl.reply.claim = .granted
    let x' : Txn := { x with lastOutcome := o, lastStored := stored
                             lastLength := if stored ∨ o = .noBuffer then e.ctl.reply.length else 0 }
    let aborted := ∃ g, tag = some g ∧ (s.slot g).abortPending = true
    let left := x.attempts < x.retry + 1
    let noticed := (o = .ok ∨ o = .busy ∨ o = .noBuffer) ∧ e.ctl.reply.attention = true ∧ r.state ≠ .disabled
    let r' := dropAfterAttempt r o noticed (x.source = .extraPoll)
    let told := if noticed ∧ r.attnPolicy = .report then
        s.events.post { kind := .dropAttention, line := some r.line, drop := some d, tag := none, code := 0, detail := 0
                        stamp := s.clock.timestamp }
      else s.events
    let e' := if o = .contention then
        { e with contention := min 255 (e.contention + 1)
                 counters := { e.counters with contention := satInc e.counters.contention } }
      else e
    let idle := e.ctl.resting
    let demoted := o = .contention ∧ e.role = .master ∧ e.params.contentionLimit ≤ min 255 (e.contention + 1)
    let freed (t : State) (held : Option BufIx) : Prop := ∀ b, t.buffer b =
      if s.assembling l = some b ∨ held = some b then { s.buffer b with place := .free } else s.buffer b
    let slotIs (t : State) (f : Slot → Slot) : Prop :=
      (∀ g, tag = some g → t.slot g = f { s.slot g with attempts := x.attempts, outcome := o }) ∧
      ∀ g, tag ≠ some g → t.slot g = s.slot g
    let again := ¬ demoted ∧ o ≠ .ok ∧ left ∧ ¬ aborted ∧ e.role = .master ∧ r.state ≠ .disabled
    let back := o ≠ .ok ∧ ¬ aborted ∧ r.state ≠ .disabled ∧ (e.role = .yielding ∨ e.role = .standby) ∧ left
    let outcome := if o = .ok then .ok else if aborted then .aborted else if r.state = .disabled then .dropDisabled
      else if e.role = .stopping ∨ ((e.role = .yielding ∨ e.role = .standby) ∧ left) then .lineStopped else o
    (again →
      s.endAttempt l o = { s.setLine l { e' with
          ctl := if o = .busy then
              { e.ctl with txn := some x', state := .backoff, window := .none, deciding := false, reply := .empty
                           backoffLength := e.params.backoff, backoffCount := 0 }
            else
              { e.ctl with txn := some x', state := .guard, guard := e.params.guard, window := .none, deciding := false
                           discard := .passing, reply := .empty, call := ((s.endAttempt l o).line l).ctl.call } } with
        drops := (s.setDrop d r').drops, slots := (s.endAttempt l o).slots, buffers := (s.endAttempt l o).buffers
        events := told } ∧
      (o ≠ .busy → ((s.endAttempt l o).line l).ctl.call.address = x.address.setWidth 8 ∧
        ((s.endAttempt l o).line l).ctl.call.control =
          x.kind.code ||| (if r.toggle then 0x20 else 0) ||| (if r.fresh then 0x40 else 0)) ∧
      slotIs (s.endAttempt l o) id ∧ freed (s.endAttempt l o) none) ∧
    (∀ g, back → tag = some g →
      s.endAttempt l o = { s.setLine l (({ e' with ctl := idle } : LineEngine).modQueue (s.slot g).priority (g :: ·)) with
        drops := (s.setDrop d r').drops, slots := (s.endAttempt l o).slots, buffers := (s.endAttempt l o).buffers
        events := told } ∧
      slotIs (s.endAttempt l o) (fun q => { q with state := .queued, lastLength := x'.lastLength }) ∧
      freed (s.endAttempt l o) none) ∧
    (demoted →
      let judged := { (s.setLine l { e' with ctl := { e'.ctl with txn := some x' } }).setDrop d r' with
        slots := (match tag with
          | some g => s.setSlot g { s.slot g with attempts := x.attempts, outcome := o }
          | none => s).slots
        events := told }
      s.endAttempt l o = (judged.returned (s.assembling l)).demoted l) ∧
    (¬ demoted → ¬ again → ¬ (back ∧ tag ≠ none) →
      ∃ t : State, s.endAttempt l o = t.select l ∧
        (let ended := dropAfterEnd r' outcome true
         let changed := if ended.state = r.state then told else told.post
           { kind := .dropState, line := some r.line, drop := some d, tag := none, code := ended.state.code
             detail := r.state.code, stamp := s.clock.timestamp }
         t = { s.setLine l { e' with
                 ctl := idle
                 cycle := if x.source = .schedule then { e.cycle with performed := e.cycle.performed + 1 } else e.cycle } with
               drops := (s.setDrop d ended).drops, slots := t.slots, buffers := t.buffers
               events := match tag with
                 | none => changed
                 | some g => changed.post
                   { kind := .requestDone, line := some (s.slot g).line, drop := some (s.slot g).drop, tag := some g
                     code := outcome.code, detail := BitVec.ofNat 8 x.attempts, stamp := s.clock.timestamp } }) ∧
        slotIs t (fun q => { q with
          state := .done, outcome, abortPending := false
          replyLength := if x.kind = .poll then x'.lastLength else 0
          replyStored := decide (x.kind = .poll) && x'.lastStored }) ∧
        freed t (tag.bind s.heldBy))

/-- What reaches the controller of a mastering line outside its own reply. A stray character counts as unsolicited, and
one that a wait was for ends the attempt TIMEOUT. In IDLE, GUARD, BACKOFF and PAUSE a foreign call counts as contention,
once, and demotes a MASTER line at its limit, where the transaction in hand is put back or ends; an address with direction REPLY counts as unsolicited (with a framing
error too: log 27, the model's reading). In AWAIT a foreign call ends the attempt CONTENTION, a reply from another
address is stale and followed in DISCARD, and one with a framing error is FRAMING from the called drop, else
unsolicited. In DISCARD only the frame's end counts. -/
def Obligations.ForeignCallsAndStrays : Prop :=
  ∀ (s : State) (l : Line) (c : CharSamples), s.arrives l c → (s.line l).role.mastering = true →
    let e := s.line l
    let h := e.heard c
    let k := e.ctl.state
    let quiet := k = .idle ∨ k = .guard ∨ k = .backoff ∨ k = .pause
    let call := c.byte.getLsbD 7 = false
    let counted (h : LineEngine) : LineEngine := { h with counters := { h.counters with unsolicited := satInc e.counters.unsolicited } }
    let opened := { h with reader := e.opened c.byte }
    let flushed := { h with reader := e.flushed e.reader }
    let gives (t : State) : Prop := exec (.characterReceived l c) s = .next t.driveIrq
    let met := min 255 (e.contention + 1)
    let demoted := e.role = .master ∧ e.params.contentionLimit ≤ met
    (e.reader.state = .hunt → c.markBit = false →
      (quiet ∨ (k = .await ∧ e.ctl.deciding = false) → gives (s.setLine l (counted h))) ∧
      (k = .await → e.ctl.deciding = true → gives ((s.setLine l (counted h)).endAttempt l .timeout))) ∧
    (e.reader.state = .hunt → c.markBit = true → quiet →
      (c.framing = false → call → ¬ demoted →
        gives (s.setLine l { opened with
          contention := met, counters := { h.counters with contention := satInc e.counters.contention } })) ∧
      (c.framing = false → call → demoted → s.QueuesAgree →
        gives ((s.setLine l { opened with
          contention := met
          counters := { h.counters with contention := satInc e.counters.contention } }).demoted l)) ∧
      (c.framing = false → ¬ call → gives (s.setLine l (counted opened))) ∧
      (c.framing = true → call → gives (s.setLine l flushed)) ∧
      (c.framing = true → ¬ call → gives (s.setLine l (counted flushed)))) ∧
    (∀ x, e.ctl.txn = some x → e.reader.state = .hunt → c.markBit = true → k = .await →
      let mine := c.byte.getLsbD 7 = true ∧ c.byte.setWidth 7 = x.address
      let passing (h : LineEngine) : LineEngine := { h with ctl := { e.ctl with state := .discard, discard := .passing } }
      (c.framing = false → call → gives ((s.setLine l opened).endAttempt l .contention)) ∧
      (c.framing = false → mine → gives (s.setLine l { opened with ctl := { e.ctl with state := .receive } })) ∧
      (c.framing = false → ¬ call → ¬ mine →
        gives (s.setLine l (passing { opened with counters := { h.counters with stale := satInc e.counters.stale } }))) ∧
      (c.framing = true → mine →
        gives (s.setLine l { flushed with ctl := { e.ctl with state := .discard, discard := .faulty .framing } })) ∧
      (c.framing = true → ¬ mine → gives (s.setLine l (passing (counted flushed))))) ∧
    (k = .discard →
      let closed := { h with reader := { e.reader with state := .hunt, sum := 0 } }
      let clean := plainChar c ∧ e.reader.position = .check ∧ c.byte = ~~~ e.reader.sum
      (e.reader.state = .inFrame → clean →
        (∀ o, e.ctl.discard = .faulty o → gives ((s.setLine l closed).endAttempt l o)) ∧
        (e.ctl.discard = .passing → e.ctl.window = .elapsed → gives ((s.setLine l closed).endAttempt l .timeout)) ∧
        (e.ctl.discard = .passing → e.ctl.window ≠ .elapsed → e.ctl.deciding = false →
          gives (s.setLine l { closed with ctl := { e.ctl with state := .await } }))) ∧
      (e.reader.state = .flush → gives (s.setLine l h)) ∧
      (e.reader.state = .inFrame → ¬ clean → ∃ t, exec (.characterReceived l c) s = .next t ∧
        t = { s.setLine l { h with reader := (t.line l).reader } with irqPin := t.irqPin }))

/-- The standby observer follows the calls of another master: an address character with direction CALL forgets the
observed call and is followed; at its clean end a POLL without payload or a DATA to an enabled drop of the line becomes
the observed call and its timer begins; a reply from the observed address is a candidate, matched by toggle and kind;
any other address forgets the call; strays and addresses with a framing error are ignored; a fault in a call forgets it.
Nothing is taken of the rest of any other frame. The timer begins when the three samples left of the call's stop bit
have passed (log 24, the model's reading). A character that the observer waited for is judged as any other, and with no
reply in hand the call that is still observed is forgotten after it (log 18, the model's reading). -/
def Obligations.ObserverFollowsCalls : Prop :=
  (∀ (s : State) (l : Line) (c : CharSamples), s.arrives l c → (s.line l).role = .standby → (s.line l).RoleSound →
    let e := s.line l
    let h := e.heard c
    let o := e.observer
    let b := c.byte
    let gives (r : Reader) (y : Observer) : Prop :=
      exec (.characterReceived l c) s = .next (State.driveIrq (s.setLine l { h with reader := r, observer := y }))
    let unobserved : Observer := { o with call := none, follow := .nothing, capture := .none }
    let counted := { e.reader with sum := e.reader.sum + b }
    let paid (j : Nat) : Reader :=
      { counted with position := if j + 1 < e.reader.expected then .payload (j + 1) else .check }
    (e.reader.state = .hunt →
      (c.markBit = false → gives e.reader o) ∧
      (c.markBit = true → c.framing = true → gives (e.flushed e.reader) o) ∧
      (c.markBit = true → c.framing = false → b.getLsbD 7 = false →
        gives (e.opened b) { o with call := none, follow := .call (b.setWidth 7) none 0 }) ∧
      (c.markBit = true → c.framing = false → b.getLsbD 7 = true →
        (∀ q, o.call = some q → q.address = b.setWidth 7 → gives (e.opened b) { o with follow := .candidate }) ∧
        ((∀ q, o.call = some q → q.address ≠ b.setWidth 7) →
          gives (e.opened b) { o with call := none, follow := .nothing }))) ∧
    (e.reader.state = .flush → gives e.reader o) ∧
    (∀ a k n, e.reader.state = .inFrame → o.follow = .call a k n →
      (¬ plainChar c → gives (e.flushed e.reader) unobserved) ∧
      (plainChar c → e.reader.position = .control →
        gives { e.reader with sum := e.reader.sum + b, position := .length } { o with follow := .call a (some b) n }) ∧
      (plainChar c → e.reader.position = .length → b.toNat ≤ 32 →
        gives { e.reader with sum := e.reader.sum + b, expected := b.toNat
                              position := if b = 0 then .check else .payload 0 } { o with follow := .call a k b.toNat }) ∧
      (plainChar c → e.reader.position = .length → 32 < b.toNat →
        gives (e.flushed { e.reader with sum := e.reader.sum + b }) unobserved) ∧
      (∀ j, plainChar c → e.reader.position = .payload j → gives (paid j) o) ∧
      (plainChar c → e.reader.position = .check → b ≠ ~~~ e.reader.sum → gives (e.flushed e.reader) unobserved) ∧
      ∀ ctl, plainChar c → e.reader.position = .check → b = ~~~ e.reader.sum → k = some ctl →
        let closed := { e.reader with state := .hunt, sum := 0 }
        let kind : Option ReqKind := if ctl &&& 0x0F = 4 ∧ n = 0 then some .poll else if ctl &&& 0x0F = 5 then some .data else none
        (∀ q d, kind = some q → (s.drop d).state ≠ .disabled → (s.drop d).line = l → (s.drop d).address = a →
          (∀ f < d, ¬ ((s.drop f).state ≠ .disabled ∧ (s.drop f).line = l ∧ (s.drop f).address = a)) →
          gives closed { call := some { drop := d, address := a, kind := q, toggle := ctl.getLsbD 5 }, lead := 3 * e.divisor
                         timer := .zero, window := e.params.window, elapsed := false, waiting := false, follow := .nothing
                         capture := .none }) ∧
        (kind = none ∨ (∀ d, ¬ ((s.drop d).state ≠ .disabled ∧ (s.drop d).line = l ∧ (s.drop d).address = a)) →
          gives closed unobserved)) ∧
    (∀ q, e.reader.state = .inFrame → e.reader.position = .control → o.follow = .candidate → o.call = some q →
      let matched := b.getLsbD 5 = q.toggle ∧ answersCall (match q.kind with | .poll => .poll | .data => .data) b
      let r := { e.reader with sum := e.reader.sum + b, position := .length }
      (¬ plainChar c → gives (e.flushed e.reader) { o with follow := .unmatched }) ∧
      (plainChar c → matched → gives r { o with follow := .matched (replyKind b) (b.getLsbD 6) 0 }) ∧
      (plainChar c → ¬ matched → gives r { o with follow := .unmatched })) ∧
    (e.reader.state = .inFrame → o.follow = .unmatched → plainChar c → e.reader.position = .check → b = ~~~ e.reader.sum →
      gives { e.reader with state := .hunt, sum := 0 } (if o.elapsed then unobserved else { o with follow := .nothing })) ∧
    (e.reader.state = .inFrame → o.follow = .nothing ∨ o.follow = .unmatched ∨ o.follow = .failed →
      (¬ plainChar c → gives (e.flushed e.reader) o) ∧
      (plainChar c → e.reader.position = .control → gives { counted with position := .length } o) ∧
      (plainChar c → e.reader.position = .length → b.toNat ≤ 32 →
        gives { counted with expected := b.toNat, position := if b = 0 then .check else .payload 0 } o) ∧
      (plainChar c → e.reader.position = .length → 32 < b.toNat → gives (e.flushed counted) o) ∧
      (∀ j, plainChar c → e.reader.position = .payload j → gives (paid j) o) ∧
      (plainChar c → e.reader.position = .check → b ≠ ~~~ e.reader.sum → gives (e.flushed e.reader) o) ∧
      (plainChar c → e.reader.position = .check → b = ~~~ e.reader.sum → o.follow ≠ .unmatched →
        gives { e.reader with state := .hunt, sum := 0 } { o with follow := .nothing }))) ∧
  ∀ (s t : State) (l : Line) (c : CharSamples), (s.line l).role = .standby → (s.line l).RoleSound →
    (s.line l).rx.state = .receiving → c.start.majority = false → (s.line l).observer.waiting = true →
    exec (.characterReceived l c)
        (s.setLine l { s.line l with observer := { (s.line l).observer with waiting := false } }) = .next t →
    exec (.characterReceived l c) s = .next (t.setLine l { t.line l with observer := waitOver (t.line l).observer })

/-- A matched reply on a STANDBY line: its length is judged and, with capture on, claims a buffer by the drop's policy;
its payload is written there; a fault forgets the call and keeps the buffer until the frame's end; its clean end
completes the capture (handed over, its timestamp as in ReplyCleanEnd, or REPLY_LOST) and then reports the observation:
the statistic in any state, and for an enabled drop of the line ONLINE, count 0, fresh flag clear and the inverse
toggle, with DROP_STATE if its state changed. The observed call is forgotten with it, and neither last outcome nor
attention move. -/
def Obligations.ObservedReply : Prop :=
  ∀ (s : State) (l : Line) (c : CharSamples) (q : ObservedCall) (k : FrameKind) (att : Bool) (n : Nat), s.arrives l c →
    (s.line l).role = .standby → (s.line l).RoleSound → (s.line l).reader.state = .inFrame →
    (s.line l).observer.call = some q → (s.line l).observer.follow = .matched k att n →
    let e := s.line l
    let h := e.heard c
    let o := e.observer
    let b := c.byte
    let r := { e.reader with sum := e.reader.sum + b }
    let next (m : Nat) : Reader := { r with expected := m, position := if m = 0 then .check else .payload 0 }
    let gives (t : State) : Prop := exec (.characterReceived l c) s = .next t.driveIrq
    let failed : Observer := { o with call := none, follow := .failed }
    let mode := if e.params.capture then policyMode (s.drop q.drop).replyPolicy else none
    (¬ plainChar c → gives (s.setLine l { h with reader := e.flushed e.reader, observer := failed })) ∧
    (plainChar c → e.reader.position = .length →
      let m := b.toNat
      (32 < m → gives (s.setLine l { h with reader := e.flushed r, observer := failed })) ∧
      (1 ≤ m → m ≤ 32 → k ≠ .reply → gives (s.setLine l { h with reader := e.flushed (next m), observer := failed })) ∧
      (m = 0 ∨ (m ≤ 32 ∧ k = .reply ∧ mode = none) →
        gives (s.setLine l { h with reader := next m, observer := { o with follow := .matched k att m } })) ∧
      ∀ y, 1 ≤ m → m ≤ 32 → k = .reply → mode = some y → (∀ i, (s.buffer i).place ≠ .assembling l) →
        ((∀ i, (s.buffer i).place ≠ .free) →
          gives { s.setLine l { h with
              reader := next m, observer := { o with follow := .matched k att m, capture := .lost }
              counters := { h.counters with repliesLost := satInc e.counters.repliesLost } } with
            events := s.events.raise .poolEmpty }) ∧
        ∀ i, s.lowestFree i → ∃ t, exec (.characterReceived l c) s = .next t ∧
          t = { (s.setLine l { h with
                  reader := next m, observer := { o with follow := .matched k att m, capture := .assembling } }).setBuffer i
                (t.buffer i) with fresh := t.fresh, irqPin := t.irqPin } ∧
          t.buffer i = { s.buffer i with place := .assembling l, line := l, length := m, mode := y
                                         payload := (t.buffer i).payload }) ∧
    (∀ j i, plainChar c → e.reader.position = .payload j → o.capture = .assembling → s.assembling l = some i →
      gives ((s.setLine l { h with
          reader := { r with position := if j + 1 < e.reader.expected then .payload (j + 1) else .check } }).setBuffer i
        { s.buffer i with payload := (s.buffer i).payload.setIfInBounds j b })) ∧
    (plainChar c → e.reader.position = .check → b ≠ ~~~ e.reader.sum →
      gives (s.setLine l { h with reader := e.flushed e.reader, observer := failed })) ∧
    (plainChar c → e.reader.position = .check → b = ~~~ e.reader.sum →
      let d := s.drop q.drop
      let mine := d.state ≠ .disabled ∧ d.line = l
      let d' := { d with
        stats := { d.stats with observations := satInc d.stats.observations }
        state := if mine then .online else d.state
        failures := if mine then 0 else d.failures
        fresh := if mine then false else d.fresh
        toggle := if mine then !q.toggle else d.toggle }
      let closed := { h with reader := { e.reader with state := .hunt, sum := 0 }
                             observer := { o with call := none, follow := .nothing, capture := .none } }
      let s' := s.setLine l closed
      let reported (t : State) : State := { t.setDrop q.drop d' with
        events := if d'.state = d.state then t.events else t.events.post
          { kind := .dropState, line := some d.line, drop := some q.drop, tag := none, code := d'.state.code
            detail := d.state.code, stamp := s.clock.timestamp } }
      (o.capture = .none → gives (reported s')) ∧
      (o.capture = .lost → gives (reported { s' with
        events := s.events.post { kind := .replyLost, line := some l, drop := some q.drop, tag := none, code := 2, detail := 0
                                  stamp := s.clock.timestamp } })) ∧
      ∀ i, o.capture = .assembling → s.assembling l = some i → i ∉ s.ready →
        ∀ t, (s.setLine l { closed with stamping := some { buffer := i, left := 3 * e.divisor } }).storedAs t i
            { s.buffer i with place := .ready, origin := .observed, tag := none, drop := q.drop, kind := .reply
                              attention := att, extraPoll := false, replaced := 0, stamp := s.clock.timestamp
                              cycle := e.cycle.number } .observed q.drop →
          gives (reported t))

/-- The frame reader after it took characters one after another. -/
def readAll (r : Reader) (gap : Nat) (cs : List RxChar) : Reader :=
  cs.foldl (fun r c => (r.char gap c).1) r

/-- A received character without noise or framing error. -/
def goodChar (mark : Bool) (b : Byte) : RxChar :=
  { data := b, mark, noisy := false, framing := false }

/-- R13: the check character is the complement of the modulo-256 sum of the bytes before it; the transmitter sends it
and the frame reader asks for it; the bytes of a correct frame sum to 0xFF. -/
def Obligations.CheckCharacter : Prop :=
  (∀ bs : List Byte, checkByte bs = ~~~ BitVec.ofNat 8 (bs.map BitVec.toNat).sum ∧ sumBytes (bs ++ [checkByte bs]) = 0xFF) ∧
  (∀ c : Call, c.chars.map (·.data) =
      let body := c.address :: c.control :: BitVec.ofNat 8 c.payload.length :: c.payload
      body ++ [checkByte body]) ∧
  ∀ (r : Reader) (gap : Nat) (address control b : Byte) (payload : List Byte), r.state = .hunt → payload.length ≤ 32 →
    let body := address :: control :: BitVec.ofNat 8 payload.length :: payload
    let r' := readAll r gap (goodChar true address :: (body.drop 1).map (goodChar false))
    r'.state = .inFrame ∧ r'.position = .check ∧
    (r'.char gap (goodChar false b)).2 = some (if b = checkByte body then .complete else .fault .check)

/-- GUARD_SATISFIED: driver enable goes up, the call goes out address character first with its check character last (a
SYNC with the timestamp of this moment), the controller is in SEND, one more attempt is used, the working divisor is
reloaded. The row asserts that its time has passed (log 2, the model's choice): the idle count says so afterwards, and the stop bit
of a stored reply is over. -/
def Obligations.GuardSatisfiedBeginsCall : Prop :=
  ∀ (s : State) (l : Line) (x : Txn), (s.line l).role = .master → (s.line l).ctl.state = .guard →
    (s.line l).ctl.txn = some x → (s.line l).rx.state = .huntEdge → (s.line l).tx.enable = false →
    s.command.busy ≠ some .softReset → s.command.busy ≠ some (.lineReset l) →
    ∃ t, exec (.guardSatisfied l) s = .next t ∧
      let e := s.line l
      let payload := if x.kind = .sync then [s.clock.timestamp.setWidth 8, (s.clock.timestamp >>> 8).setWidth 8,
        (s.clock.timestamp >>> 16).setWidth 8, (s.clock.timestamp >>> 24).setWidth 8] else e.ctl.call.payload
      let body := e.ctl.call.address :: e.ctl.call.control :: BitVec.ofNat 8 payload.length :: payload
      t = { s.setLine l (t.line l) with irqPin := t.irqPin } ∧
      t.line l = { e with
        divisor := e.params.divisorFor s.clock.effective
        rx := idleAtLeast e.rx e.ctl.guard, stamping := stampIdle e e.ctl.guard
        tx := (t.line l).tx
        ctl := { e.ctl with state := .send, call := { e.ctl.call with payload := payload }
                            txn := some { x with attempts := x.attempts + 1 } }
        cycle := if x.kind = .sync then { e.cycle with performed := e.cycle.performed + 1 } else e.cycle } ∧
      (t.line l).tx.enable = true ∧ (t.line l).tx.pin = false ∧
      (t.line l).tx.sending = some ⟨e.ctl.call.address, true⟩ ∧
      (t.line l).tx.toSend = ((body ++ [checkByte body]).drop 1).map (⟨·, false⟩) ∧
      (t.line l).tx.echoes.map (·.char) = [⟨e.ctl.call.address, true⟩]

/-- The transmitter at rest after a frame. -/
def txAfter (x : Transmitter) : Transmitter :=
  { x with enable := false, pin := true, toSend := [], sending := none, echoes := [], stop := none, tail := true }

/-- The state `t` after the reports `kept` during SEND are judged in their order; a line that left its mastering role
gives them to nobody (R44, R6; the latter is log 28, the model's reading). -/
def keptJudged (t : State) (l : Line) (kept : List ReaderReport) : State :=
  let t' := t.setLine l { t.line l with ctl := { (t.line l).ctl with kept := [] } }
  if (t.line l).role.mastering then kept.foldl (fun s r => s.controllerReport l r) t' else t'

/-- FRAME_SENT: driver enable is released and the consecutive contention count is 0. A POLL or DATA goes to AWAIT with
the response window RUNNING at the length in force from the end of the frame's last stop bit, and the reports kept
during SEND are then judged in their order; the transaction of a SYNC ends OK and the work selection runs, the reports being
judged after it (log 42, the model's choice). -/
def Obligations.FrameSentOpensWindow : Prop :=
  ∀ (s : State) (l : Line) (x : Txn), (s.line l).ctl.state = .send → (s.line l).tx.stop = none →
    (s.line l).tx.toSend = [] → (s.line l).tx.echoes = [] → (s.line l).ctl.txn = some x →
    let e := s.line l
    (x.kind ≠ .sync → e.role.mastering = true ∨ e.ctl.kept = [] →
      exec (.frameSent l) s = .next (State.driveIrq (e.ctl.kept.foldl (fun s r => s.controllerReport l r) (s.setLine l
        { e with
          tx := txAfter e.tx, contention := 0
          ctl := { e.ctl with state := .await, window := .running, windowLength := e.params.window, deciding := false
                              windowTimer := if e.tx.sending = none ∧ e.tx.tail = true then e.tx.timer else .zero
                              kept := [] } })))) ∧
    (x.kind = .sync → x.source = .sync → x.drop = none → (∀ i, (s.buffer i).place ≠ .assembling l) →
      exec (.frameSent l) s = .next (State.driveIrq (keptJudged (State.select (s.setLine l
        { e with tx := txAfter e.tx, contention := 0, ctl := e.ctl.resting }) l) l e.ctl.kept)))

/-- A frame that fails. ECHO_MISSING stops it as a mismatch does. CONTENTION_REPORT empties the transmitter and ends the
attempt CONTENTION, which counts contention on both counts and demotes a MASTER line at its limit. CLOCK_FAULT_REPORT
empties the transmitter and ends the attempt CLOCK_FAULT, which counts no contention and leaves the drop's state and
failure count. The reports kept during SEND are judged then, after the work selection of a transaction that ends with the attempt
(log 42, the model's choice). -/
def Obligations.FailedFrames : Prop :=
  ∀ (s : State) (l : Line),
    let e := s.line l
    let empty := s.setLine l { e with tx := txAfter e.tx }
    (∀ x rest, e.tx.stop = none → e.tx.echoes = x :: rest → exec (.echoMissing l) s = .next (State.driveIrq (s.setLine l
      { e with tx := { e.tx with stop := some .contention } }))) ∧
    (e.ctl.state = .send → e.tx.stop = some .contention →
      exec (.contentionReport l) s = .next (State.driveIrq (keptJudged (empty.endAttempt l .contention) l e.ctl.kept)) ∧
      ∀ x, e.ctl.txn = some x → e.ctl.kept = [] → ∃ t, exec (.contentionReport l) s = .next t ∧
        (t.line l).tx = txAfter e.tx ∧ (t.line l).contention = min 255 (e.contention + 1) ∧
        (t.line l).counters.contention = satInc e.counters.contention ∧
        (t.line l).role = (if e.role = .master ∧ e.params.contentionLimit ≤ min 255 (e.contention + 1) then .standby
                           else e.role) ∧
        Untouched s t) ∧
    (e.ctl.state = .send → e.tx.stop = some .clockFault →
      exec (.clockFaultReport l) s = .next (State.driveIrq (keptJudged (empty.endAttempt l .clockFault) l e.ctl.kept)) ∧
      ∀ x, e.ctl.txn = some x → e.ctl.kept = [] → ∃ t, exec (.clockFaultReport l) s = .next t ∧
        (t.line l).tx = txAfter e.tx ∧ (t.line l).contention = e.contention ∧
        (t.line l).counters.contention = e.counters.contention ∧ (t.line l).role = e.role ∧
        (∀ d, (t.drop d).state = (s.drop d).state ∧ (t.drop d).failures = (s.drop d).failures) ∧ Untouched s t)

/-- Times that run out on a line. An elapsed window ends a waiting attempt TIMEOUT (AttemptEnds says how), waits for a character half received,
and else only marks the window; an elapsed observer timer is only marked while a reply is in hand, waits for a character half
received, and else forgets the observed call; an elapsed backoff enters GUARD with the call of a POLL or DATA built afresh. Each row asserts that its time has passed (log 2, the model's choice), and
the timers say so afterwards. -/
def Obligations.ElapsedTimes : Prop :=
  ∀ (s : State) (l : Line),
    let e := s.line l
    (e.ctl.window = .running → e.ctl.state = .receive ∨ (e.ctl.state = .discard ∧ e.ctl.discard = .passing) →
      exec (.responseWindowElapsed l) s = .next (State.driveIrq (s.setLine l { e with
        ctl := { e.ctl with window := .elapsed, windowTimer := { e.ctl.windowTimer with bits := e.ctl.windowLength } } }))) ∧
    (e.ctl.window = .running → e.ctl.state = .await → e.rx.state = .receiving →
      exec (.responseWindowElapsed l) s = .next (State.driveIrq (s.setLine l { e with
        ctl := { e.ctl with window := .elapsed, windowTimer := { e.ctl.windowTimer with bits := e.ctl.windowLength }
                            deciding := true } }))) ∧
    (e.ctl.window = .running → e.ctl.state = .await → e.rx.state ≠ .receiving →
      exec (.responseWindowElapsed l) s = .next (State.driveIrq ((s.setLine l { e with
        ctl := { e.ctl with window := .elapsed, windowTimer := { e.ctl.windowTimer with bits := e.ctl.windowLength }
        } }).endAttempt l .timeout))) ∧
    (∀ x d, e.ctl.window = .running → e.ctl.state = .await → e.rx.state ≠ .receiving → e.ctl.txn = some x →
      x.drop = some d → ∃ t, exec (.responseWindowElapsed l) s = .next t ∧
        (t.drop d).stats.timeouts = satInc (s.drop d).stats.timeouts ∧ (t.line l).ctl.state ≠ .await ∧ Untouched s t) ∧
    (e.role = .standby → e.observer.call ≠ none → e.observer.elapsed = false →
      let o := { e.observer with elapsed := true, timer := { e.observer.timer with bits := e.observer.window } }
      let gives (o : Observer) : Prop :=
        exec (.observerTimerElapsed l) s = .next (State.driveIrq (s.setLine l { e with observer := o }))
      (e.observer.follow.inHand = true → gives o) ∧
      (e.observer.follow.inHand = false → e.rx.state = .receiving → gives { o with waiting := true }) ∧
      (e.observer.follow.inHand = false → e.rx.state ≠ .receiving →
        gives { o with call := none, follow := .nothing, capture := .none })) ∧
    (∀ x d, e.ctl.state = .backoff → e.ctl.backoffLength ≤ e.ctl.backoffCount → e.ctl.txn = some x → x.drop = some d →
      let gives (kind : Byte) (payload : List Byte) : Prop :=
        exec (.backoffElapsed l) s = .next (State.driveIrq (s.setLine l { e with
          ctl := { e.ctl with
            state := .guard, guard := e.params.guard, window := .none, deciding := false, discard := .passing, reply := .empty
            call := { address := x.address.setWidth 8
                      control := kind ||| (if (s.drop d).toggle then 0x20 else 0) ||| (if (s.drop d).fresh then 0x40 else 0)
                      payload } } }))
      (x.kind = .poll → gives 4 []) ∧
      ∀ g, x.kind = .data → x.source = .request g →
        (s.heldBy g = none → gives 5 []) ∧
        ∀ b, s.heldBy g = some b → gives 5 ((s.buffer b).payload.toList.take (s.slot g).length))

/-- GAP_FAULT and QUIET_END return the frame reader to HUNT. On a mastering line that follows no reply nothing else
happens; in SEND the report is kept; in RECEIVE a gap ends the attempt GAP; in DISCARD the frame's end ends the attempt with the outcome found, or
TIMEOUT when the window has elapsed, or returns to AWAIT. On a STANDBY line a call that ends so is forgotten, a frame
that did not match leaves the observed call while its timer runs, and a matched reply found in error returns its capture
buffer. Each row asserts that its time has passed (log 2, the model's choice): the idle count says so afterwards, and the stop bit
of a stored reply is over. -/
def Obligations.GapAndQuietEnds : Prop :=
  ∀ (s : State) (l : Line) (c : Instr),
    let e := s.line l
    let gap := c = Instr.gapFault l ∧ e.reader.state = .inFrame
    let closed := c = Instr.quietEnd l ∧ e.reader.state = .flush
    let hunting : LineEngine :=
      { e with rx := idleAtLeast e.rx (e.reader.gap + 1), stamping := stampIdle e (e.reader.gap + 1)
               reader := { e.reader with state := .hunt } }
    let o := e.observer
    let unobserved : Observer := { o with call := none, follow := .nothing, capture := .none }
    let freed : Prop := ∃ t, exec c s = .next t ∧
      t = { s.setLine l { hunting with observer := unobserved } with buffers := t.buffers, irqPin := t.irqPin } ∧
      ∀ b, t.buffer b = if s.assembling l = some b then { s.buffer b with place := .free } else s.buffer b
    let only (x : Observer) : Prop := exec c s = .next (State.driveIrq (s.setLine l { hunting with observer := x }))
    e.rx.state = .huntEdge → gap ∨ closed →
    (e.role.mastering = true →
      (e.ctl.state = .idle ∨ e.ctl.state = .guard ∨ e.ctl.state = .backoff ∨ e.ctl.state = .pause ∨ e.ctl.state = .await →
        exec c s = .next (State.driveIrq (s.setLine l hunting))) ∧
      (e.ctl.state = .send →
        (gap → exec c s = .next (State.driveIrq (s.setLine l
          { hunting with ctl := { e.ctl with kept := e.ctl.kept ++ [.fault .gap] } }))) ∧
        (closed → exec c s = .next (State.driveIrq (s.setLine l
          { hunting with ctl := { e.ctl with kept := e.ctl.kept ++ [.closed] } })))) ∧
      (e.ctl.state = .receive → gap → exec c s = .next (State.driveIrq ((s.setLine l hunting).endAttempt l .gap))) ∧
      (e.ctl.state = .discard →
        (∀ y, e.ctl.discard = .faulty y → exec c s = .next (State.driveIrq ((s.setLine l hunting).endAttempt l y))) ∧
        (e.ctl.discard = .passing → e.ctl.window = .elapsed →
          exec c s = .next (State.driveIrq ((s.setLine l hunting).endAttempt l .timeout))) ∧
        (e.ctl.discard = .passing → e.ctl.window ≠ .elapsed →
          exec c s = .next (State.driveIrq (s.setLine l { hunting with ctl := { e.ctl with state := .await } }))))) ∧
    (e.role = .standby →
      (o.follow = .nothing → only o) ∧
      (∀ a k n, o.follow = .call a k n → gap → only unobserved) ∧
      (o.follow = .unmatched ∨ (o.follow = .candidate ∧ gap) →
        only (if o.elapsed then unobserved else { o with follow := .nothing })) ∧
      (∀ k a n, o.follow = .matched k a n → gap → freed) ∧
      (o.follow = .failed → freed))

/-! ### Ends of roles, silence -/

/-- YIELD_END and STOP_END: with no attempt in flight the work in hand comes to its end (a yield puts a request with attempts left
back at the front of its queue), then a YIELDING line becomes STANDBY and a STOPPING line OFF with LINE_ROLE, then the cycle in
progress is abandoned with its CYCLE_DONE; the pending flag and the schedule stay. That the rows take place whenever
no attempt is in flight is the model's reading (log 7). LINE_SILENT sets the silent flag and posts LINE_SILENT; with
auto-takeover on the line then becomes MASTER with cause TAKEOVER under R128: its pending flag is set (R138), its gap count is at
the gap quota, and the work selection runs. What a tick finds due is taken by rows of its own
(log 6, the model's choice). -/
def Obligations.RolesEnd : Prop :=
  (∀ (s : State) (l : Line), (s.line l).ctl.state.inFlight = false → s.QueuesAgree →
    let role := (s.line l).role
    let idle := if (s.line l).ctl.state = .idle then s else s.workEnded l role
    (role = .yielding → exec (.yieldEnd l) s = .next (State.driveIrq ((idle.roleTold l .standby .command).onStandby l))) ∧
    (role = .stopping → exec (.stopEnd l) s = .next (State.driveIrq ((idle.roleTold l .off .command).onOff l)))) ∧
  (∀ (s : State) (l : Line), (s.line l).ctl.state.inFlight = false →
    let ended (t : State) (role : Role) : Prop := (t.line l).role = role ∧ (t.line l).ctl.state = .idle ∧
      (t.line l).cycle.inProgress = false ∧ (t.line l).cycle.owed = (s.line l).cycle.owed ∧
      (t.line l).sched = (s.line l).sched ∧ Untouched s t
    ((s.line l).role = .yielding → ∃ t, exec (.yieldEnd l) s = .next t ∧ ended t .standby) ∧
    ((s.line l).role = .stopping → ∃ t, exec (.stopEnd l) s = .next t ∧ ended t .off)) ∧
  (∀ (s : State) (l : Line), (s.line l).role = .standby → (s.line l).silence.due = true →
    let silent : EventRecord := { kind := .lineSilent, line := some l, drop := none, tag := none, code := 0, detail := 0
                                  stamp := s.clock.timestamp }
    ((s.line l).params.autoTakeover = false → exec (.lineSilent l) s = .next (State.driveIrq
      { s.setLine l { s.line l with silence := { (s.line l).silence with flag := true, due := false } } with
        events := s.events.post silent })) ∧
    ((s.line l).params.autoTakeover = true →
      let led := { s with events := s.events.post silent }.onMaster l .takeover
      (led.line l).cycle.owed = true ∧ (led.line l).cycle.gapCount = (s.line l).params.gapQuota ∧
      exec (.lineSilent l) s = .next (State.driveIrq (led.select l)) ∧
      ∃ t, exec (.lineSilent l) s = .next t ∧ (t.line l).role = .master ∧
      (t.line l).silence = .zero ∧ (t.line l).contention = 0 ∧
      ((s.events.post silent).post { kind := .lineRole, line := some l, drop := none, tag := none, code := 2, detail := 1
                                     stamp := s.clock.timestamp }).queue <+: t.events.queue ∧ Untouched s t))

/-! ### Clocks (chapter 8) -/

/-- The XREF monitor: every edge restarts the count of quiet periods; STARTING counts rising edges up to the 4096th,
which makes it PRESENT; a loss makes it ABSENT; with XREF_ENABLE clear nothing happens. That the row XREF_PRESENT takes
place from any count of edges and puts it at 4096, and XREF_LOST from any count of quiet periods, is the model's choice
(log 2). -/
def Obligations.XrefMonitor : Prop :=
  ∀ (s : State) (rising : Bool),
    let c := s.clock
    let up := if rising then 1 else 0
    (c.xrefEnable = false → exec (.xrefEdge rising) s = .next s.driveIrq) ∧
    (c.xrefEnable = true → c.monitor = .absent → exec (.xrefEdge rising) s = .next (State.driveIrq
      { s with clock := { c with monitor := .starting, edges := up, quiet := 0 } })) ∧
    (c.xrefEnable = true → c.monitor = .starting → exec (.xrefEdge rising) s = .next (State.driveIrq
      { s with clock := { c with edges := c.edges + up, quiet := 0
                                 monitor := if 4096 ≤ c.edges + up then .present else .starting } })) ∧
    (c.xrefEnable = true → c.monitor = .present → exec (.xrefEdge rising) s = .next (State.driveIrq
      { s with clock := { c with quiet := 0 } })) ∧
    (c.xrefEnable = true → c.monitor = .starting → exec .xrefPresent s = .next (State.driveIrq
      { s with clock := { c with monitor := .present, edges := 4096, quiet := 0 } })) ∧
    (c.xrefEnable = true → c.monitor ≠ .absent → c.effective = .iosc → exec .xrefLost s = .next (State.driveIrq
      { s with clock := { c with monitor := .absent, edges := 0, quiet := 0 } }))

/-- The switch and the fallback. CLOCK_SWITCH waits for a pending switch to an available source with both lines quiet;
it reloads both working divisors, restarts the prescaler, posts CLOCK_SWITCHED and keeps the counts. The loss of the
effective XREF makes IOSC effective and requested at once, reloads the divisors, keeps the prescaler, posts
CLOCK_FALLBACK and raises its bit, abandons the characters being received, makes CLOCK_FAULT the outcome of every attempt in SEND,
RECEIVE or DISCARD (R62, R148 step 3: in SEND the transmitter's ending is clock fault whatever stopped its frame before; that a
reset which waits gives way too is the model's reading, log 10), and empties the observers of STANDBY lines (log 16, the model's
reading). That an abandoned character is settled
after CLOCK_FALLBACK is posted is the model's reading (log 23), and so is that a stop bit that lasts over a switch keeps
the number of its samples, each of the new length (log 39). -/
def Obligations.ClockSwitchAndFallback : Prop :=
  (∀ s : State, s.clock.requested ≠ s.clock.effective → (s.clock.requested = .xref → s.clock.monitor = .present) →
    (∀ l, (s.line l).role = .off ∨
      ((s.line l).rx.state ≠ .receiving ∧ (s.line l).tx.enable = false ∧ (s.line l).tx.echoes = [] ∧
        (s.line l).reader.state = .hunt ∧ (s.line l).ctl.state ≠ .send ∧ (s.line l).ctl.state ≠ .receive ∧
        (s.line l).ctl.state ≠ .discard)) →
    ∃ t, exec .clockSwitch s = .next t ∧
      t = { s with lineA := t.lineA, lineB := t.lineB, irqPin := t.irqPin
                   clock := { s.clock with effective := s.clock.requested, prescaler := 0 }
                   events := s.events.post { kind := .clockSwitched, line := none, drop := none, tag := none
                                             code := s.clock.requested.code, detail := 0, stamp := s.clock.timestamp } } ∧
      ∀ l, (t.line l).divisor = (s.line l).params.divisorFor s.clock.requested ∧
        (t.line l).rx.idle = (s.line l).rx.idle ∧ (t.line l).rx.phase = 0 ∧
        (t.line l).rx.stopTail = (s.line l).rx.stopTail ∧
        (∀ x m, (s.line l).stamping = some x → x.left ≤ m * (s.line l).divisor → m * (s.line l).divisor < x.left + (s.line l).divisor →
          (t.line l).stamping = some { x with left := m * (s.line l).params.divisorFor s.clock.requested }) ∧
        (t.line l).cycle = (s.line l).cycle ∧
        (t.line l).silence = (s.line l).silence ∧ (t.line l).ctl.state = (s.line l).ctl.state ∧
        (t.line l).ctl.windowTimer.bits = (s.line l).ctl.windowTimer.bits ∧
        (t.line l).ctl.pauseTimer.bits = (s.line l).ctl.pauseTimer.bits ∧
        (t.line l).ctl.backoffCount = (s.line l).ctl.backoffCount) ∧
  ∀ s : State, s.clock.xrefEnable = true → s.clock.monitor = .present → s.clock.effective = .xref →
    ∃ t, exec .xrefLost s = .next t ∧
      t.clock = { s.clock with effective := .iosc, requested := .iosc, monitor := .absent, edges := 0, quiet := 0 } ∧
      (s.events.post { kind := .clockFallback, line := none, drop := none, tag := none, code := 0, detail := 0
                       stamp := s.clock.timestamp }).queue <+: t.events.queue ∧
      t.events.summary.getLsbD 3 = true ∧
      ∀ l, (t.line l).divisor = (s.line l).params.divIosc ∧ (t.line l).rx.state ≠ .receiving ∧
        (t.line l).reader.state ≠ .inFrame ∧
        ((s.line l).ctl.state = .receive ∨ (s.line l).ctl.state = .discard →
          (t.line l).ctl = { (s.line l).ctl with state := .discard, discard := .faulty .clockFault }) ∧
        ((s.line l).ctl.state = .send → (t.line l).ctl = (s.line l).ctl) ∧
        (t.line l).tx = (if (s.line l).ctl.state = .send ∨ (s.line l).tx.enable = true ∨ (s.line l).tx.sending ≠ none ∨
            (s.line l).tx.echoes ≠ [] then { (s.line l).tx with stop := some .clockFault } else (s.line l).tx) ∧
        ((s.line l).role = .standby → (t.line l).observer = .empty ∧
          ∀ b, s.assembling l = some b → (t.buffer b).place = .free)

end
end

