-- ==== Sys2Proof/Laws/State.lean ====
section
/-! SUPPORT. What each update of State leaves and what it changes, field by field. -/

namespace Sys2Proof.Machine

/-! ### setLine -/

@[simp] theorem State.setLine_staging (s : State) (l : Line) (e : LineEngine) : (s.setLine l e).staging = s.staging := by cases l <;> rfl
@[simp] theorem State.setLine_slots (s : State) (l : Line) (e : LineEngine) : (s.setLine l e).slots = s.slots := by cases l <;> rfl
@[simp] theorem State.setLine_sequence (s : State) (l : Line) (e : LineEngine) : (s.setLine l e).sequence = s.sequence := by cases l <;> rfl
@[simp] theorem State.setLine_buffers (s : State) (l : Line) (e : LineEngine) : (s.setLine l e).buffers = s.buffers := by cases l <;> rfl
@[simp] theorem State.setLine_ready (s : State) (l : Line) (e : LineEngine) : (s.setLine l e).ready = s.ready := by cases l <;> rfl
@[simp] theorem State.setLine_opened (s : State) (l : Line) (e : LineEngine) : (s.setLine l e).opened = s.opened := by cases l <;> rfl
@[simp] theorem State.setLine_clock (s : State) (l : Line) (e : LineEngine) : (s.setLine l e).clock = s.clock := by cases l <;> rfl
@[simp] theorem State.setLine_events (s : State) (l : Line) (e : LineEngine) : (s.setLine l e).events = s.events := by cases l <;> rfl
@[simp] theorem State.setLine_bus (s : State) (l : Line) (e : LineEngine) : (s.setLine l e).bus = s.bus := by cases l <;> rfl
@[simp] theorem State.setLine_command (s : State) (l : Line) (e : LineEngine) : (s.setLine l e).command = s.command := by cases l <;> rfl
@[simp] theorem State.setLine_irqPin (s : State) (l : Line) (e : LineEngine) : (s.setLine l e).irqPin = s.irqPin := by cases l <;> rfl
@[simp] theorem State.setLine_fresh (s : State) (l : Line) (e : LineEngine) : (s.setLine l e).fresh = s.fresh := by cases l <;> rfl
@[simp] theorem State.setLine_pending (s : State) (l : Line) (e : LineEngine) : (s.setLine l e).pending = s.pending := by cases l <;> rfl
@[simp] theorem State.setLine_drops (s : State) (l : Line) (e : LineEngine) : (s.setLine l e).drops = s.drops := by cases l <;> rfl
@[simp] theorem State.setLine_drop (s : State) (l : Line) (e : LineEngine) (d : DropIx) : (s.setLine l e).drop d = s.drop d := by cases l <;> rfl
@[simp] theorem State.setLine_slot (s : State) (l : Line) (e : LineEngine) (t : Tag) : (s.setLine l e).slot t = s.slot t := by cases l <;> rfl
@[simp] theorem State.setLine_buffer (s : State) (l : Line) (e : LineEngine) (b : BufIx) : (s.setLine l e).buffer b = s.buffer b := by cases l <;> rfl
@[simp] theorem State.setLine_line (s : State) (l l' : Line) (e : LineEngine) : (s.setLine l e).line l' = if l' = l then e else s.line l' := by
  cases l <;> cases l' <;> rfl

/-! ### modLine -/

@[simp] theorem State.modLine_staging (s : State) (l : Line) (f : LineEngine → LineEngine) : (s.modLine l f).staging = s.staging := by cases l <;> rfl
@[simp] theorem State.modLine_slots (s : State) (l : Line) (f : LineEngine → LineEngine) : (s.modLine l f).slots = s.slots := by cases l <;> rfl
@[simp] theorem State.modLine_sequence (s : State) (l : Line) (f : LineEngine → LineEngine) : (s.modLine l f).sequence = s.sequence := by cases l <;> rfl
@[simp] theorem State.modLine_buffers (s : State) (l : Line) (f : LineEngine → LineEngine) : (s.modLine l f).buffers = s.buffers := by cases l <;> rfl
@[simp] theorem State.modLine_ready (s : State) (l : Line) (f : LineEngine → LineEngine) : (s.modLine l f).ready = s.ready := by cases l <;> rfl
@[simp] theorem State.modLine_opened (s : State) (l : Line) (f : LineEngine → LineEngine) : (s.modLine l f).opened = s.opened := by cases l <;> rfl
@[simp] theorem State.modLine_clock (s : State) (l : Line) (f : LineEngine → LineEngine) : (s.modLine l f).clock = s.clock := by cases l <;> rfl
@[simp] theorem State.modLine_events (s : State) (l : Line) (f : LineEngine → LineEngine) : (s.modLine l f).events = s.events := by cases l <;> rfl
@[simp] theorem State.modLine_bus (s : State) (l : Line) (f : LineEngine → LineEngine) : (s.modLine l f).bus = s.bus := by cases l <;> rfl
@[simp] theorem State.modLine_command (s : State) (l : Line) (f : LineEngine → LineEngine) : (s.modLine l f).command = s.command := by cases l <;> rfl
@[simp] theorem State.modLine_irqPin (s : State) (l : Line) (f : LineEngine → LineEngine) : (s.modLine l f).irqPin = s.irqPin := by cases l <;> rfl
@[simp] theorem State.modLine_fresh (s : State) (l : Line) (f : LineEngine → LineEngine) : (s.modLine l f).fresh = s.fresh := by cases l <;> rfl
@[simp] theorem State.modLine_pending (s : State) (l : Line) (f : LineEngine → LineEngine) : (s.modLine l f).pending = s.pending := by cases l <;> rfl
@[simp] theorem State.modLine_drops (s : State) (l : Line) (f : LineEngine → LineEngine) : (s.modLine l f).drops = s.drops := by cases l <;> rfl
@[simp] theorem State.modLine_drop (s : State) (l : Line) (f : LineEngine → LineEngine) (d : DropIx) : (s.modLine l f).drop d = s.drop d := by cases l <;> rfl
@[simp] theorem State.modLine_slot (s : State) (l : Line) (f : LineEngine → LineEngine) (t : Tag) : (s.modLine l f).slot t = s.slot t := by cases l <;> rfl
@[simp] theorem State.modLine_buffer (s : State) (l : Line) (f : LineEngine → LineEngine) (b : BufIx) : (s.modLine l f).buffer b = s.buffer b := by cases l <;> rfl
@[simp] theorem State.modLine_line (s : State) (l l' : Line) (f : LineEngine → LineEngine) : (s.modLine l f).line l' = if l' = l then f (s.line l) else s.line l' := by
  cases l <;> cases l' <;> rfl

/-! ### setDrop -/

@[simp] theorem State.setDrop_staging (s : State) (d : DropIx) (x : Drop) : (s.setDrop d x).staging = s.staging := rfl
@[simp] theorem State.setDrop_slots (s : State) (d : DropIx) (x : Drop) : (s.setDrop d x).slots = s.slots := rfl
@[simp] theorem State.setDrop_sequence (s : State) (d : DropIx) (x : Drop) : (s.setDrop d x).sequence = s.sequence := rfl
@[simp] theorem State.setDrop_buffers (s : State) (d : DropIx) (x : Drop) : (s.setDrop d x).buffers = s.buffers := rfl
@[simp] theorem State.setDrop_ready (s : State) (d : DropIx) (x : Drop) : (s.setDrop d x).ready = s.ready := rfl
@[simp] theorem State.setDrop_opened (s : State) (d : DropIx) (x : Drop) : (s.setDrop d x).opened = s.opened := rfl
@[simp] theorem State.setDrop_clock (s : State) (d : DropIx) (x : Drop) : (s.setDrop d x).clock = s.clock := rfl
@[simp] theorem State.setDrop_events (s : State) (d : DropIx) (x : Drop) : (s.setDrop d x).events = s.events := rfl
@[simp] theorem State.setDrop_bus (s : State) (d : DropIx) (x : Drop) : (s.setDrop d x).bus = s.bus := rfl
@[simp] theorem State.setDrop_command (s : State) (d : DropIx) (x : Drop) : (s.setDrop d x).command = s.command := rfl
@[simp] theorem State.setDrop_irqPin (s : State) (d : DropIx) (x : Drop) : (s.setDrop d x).irqPin = s.irqPin := rfl
@[simp] theorem State.setDrop_fresh (s : State) (d : DropIx) (x : Drop) : (s.setDrop d x).fresh = s.fresh := rfl
@[simp] theorem State.setDrop_pending (s : State) (d : DropIx) (x : Drop) : (s.setDrop d x).pending = s.pending := rfl
@[simp] theorem State.setDrop_lineA (s : State) (d : DropIx) (x : Drop) : (s.setDrop d x).lineA = s.lineA := rfl
@[simp] theorem State.setDrop_lineB (s : State) (d : DropIx) (x : Drop) : (s.setDrop d x).lineB = s.lineB := rfl
@[simp] theorem State.setDrop_line (s : State) (d : DropIx) (x : Drop) (l : Line) : (s.setDrop d x).line l = s.line l := by cases l <;> rfl
@[simp] theorem State.setDrop_slot (s : State) (d : DropIx) (x : Drop) (t : Tag) : (s.setDrop d x).slot t = s.slot t := rfl
@[simp] theorem State.setDrop_buffer (s : State) (d : DropIx) (x : Drop) (b : BufIx) : (s.setDrop d x).buffer b = s.buffer b := rfl
@[simp] theorem State.setDrop_drop (s : State) (d d' : DropIx) (x : Drop) : (s.setDrop d x).drop d' = if d' = d then x else s.drop d' := by
  simp only [State.drop, State.setDrop, Vector.getElem_set, Fin.ext_iff, eq_comm]

/-! ### modDrop -/

@[simp] theorem State.modDrop_staging (s : State) (d : DropIx) (f : Drop → Drop) : (s.modDrop d f).staging = s.staging := rfl
@[simp] theorem State.modDrop_slots (s : State) (d : DropIx) (f : Drop → Drop) : (s.modDrop d f).slots = s.slots := rfl
@[simp] theorem State.modDrop_sequence (s : State) (d : DropIx) (f : Drop → Drop) : (s.modDrop d f).sequence = s.sequence := rfl
@[simp] theorem State.modDrop_buffers (s : State) (d : DropIx) (f : Drop → Drop) : (s.modDrop d f).buffers = s.buffers := rfl
@[simp] theorem State.modDrop_ready (s : State) (d : DropIx) (f : Drop → Drop) : (s.modDrop d f).ready = s.ready := rfl
@[simp] theorem State.modDrop_opened (s : State) (d : DropIx) (f : Drop → Drop) : (s.modDrop d f).opened = s.opened := rfl
@[simp] theorem State.modDrop_clock (s : State) (d : DropIx) (f : Drop → Drop) : (s.modDrop d f).clock = s.clock := rfl
@[simp] theorem State.modDrop_events (s : State) (d : DropIx) (f : Drop → Drop) : (s.modDrop d f).events = s.events := rfl
@[simp] theorem State.modDrop_bus (s : State) (d : DropIx) (f : Drop → Drop) : (s.modDrop d f).bus = s.bus := rfl
@[simp] theorem State.modDrop_command (s : State) (d : DropIx) (f : Drop → Drop) : (s.modDrop d f).command = s.command := rfl
@[simp] theorem State.modDrop_irqPin (s : State) (d : DropIx) (f : Drop → Drop) : (s.modDrop d f).irqPin = s.irqPin := rfl
@[simp] theorem State.modDrop_fresh (s : State) (d : DropIx) (f : Drop → Drop) : (s.modDrop d f).fresh = s.fresh := rfl
@[simp] theorem State.modDrop_pending (s : State) (d : DropIx) (f : Drop → Drop) : (s.modDrop d f).pending = s.pending := rfl
@[simp] theorem State.modDrop_lineA (s : State) (d : DropIx) (f : Drop → Drop) : (s.modDrop d f).lineA = s.lineA := rfl
@[simp] theorem State.modDrop_lineB (s : State) (d : DropIx) (f : Drop → Drop) : (s.modDrop d f).lineB = s.lineB := rfl
@[simp] theorem State.modDrop_line (s : State) (d : DropIx) (f : Drop → Drop) (l : Line) : (s.modDrop d f).line l = s.line l := by cases l <;> rfl
@[simp] theorem State.modDrop_slot (s : State) (d : DropIx) (f : Drop → Drop) (t : Tag) : (s.modDrop d f).slot t = s.slot t := rfl
@[simp] theorem State.modDrop_buffer (s : State) (d : DropIx) (f : Drop → Drop) (b : BufIx) : (s.modDrop d f).buffer b = s.buffer b := rfl
@[simp] theorem State.modDrop_drop (s : State) (d d' : DropIx) (f : Drop → Drop) : (s.modDrop d f).drop d' = if d' = d then f (s.drop d) else s.drop d' :=
  s.setDrop_drop d d' _

/-! ### setSlot -/

@[simp] theorem State.setSlot_staging (s : State) (t : Tag) (x : Slot) : (s.setSlot t x).staging = s.staging := rfl
@[simp] theorem State.setSlot_sequence (s : State) (t : Tag) (x : Slot) : (s.setSlot t x).sequence = s.sequence := rfl
@[simp] theorem State.setSlot_buffers (s : State) (t : Tag) (x : Slot) : (s.setSlot t x).buffers = s.buffers := rfl
@[simp] theorem State.setSlot_ready (s : State) (t : Tag) (x : Slot) : (s.setSlot t x).ready = s.ready := rfl
@[simp] theorem State.setSlot_opened (s : State) (t : Tag) (x : Slot) : (s.setSlot t x).opened = s.opened := rfl
@[simp] theorem State.setSlot_clock (s : State) (t : Tag) (x : Slot) : (s.setSlot t x).clock = s.clock := rfl
@[simp] theorem State.setSlot_events (s : State) (t : Tag) (x : Slot) : (s.setSlot t x).events = s.events := rfl
@[simp] theorem State.setSlot_bus (s : State) (t : Tag) (x : Slot) : (s.setSlot t x).bus = s.bus := rfl
@[simp] theorem State.setSlot_command (s : State) (t : Tag) (x : Slot) : (s.setSlot t x).command = s.command := rfl
@[simp] theorem State.setSlot_irqPin (s : State) (t : Tag) (x : Slot) : (s.setSlot t x).irqPin = s.irqPin := rfl
@[simp] theorem State.setSlot_fresh (s : State) (t : Tag) (x : Slot) : (s.setSlot t x).fresh = s.fresh := rfl
@[simp] theorem State.setSlot_pending (s : State) (t : Tag) (x : Slot) : (s.setSlot t x).pending = s.pending := rfl
@[simp] theorem State.setSlot_drops (s : State) (t : Tag) (x : Slot) : (s.setSlot t x).drops = s.drops := rfl
@[simp] theorem State.setSlot_lineA (s : State) (t : Tag) (x : Slot) : (s.setSlot t x).lineA = s.lineA := rfl
@[simp] theorem State.setSlot_lineB (s : State) (t : Tag) (x : Slot) : (s.setSlot t x).lineB = s.lineB := rfl
@[simp] theorem State.setSlot_line (s : State) (t : Tag) (x : Slot) (l : Line) : (s.setSlot t x).line l = s.line l := by cases l <;> rfl
@[simp] theorem State.setSlot_drop (s : State) (t : Tag) (x : Slot) (d : DropIx) : (s.setSlot t x).drop d = s.drop d := rfl
@[simp] theorem State.setSlot_buffer (s : State) (t : Tag) (x : Slot) (b : BufIx) : (s.setSlot t x).buffer b = s.buffer b := rfl
@[simp] theorem State.setSlot_slot (s : State) (t t' : Tag) (x : Slot) : (s.setSlot t x).slot t' = if t' = t then x else s.slot t' := by
  simp only [State.slot, State.setSlot, Vector.getElem_set, Fin.ext_iff, eq_comm]

/-! ### modSlot -/

@[simp] theorem State.modSlot_staging (s : State) (t : Tag) (f : Slot → Slot) : (s.modSlot t f).staging = s.staging := rfl
@[simp] theorem State.modSlot_sequence (s : State) (t : Tag) (f : Slot → Slot) : (s.modSlot t f).sequence = s.sequence := rfl
@[simp] theorem State.modSlot_buffers (s : State) (t : Tag) (f : Slot → Slot) : (s.modSlot t f).buffers = s.buffers := rfl
@[simp] theorem State.modSlot_ready (s : State) (t : Tag) (f : Slot → Slot) : (s.modSlot t f).ready = s.ready := rfl
@[simp] theorem State.modSlot_opened (s : State) (t : Tag) (f : Slot → Slot) : (s.modSlot t f).opened = s.opened := rfl
@[simp] theorem State.modSlot_clock (s : State) (t : Tag) (f : Slot → Slot) : (s.modSlot t f).clock = s.clock := rfl
@[simp] theorem State.modSlot_events (s : State) (t : Tag) (f : Slot → Slot) : (s.modSlot t f).events = s.events := rfl
@[simp] theorem State.modSlot_bus (s : State) (t : Tag) (f : Slot → Slot) : (s.modSlot t f).bus = s.bus := rfl
@[simp] theorem State.modSlot_command (s : State) (t : Tag) (f : Slot → Slot) : (s.modSlot t f).command = s.command := rfl
@[simp] theorem State.modSlot_irqPin (s : State) (t : Tag) (f : Slot → Slot) : (s.modSlot t f).irqPin = s.irqPin := rfl
@[simp] theorem State.modSlot_fresh (s : State) (t : Tag) (f : Slot → Slot) : (s.modSlot t f).fresh = s.fresh := rfl
@[simp] theorem State.modSlot_pending (s : State) (t : Tag) (f : Slot → Slot) : (s.modSlot t f).pending = s.pending := rfl
@[simp] theorem State.modSlot_drops (s : State) (t : Tag) (f : Slot → Slot) : (s.modSlot t f).drops = s.drops := rfl
@[simp] theorem State.modSlot_lineA (s : State) (t : Tag) (f : Slot → Slot) : (s.modSlot t f).lineA = s.lineA := rfl
@[simp] theorem State.modSlot_lineB (s : State) (t : Tag) (f : Slot → Slot) : (s.modSlot t f).lineB = s.lineB := rfl
@[simp] theorem State.modSlot_line (s : State) (t : Tag) (f : Slot → Slot) (l : Line) : (s.modSlot t f).line l = s.line l := by cases l <;> rfl
@[simp] theorem State.modSlot_drop (s : State) (t : Tag) (f : Slot → Slot) (d : DropIx) : (s.modSlot t f).drop d = s.drop d := rfl
@[simp] theorem State.modSlot_buffer (s : State) (t : Tag) (f : Slot → Slot) (b : BufIx) : (s.modSlot t f).buffer b = s.buffer b := rfl
@[simp] theorem State.modSlot_slot (s : State) (t t' : Tag) (f : Slot → Slot) : (s.modSlot t f).slot t' = if t' = t then f (s.slot t) else s.slot t' :=
  s.setSlot_slot t t' _

/-! ### setBuffer -/

@[simp] theorem State.setBuffer_staging (s : State) (b : BufIx) (x : Buffer) : (s.setBuffer b x).staging = s.staging := rfl
@[simp] theorem State.setBuffer_slots (s : State) (b : BufIx) (x : Buffer) : (s.setBuffer b x).slots = s.slots := rfl
@[simp] theorem State.setBuffer_sequence (s : State) (b : BufIx) (x : Buffer) : (s.setBuffer b x).sequence = s.sequence := rfl
@[simp] theorem State.setBuffer_ready (s : State) (b : BufIx) (x : Buffer) : (s.setBuffer b x).ready = s.ready := rfl
@[simp] theorem State.setBuffer_opened (s : State) (b : BufIx) (x : Buffer) : (s.setBuffer b x).opened = s.opened := rfl
@[simp] theorem State.setBuffer_clock (s : State) (b : BufIx) (x : Buffer) : (s.setBuffer b x).clock = s.clock := rfl
@[simp] theorem State.setBuffer_events (s : State) (b : BufIx) (x : Buffer) : (s.setBuffer b x).events = s.events := rfl
@[simp] theorem State.setBuffer_bus (s : State) (b : BufIx) (x : Buffer) : (s.setBuffer b x).bus = s.bus := rfl
@[simp] theorem State.setBuffer_command (s : State) (b : BufIx) (x : Buffer) : (s.setBuffer b x).command = s.command := rfl
@[simp] theorem State.setBuffer_irqPin (s : State) (b : BufIx) (x : Buffer) : (s.setBuffer b x).irqPin = s.irqPin := rfl
@[simp] theorem State.setBuffer_fresh (s : State) (b : BufIx) (x : Buffer) : (s.setBuffer b x).fresh = s.fresh := rfl
@[simp] theorem State.setBuffer_pending (s : State) (b : BufIx) (x : Buffer) : (s.setBuffer b x).pending = s.pending := rfl
@[simp] theorem State.setBuffer_drops (s : State) (b : BufIx) (x : Buffer) : (s.setBuffer b x).drops = s.drops := rfl
@[simp] theorem State.setBuffer_lineA (s : State) (b : BufIx) (x : Buffer) : (s.setBuffer b x).lineA = s.lineA := rfl
@[simp] theorem State.setBuffer_lineB (s : State) (b : BufIx) (x : Buffer) : (s.setBuffer b x).lineB = s.lineB := rfl
@[simp] theorem State.setBuffer_line (s : State) (b : BufIx) (x : Buffer) (l : Line) : (s.setBuffer b x).line l = s.line l := by cases l <;> rfl
@[simp] theorem State.setBuffer_drop (s : State) (b : BufIx) (x : Buffer) (d : DropIx) : (s.setBuffer b x).drop d = s.drop d := rfl
@[simp] theorem State.setBuffer_slot (s : State) (b : BufIx) (x : Buffer) (t : Tag) : (s.setBuffer b x).slot t = s.slot t := rfl
@[simp] theorem State.setBuffer_buffer (s : State) (b b' : BufIx) (x : Buffer) : (s.setBuffer b x).buffer b' = if b' = b then x else s.buffer b' := by
  simp only [State.buffer, State.setBuffer, Vector.getElem_set, Fin.ext_iff, eq_comm]

/-! ### modBuffer -/

@[simp] theorem State.modBuffer_staging (s : State) (b : BufIx) (f : Buffer → Buffer) : (s.modBuffer b f).staging = s.staging := rfl
@[simp] theorem State.modBuffer_slots (s : State) (b : BufIx) (f : Buffer → Buffer) : (s.modBuffer b f).slots = s.slots := rfl
@[simp] theorem State.modBuffer_sequence (s : State) (b : BufIx) (f : Buffer → Buffer) : (s.modBuffer b f).sequence = s.sequence := rfl
@[simp] theorem State.modBuffer_ready (s : State) (b : BufIx) (f : Buffer → Buffer) : (s.modBuffer b f).ready = s.ready := rfl
@[simp] theorem State.modBuffer_opened (s : State) (b : BufIx) (f : Buffer → Buffer) : (s.modBuffer b f).opened = s.opened := rfl
@[simp] theorem State.modBuffer_clock (s : State) (b : BufIx) (f : Buffer → Buffer) : (s.modBuffer b f).clock = s.clock := rfl
@[simp] theorem State.modBuffer_events (s : State) (b : BufIx) (f : Buffer → Buffer) : (s.modBuffer b f).events = s.events := rfl
@[simp] theorem State.modBuffer_bus (s : State) (b : BufIx) (f : Buffer → Buffer) : (s.modBuffer b f).bus = s.bus := rfl
@[simp] theorem State.modBuffer_command (s : State) (b : BufIx) (f : Buffer → Buffer) : (s.modBuffer b f).command = s.command := rfl
@[simp] theorem State.modBuffer_irqPin (s : State) (b : BufIx) (f : Buffer → Buffer) : (s.modBuffer b f).irqPin = s.irqPin := rfl
@[simp] theorem State.modBuffer_fresh (s : State) (b : BufIx) (f : Buffer → Buffer) : (s.modBuffer b f).fresh = s.fresh := rfl
@[simp] theorem State.modBuffer_pending (s : State) (b : BufIx) (f : Buffer → Buffer) : (s.modBuffer b f).pending = s.pending := rfl
@[simp] theorem State.modBuffer_drops (s : State) (b : BufIx) (f : Buffer → Buffer) : (s.modBuffer b f).drops = s.drops := rfl
@[simp] theorem State.modBuffer_lineA (s : State) (b : BufIx) (f : Buffer → Buffer) : (s.modBuffer b f).lineA = s.lineA := rfl
@[simp] theorem State.modBuffer_lineB (s : State) (b : BufIx) (f : Buffer → Buffer) : (s.modBuffer b f).lineB = s.lineB := rfl
@[simp] theorem State.modBuffer_line (s : State) (b : BufIx) (f : Buffer → Buffer) (l : Line) : (s.modBuffer b f).line l = s.line l := by cases l <;> rfl
@[simp] theorem State.modBuffer_drop (s : State) (b : BufIx) (f : Buffer → Buffer) (d : DropIx) : (s.modBuffer b f).drop d = s.drop d := rfl
@[simp] theorem State.modBuffer_slot (s : State) (b : BufIx) (f : Buffer → Buffer) (t : Tag) : (s.modBuffer b f).slot t = s.slot t := rfl
@[simp] theorem State.modBuffer_buffer (s : State) (b b' : BufIx) (f : Buffer → Buffer) : (s.modBuffer b f).buffer b' = if b' = b then f (s.buffer b) else s.buffer b' :=
  s.setBuffer_buffer b b' _

/-! ### modEvents -/

@[simp] theorem State.modEvents_staging (s : State) (f : EventUnit → EventUnit) : (s.modEvents f).staging = s.staging := rfl
@[simp] theorem State.modEvents_slots (s : State) (f : EventUnit → EventUnit) : (s.modEvents f).slots = s.slots := rfl
@[simp] theorem State.modEvents_sequence (s : State) (f : EventUnit → EventUnit) : (s.modEvents f).sequence = s.sequence := rfl
@[simp] theorem State.modEvents_buffers (s : State) (f : EventUnit → EventUnit) : (s.modEvents f).buffers = s.buffers := rfl
@[simp] theorem State.modEvents_ready (s : State) (f : EventUnit → EventUnit) : (s.modEvents f).ready = s.ready := rfl
@[simp] theorem State.modEvents_opened (s : State) (f : EventUnit → EventUnit) : (s.modEvents f).opened = s.opened := rfl
@[simp] theorem State.modEvents_clock (s : State) (f : EventUnit → EventUnit) : (s.modEvents f).clock = s.clock := rfl
@[simp] theorem State.modEvents_bus (s : State) (f : EventUnit → EventUnit) : (s.modEvents f).bus = s.bus := rfl
@[simp] theorem State.modEvents_command (s : State) (f : EventUnit → EventUnit) : (s.modEvents f).command = s.command := rfl
@[simp] theorem State.modEvents_irqPin (s : State) (f : EventUnit → EventUnit) : (s.modEvents f).irqPin = s.irqPin := rfl
@[simp] theorem State.modEvents_fresh (s : State) (f : EventUnit → EventUnit) : (s.modEvents f).fresh = s.fresh := rfl
@[simp] theorem State.modEvents_pending (s : State) (f : EventUnit → EventUnit) : (s.modEvents f).pending = s.pending := rfl
@[simp] theorem State.modEvents_drops (s : State) (f : EventUnit → EventUnit) : (s.modEvents f).drops = s.drops := rfl
@[simp] theorem State.modEvents_lineA (s : State) (f : EventUnit → EventUnit) : (s.modEvents f).lineA = s.lineA := rfl
@[simp] theorem State.modEvents_lineB (s : State) (f : EventUnit → EventUnit) : (s.modEvents f).lineB = s.lineB := rfl
@[simp] theorem State.modEvents_line (s : State) (f : EventUnit → EventUnit) (l : Line) : (s.modEvents f).line l = s.line l := by cases l <;> rfl
@[simp] theorem State.modEvents_drop (s : State) (f : EventUnit → EventUnit) (d : DropIx) : (s.modEvents f).drop d = s.drop d := rfl
@[simp] theorem State.modEvents_slot (s : State) (f : EventUnit → EventUnit) (t : Tag) : (s.modEvents f).slot t = s.slot t := rfl
@[simp] theorem State.modEvents_buffer (s : State) (f : EventUnit → EventUnit) (b : BufIx) : (s.modEvents f).buffer b = s.buffer b := rfl
@[simp] theorem State.modEvents_events (s : State) (f : EventUnit → EventUnit) : (s.modEvents f).events = f s.events := rfl

/-! ### modClock -/

@[simp] theorem State.modClock_staging (s : State) (f : ClockUnit → ClockUnit) : (s.modClock f).staging = s.staging := rfl
@[simp] theorem State.modClock_slots (s : State) (f : ClockUnit → ClockUnit) : (s.modClock f).slots = s.slots := rfl
@[simp] theorem State.modClock_sequence (s : State) (f : ClockUnit → ClockUnit) : (s.modClock f).sequence = s.sequence := rfl
@[simp] theorem State.modClock_buffers (s : State) (f : ClockUnit → ClockUnit) : (s.modClock f).buffers = s.buffers := rfl
@[simp] theorem State.modClock_ready (s : State) (f : ClockUnit → ClockUnit) : (s.modClock f).ready = s.ready := rfl
@[simp] theorem State.modClock_opened (s : State) (f : ClockUnit → ClockUnit) : (s.modClock f).opened = s.opened := rfl
@[simp] theorem State.modClock_events (s : State) (f : ClockUnit → ClockUnit) : (s.modClock f).events = s.events := rfl
@[simp] theorem State.modClock_bus (s : State) (f : ClockUnit → ClockUnit) : (s.modClock f).bus = s.bus := rfl
@[simp] theorem State.modClock_command (s : State) (f : ClockUnit → ClockUnit) : (s.modClock f).command = s.command := rfl
@[simp] theorem State.modClock_irqPin (s : State) (f : ClockUnit → ClockUnit) : (s.modClock f).irqPin = s.irqPin := rfl
@[simp] theorem State.modClock_fresh (s : State) (f : ClockUnit → ClockUnit) : (s.modClock f).fresh = s.fresh := rfl
@[simp] theorem State.modClock_pending (s : State) (f : ClockUnit → ClockUnit) : (s.modClock f).pending = s.pending := rfl
@[simp] theorem State.modClock_drops (s : State) (f : ClockUnit → ClockUnit) : (s.modClock f).drops = s.drops := rfl
@[simp] theorem State.modClock_lineA (s : State) (f : ClockUnit → ClockUnit) : (s.modClock f).lineA = s.lineA := rfl
@[simp] theorem State.modClock_lineB (s : State) (f : ClockUnit → ClockUnit) : (s.modClock f).lineB = s.lineB := rfl
@[simp] theorem State.modClock_line (s : State) (f : ClockUnit → ClockUnit) (l : Line) : (s.modClock f).line l = s.line l := by cases l <;> rfl
@[simp] theorem State.modClock_drop (s : State) (f : ClockUnit → ClockUnit) (d : DropIx) : (s.modClock f).drop d = s.drop d := rfl
@[simp] theorem State.modClock_slot (s : State) (f : ClockUnit → ClockUnit) (t : Tag) : (s.modClock f).slot t = s.slot t := rfl
@[simp] theorem State.modClock_buffer (s : State) (f : ClockUnit → ClockUnit) (b : BufIx) : (s.modClock f).buffer b = s.buffer b := rfl
@[simp] theorem State.modClock_clock (s : State) (f : ClockUnit → ClockUnit) : (s.modClock f).clock = f s.clock := rfl

/-! ### modBus -/

@[simp] theorem State.modBus_staging (s : State) (f : BusUnit → BusUnit) : (s.modBus f).staging = s.staging := rfl
@[simp] theorem State.modBus_slots (s : State) (f : BusUnit → BusUnit) : (s.modBus f).slots = s.slots := rfl
@[simp] theorem State.modBus_sequence (s : State) (f : BusUnit → BusUnit) : (s.modBus f).sequence = s.sequence := rfl
@[simp] theorem State.modBus_buffers (s : State) (f : BusUnit → BusUnit) : (s.modBus f).buffers = s.buffers := rfl
@[simp] theorem State.modBus_ready (s : State) (f : BusUnit → BusUnit) : (s.modBus f).ready = s.ready := rfl
@[simp] theorem State.modBus_opened (s : State) (f : BusUnit → BusUnit) : (s.modBus f).opened = s.opened := rfl
@[simp] theorem State.modBus_clock (s : State) (f : BusUnit → BusUnit) : (s.modBus f).clock = s.clock := rfl
@[simp] theorem State.modBus_events (s : State) (f : BusUnit → BusUnit) : (s.modBus f).events = s.events := rfl
@[simp] theorem State.modBus_command (s : State) (f : BusUnit → BusUnit) : (s.modBus f).command = s.command := rfl
@[simp] theorem State.modBus_irqPin (s : State) (f : BusUnit → BusUnit) : (s.modBus f).irqPin = s.irqPin := rfl
@[simp] theorem State.modBus_fresh (s : State) (f : BusUnit → BusUnit) : (s.modBus f).fresh = s.fresh := rfl
@[simp] theorem State.modBus_pending (s : State) (f : BusUnit → BusUnit) : (s.modBus f).pending = s.pending := rfl
@[simp] theorem State.modBus_drops (s : State) (f : BusUnit → BusUnit) : (s.modBus f).drops = s.drops := rfl
@[simp] theorem State.modBus_lineA (s : State) (f : BusUnit → BusUnit) : (s.modBus f).lineA = s.lineA := rfl
@[simp] theorem State.modBus_lineB (s : State) (f : BusUnit → BusUnit) : (s.modBus f).lineB = s.lineB := rfl
@[simp] theorem State.modBus_line (s : State) (f : BusUnit → BusUnit) (l : Line) : (s.modBus f).line l = s.line l := by cases l <;> rfl
@[simp] theorem State.modBus_drop (s : State) (f : BusUnit → BusUnit) (d : DropIx) : (s.modBus f).drop d = s.drop d := rfl
@[simp] theorem State.modBus_slot (s : State) (f : BusUnit → BusUnit) (t : Tag) : (s.modBus f).slot t = s.slot t := rfl
@[simp] theorem State.modBus_buffer (s : State) (f : BusUnit → BusUnit) (b : BufIx) : (s.modBus f).buffer b = s.buffer b := rfl
@[simp] theorem State.modBus_bus (s : State) (f : BusUnit → BusUnit) : (s.modBus f).bus = f s.bus := rfl

/-! ### modCommand -/

@[simp] theorem State.modCommand_staging (s : State) (f : CommandUnit → CommandUnit) : (s.modCommand f).staging = s.staging := rfl
@[simp] theorem State.modCommand_slots (s : State) (f : CommandUnit → CommandUnit) : (s.modCommand f).slots = s.slots := rfl
@[simp] theorem State.modCommand_sequence (s : State) (f : CommandUnit → CommandUnit) : (s.modCommand f).sequence = s.sequence := rfl
@[simp] theorem State.modCommand_buffers (s : State) (f : CommandUnit → CommandUnit) : (s.modCommand f).buffers = s.buffers := rfl
@[simp] theorem State.modCommand_ready (s : State) (f : CommandUnit → CommandUnit) : (s.modCommand f).ready = s.ready := rfl
@[simp] theorem State.modCommand_opened (s : State) (f : CommandUnit → CommandUnit) : (s.modCommand f).opened = s.opened := rfl
@[simp] theorem State.modCommand_clock (s : State) (f : CommandUnit → CommandUnit) : (s.modCommand f).clock = s.clock := rfl
@[simp] theorem State.modCommand_events (s : State) (f : CommandUnit → CommandUnit) : (s.modCommand f).events = s.events := rfl
@[simp] theorem State.modCommand_bus (s : State) (f : CommandUnit → CommandUnit) : (s.modCommand f).bus = s.bus := rfl
@[simp] theorem State.modCommand_irqPin (s : State) (f : CommandUnit → CommandUnit) : (s.modCommand f).irqPin = s.irqPin := rfl
@[simp] theorem State.modCommand_fresh (s : State) (f : CommandUnit → CommandUnit) : (s.modCommand f).fresh = s.fresh := rfl
@[simp] theorem State.modCommand_pending (s : State) (f : CommandUnit → CommandUnit) : (s.modCommand f).pending = s.pending := rfl
@[simp] theorem State.modCommand_drops (s : State) (f : CommandUnit → CommandUnit) : (s.modCommand f).drops = s.drops := rfl
@[simp] theorem State.modCommand_lineA (s : State) (f : CommandUnit → CommandUnit) : (s.modCommand f).lineA = s.lineA := rfl
@[simp] theorem State.modCommand_lineB (s : State) (f : CommandUnit → CommandUnit) : (s.modCommand f).lineB = s.lineB := rfl
@[simp] theorem State.modCommand_line (s : State) (f : CommandUnit → CommandUnit) (l : Line) : (s.modCommand f).line l = s.line l := by cases l <;> rfl
@[simp] theorem State.modCommand_drop (s : State) (f : CommandUnit → CommandUnit) (d : DropIx) : (s.modCommand f).drop d = s.drop d := rfl
@[simp] theorem State.modCommand_slot (s : State) (f : CommandUnit → CommandUnit) (t : Tag) : (s.modCommand f).slot t = s.slot t := rfl
@[simp] theorem State.modCommand_buffer (s : State) (f : CommandUnit → CommandUnit) (b : BufIx) : (s.modCommand f).buffer b = s.buffer b := rfl
@[simp] theorem State.modCommand_command (s : State) (f : CommandUnit → CommandUnit) : (s.modCommand f).command = f s.command := rfl

/-! ### modLines -/

@[simp] theorem State.modLines_staging (s : State) (f : Line → LineEngine → LineEngine) : (s.modLines f).staging = s.staging := rfl
@[simp] theorem State.modLines_slots (s : State) (f : Line → LineEngine → LineEngine) : (s.modLines f).slots = s.slots := rfl
@[simp] theorem State.modLines_sequence (s : State) (f : Line → LineEngine → LineEngine) : (s.modLines f).sequence = s.sequence := rfl
@[simp] theorem State.modLines_buffers (s : State) (f : Line → LineEngine → LineEngine) : (s.modLines f).buffers = s.buffers := rfl
@[simp] theorem State.modLines_ready (s : State) (f : Line → LineEngine → LineEngine) : (s.modLines f).ready = s.ready := rfl
@[simp] theorem State.modLines_opened (s : State) (f : Line → LineEngine → LineEngine) : (s.modLines f).opened = s.opened := rfl
@[simp] theorem State.modLines_clock (s : State) (f : Line → LineEngine → LineEngine) : (s.modLines f).clock = s.clock := rfl
@[simp] theorem State.modLines_events (s : State) (f : Line → LineEngine → LineEngine) : (s.modLines f).events = s.events := rfl
@[simp] theorem State.modLines_bus (s : State) (f : Line → LineEngine → LineEngine) : (s.modLines f).bus = s.bus := rfl
@[simp] theorem State.modLines_command (s : State) (f : Line → LineEngine → LineEngine) : (s.modLines f).command = s.command := rfl
@[simp] theorem State.modLines_irqPin (s : State) (f : Line → LineEngine → LineEngine) : (s.modLines f).irqPin = s.irqPin := rfl
@[simp] theorem State.modLines_fresh (s : State) (f : Line → LineEngine → LineEngine) : (s.modLines f).fresh = s.fresh := rfl
@[simp] theorem State.modLines_pending (s : State) (f : Line → LineEngine → LineEngine) : (s.modLines f).pending = s.pending := rfl
@[simp] theorem State.modLines_drops (s : State) (f : Line → LineEngine → LineEngine) : (s.modLines f).drops = s.drops := rfl
@[simp] theorem State.modLines_drop (s : State) (f : Line → LineEngine → LineEngine) (d : DropIx) : (s.modLines f).drop d = s.drop d := rfl
@[simp] theorem State.modLines_slot (s : State) (f : Line → LineEngine → LineEngine) (t : Tag) : (s.modLines f).slot t = s.slot t := rfl
@[simp] theorem State.modLines_buffer (s : State) (f : Line → LineEngine → LineEngine) (b : BufIx) : (s.modLines f).buffer b = s.buffer b := rfl
@[simp] theorem State.modLines_line (s : State) (f : Line → LineEngine → LineEngine) (l : Line) : (s.modLines f).line l = f l (s.line l) := by cases l <;> rfl

/-! ### modDrops -/

@[simp] theorem State.modDrops_staging (s : State) (f : Drop → Drop) : (s.modDrops f).staging = s.staging := rfl
@[simp] theorem State.modDrops_slots (s : State) (f : Drop → Drop) : (s.modDrops f).slots = s.slots := rfl
@[simp] theorem State.modDrops_sequence (s : State) (f : Drop → Drop) : (s.modDrops f).sequence = s.sequence := rfl
@[simp] theorem State.modDrops_buffers (s : State) (f : Drop → Drop) : (s.modDrops f).buffers = s.buffers := rfl
@[simp] theorem State.modDrops_ready (s : State) (f : Drop → Drop) : (s.modDrops f).ready = s.ready := rfl
@[simp] theorem State.modDrops_opened (s : State) (f : Drop → Drop) : (s.modDrops f).opened = s.opened := rfl
@[simp] theorem State.modDrops_clock (s : State) (f : Drop → Drop) : (s.modDrops f).clock = s.clock := rfl
@[simp] theorem State.modDrops_events (s : State) (f : Drop → Drop) : (s.modDrops f).events = s.events := rfl
@[simp] theorem State.modDrops_bus (s : State) (f : Drop → Drop) : (s.modDrops f).bus = s.bus := rfl
@[simp] theorem State.modDrops_command (s : State) (f : Drop → Drop) : (s.modDrops f).command = s.command := rfl
@[simp] theorem State.modDrops_irqPin (s : State) (f : Drop → Drop) : (s.modDrops f).irqPin = s.irqPin := rfl
@[simp] theorem State.modDrops_fresh (s : State) (f : Drop → Drop) : (s.modDrops f).fresh = s.fresh := rfl
@[simp] theorem State.modDrops_pending (s : State) (f : Drop → Drop) : (s.modDrops f).pending = s.pending := rfl
@[simp] theorem State.modDrops_lineA (s : State) (f : Drop → Drop) : (s.modDrops f).lineA = s.lineA := rfl
@[simp] theorem State.modDrops_lineB (s : State) (f : Drop → Drop) : (s.modDrops f).lineB = s.lineB := rfl
@[simp] theorem State.modDrops_line (s : State) (f : Drop → Drop) (l : Line) : (s.modDrops f).line l = s.line l := by cases l <;> rfl
@[simp] theorem State.modDrops_slot (s : State) (f : Drop → Drop) (t : Tag) : (s.modDrops f).slot t = s.slot t := rfl
@[simp] theorem State.modDrops_buffer (s : State) (f : Drop → Drop) (b : BufIx) : (s.modDrops f).buffer b = s.buffer b := rfl
@[simp] theorem State.modDrops_drop (s : State) (f : Drop → Drop) (d : DropIx) : (s.modDrops f).drop d = f (s.drop d) := by
  simp [State.modDrops, State.drop, mapVector]

/-! ### modBuffers -/

@[simp] theorem State.modBuffers_staging (s : State) (f : Buffer → Buffer) : (s.modBuffers f).staging = s.staging := rfl
@[simp] theorem State.modBuffers_slots (s : State) (f : Buffer → Buffer) : (s.modBuffers f).slots = s.slots := rfl
@[simp] theorem State.modBuffers_sequence (s : State) (f : Buffer → Buffer) : (s.modBuffers f).sequence = s.sequence := rfl
@[simp] theorem State.modBuffers_ready (s : State) (f : Buffer → Buffer) : (s.modBuffers f).ready = s.ready := rfl
@[simp] theorem State.modBuffers_opened (s : State) (f : Buffer → Buffer) : (s.modBuffers f).opened = s.opened := rfl
@[simp] theorem State.modBuffers_clock (s : State) (f : Buffer → Buffer) : (s.modBuffers f).clock = s.clock := rfl
@[simp] theorem State.modBuffers_events (s : State) (f : Buffer → Buffer) : (s.modBuffers f).events = s.events := rfl
@[simp] theorem State.modBuffers_bus (s : State) (f : Buffer → Buffer) : (s.modBuffers f).bus = s.bus := rfl
@[simp] theorem State.modBuffers_command (s : State) (f : Buffer → Buffer) : (s.modBuffers f).command = s.command := rfl
@[simp] theorem State.modBuffers_irqPin (s : State) (f : Buffer → Buffer) : (s.modBuffers f).irqPin = s.irqPin := rfl
@[simp] theorem State.modBuffers_fresh (s : State) (f : Buffer → Buffer) : (s.modBuffers f).fresh = s.fresh := rfl
@[simp] theorem State.modBuffers_pending (s : State) (f : Buffer → Buffer) : (s.modBuffers f).pending = s.pending := rfl
@[simp] theorem State.modBuffers_drops (s : State) (f : Buffer → Buffer) : (s.modBuffers f).drops = s.drops := rfl
@[simp] theorem State.modBuffers_lineA (s : State) (f : Buffer → Buffer) : (s.modBuffers f).lineA = s.lineA := rfl
@[simp] theorem State.modBuffers_lineB (s : State) (f : Buffer → Buffer) : (s.modBuffers f).lineB = s.lineB := rfl
@[simp] theorem State.modBuffers_line (s : State) (f : Buffer → Buffer) (l : Line) : (s.modBuffers f).line l = s.line l := by cases l <;> rfl
@[simp] theorem State.modBuffers_drop (s : State) (f : Buffer → Buffer) (d : DropIx) : (s.modBuffers f).drop d = s.drop d := rfl
@[simp] theorem State.modBuffers_slot (s : State) (f : Buffer → Buffer) (t : Tag) : (s.modBuffers f).slot t = s.slot t := rfl
@[simp] theorem State.modBuffers_buffer (s : State) (f : Buffer → Buffer) (b : BufIx) : (s.modBuffers f).buffer b = f (s.buffer b) := by
  simp [State.modBuffers, State.buffer, mapVector]

/-! ### driveIrq -/

@[simp] theorem State.driveIrq_staging (s : State) : (s.driveIrq).staging = s.staging := rfl
@[simp] theorem State.driveIrq_slots (s : State) : (s.driveIrq).slots = s.slots := rfl
@[simp] theorem State.driveIrq_sequence (s : State) : (s.driveIrq).sequence = s.sequence := rfl
@[simp] theorem State.driveIrq_buffers (s : State) : (s.driveIrq).buffers = s.buffers := rfl
@[simp] theorem State.driveIrq_ready (s : State) : (s.driveIrq).ready = s.ready := rfl
@[simp] theorem State.driveIrq_opened (s : State) : (s.driveIrq).opened = s.opened := rfl
@[simp] theorem State.driveIrq_clock (s : State) : (s.driveIrq).clock = s.clock := rfl
@[simp] theorem State.driveIrq_events (s : State) : (s.driveIrq).events = s.events := rfl
@[simp] theorem State.driveIrq_bus (s : State) : (s.driveIrq).bus = s.bus := rfl
@[simp] theorem State.driveIrq_command (s : State) : (s.driveIrq).command = s.command := rfl
@[simp] theorem State.driveIrq_fresh (s : State) : (s.driveIrq).fresh = s.fresh := rfl
@[simp] theorem State.driveIrq_pending (s : State) : (s.driveIrq).pending = s.pending := rfl
@[simp] theorem State.driveIrq_drops (s : State) : (s.driveIrq).drops = s.drops := rfl
@[simp] theorem State.driveIrq_lineA (s : State) : (s.driveIrq).lineA = s.lineA := rfl
@[simp] theorem State.driveIrq_lineB (s : State) : (s.driveIrq).lineB = s.lineB := rfl
@[simp] theorem State.driveIrq_line (s : State) (l : Line) : (s.driveIrq).line l = s.line l := by cases l <;> rfl
@[simp] theorem State.driveIrq_drop (s : State) (d : DropIx) : (s.driveIrq).drop d = s.drop d := rfl
@[simp] theorem State.driveIrq_slot (s : State) (t : Tag) : (s.driveIrq).slot t = s.slot t := rfl
@[simp] theorem State.driveIrq_buffer (s : State) (b : BufIx) : (s.driveIrq).buffer b = s.buffer b := rfl
@[simp] theorem State.driveIrq_irqPin (s : State) : s.driveIrq.irqPin = !s.irqWanted := rfl

/-! ### Updates of one record of a line engine are updates of the engine -/

@[simp] theorem State.modCounters_eq (s : State) (l : Line) (f : LineCounters → LineCounters) :
    s.modCounters l f = s.modLine l fun e => { e with counters := f e.counters } := rfl
@[simp] theorem State.modRx_eq (s : State) (l : Line) (f : Receiver → Receiver) :
    s.modRx l f = s.modLine l fun e => { e with rx := f e.rx } := rfl
@[simp] theorem State.modReader_eq (s : State) (l : Line) (f : Reader → Reader) :
    s.modReader l f = s.modLine l fun e => { e with reader := f e.reader } := rfl
@[simp] theorem State.modTx_eq (s : State) (l : Line) (f : Transmitter → Transmitter) :
    s.modTx l f = s.modLine l fun e => { e with tx := f e.tx } := rfl
@[simp] theorem State.modCtl_eq (s : State) (l : Line) (f : Controller → Controller) :
    s.modCtl l f = s.modLine l fun e => { e with ctl := f e.ctl } := rfl
@[simp] theorem State.modCycle_eq (s : State) (l : Line) (f : Cycle → Cycle) :
    s.modCycle l f = s.modLine l fun e => { e with cycle := f e.cycle } := rfl
@[simp] theorem State.modSched_eq (s : State) (l : Line) (f : Schedule → Schedule) :
    s.modSched l f = s.modLine l fun e => { e with sched := f e.sched } := rfl
@[simp] theorem State.modObserver_eq (s : State) (l : Line) (f : Observer → Observer) :
    s.modObserver l f = s.modLine l fun e => { e with observer := f e.observer } := rfl

end Sys2Proof.Machine
end

