-- ==== Sys2Proof/Laws/Buffers.lean ====
section
/-! SUPPORT. What the operations of the buffer manager and of the idle count can do, each said once. -/

namespace Sys2Proof.Machine

/-! ### The buffer a search finds -/

theorem State.assembling_place {s : State} {l : Line} {b : BufIx} (h : s.assembling l = some b) :
    (s.buffer b).place = .assembling l := by
  simpa using List.find?_some h

theorem State.heldBy_place {s : State} {t : Tag} {b : BufIx} (h : s.heldBy t = some b) : (s.buffer b).place = .held t := by
  simpa using List.find?_some h

theorem State.freeBuffer_place {s : State} {b : BufIx} (h : s.freeBuffer = some b) : (s.buffer b).place = .free := by
  simpa using List.find?_some h

theorem State.assembling_eq_none {s : State} {l : Line} : s.assembling l = none ↔ ∀ b, (s.buffer b).place ≠ .assembling l := by
  simp [State.assembling, allBuffers]

theorem State.heldBy_eq_none {s : State} {t : Tag} : s.heldBy t = none ↔ ∀ b, (s.buffer b).place ≠ .held t := by
  simp [State.heldBy, allBuffers]

theorem State.freeBuffer_eq_none {s : State} : s.freeBuffer = none ↔ ∀ b, (s.buffer b).place ≠ .free := by
  simp [State.freeBuffer, allBuffers]

/-! ### Buffers that go back to the pool -/

theorem State.freeAssembling_buffer (s : State) (l : Line) (b : BufIx) :
    (s.freeAssembling l).buffer b = if s.assembling l = some b then { s.buffer b with place := .free } else s.buffer b := by
  unfold State.freeAssembling State.freeAt
  cases h : s.assembling l with
  | none => simp
  | some i =>
    by_cases hb : b = i
    · subst hb; simp
    · simp [hb, Ne.symm hb]

theorem State.freeHeld_buffer (s : State) (t : Tag) (b : BufIx) :
    (s.freeHeld t).buffer b = if s.heldBy t = some b then { s.buffer b with place := .free } else s.buffer b := by
  unfold State.freeHeld State.freeAt
  cases h : s.heldBy t with
  | none => simp
  | some i =>
    by_cases hb : b = i
    · subst hb; simp
    · simp [hb, Ne.symm hb]

/-- A returned assembly changes nothing but buffers. -/
theorem State.freeAssembling_eq (s : State) (l : Line) :
    s.freeAssembling l = { s with buffers := (s.freeAssembling l).buffers } := by
  unfold State.freeAssembling; split <;> rfl

/-- A returned payload buffer changes nothing but buffers. -/
theorem State.freeHeld_eq (s : State) (t : Tag) : s.freeHeld t = { s with buffers := (s.freeHeld t).buffers } := by
  unfold State.freeHeld; split <;> rfl

theorem State.freeAssembling_of_none {s : State} {l : Line} (h : s.assembling l = none) : s.freeAssembling l = s := by
  unfold State.freeAssembling; rw [h]

/-! ### Claims -/

/-- A granted claim takes the buffer that the search finds, and only that one changes. -/
theorem State.claimAssembly_of_free {s : State} {l : Line} {n : Nat} {m : StoreMode} {b : BufIx}
    (ha : s.assembling l = none) (hf : s.freeBuffer = some b) :
    s.claimAssembly l n m = ({ s with fresh := s.fresh + 1 }.modBuffer b fun x =>
      { x with place := .assembling l, line := l, length := n, mode := m, payload := unwritten s.fresh }, .granted) := by
  unfold State.claimAssembly; rw [State.freeAssembling_of_none ha]; simp only [hf]

/-- A denied claim raises POOL_EMPTY and counts a lost reply. -/
theorem State.claimAssembly_of_full {s : State} {l : Line} {n : Nat} {m : StoreMode}
    (ha : s.assembling l = none) (hf : s.freeBuffer = none) :
    s.claimAssembly l n m = ((s.raise .poolEmpty).countReplyLost l, .denied) := by
  unfold State.claimAssembly; rw [State.freeAssembling_of_none ha]; simp only [hf]

/-! ### The timestamp of a reply whose stop bit lasts -/

/-- A tick on such a timestamp changes nothing but what is left of the stop bit and buffers. -/
theorem State.tickStamp_eq (s : State) (l : Line) (n : Nat) :
    s.tickStamp l n = { s.modLine l fun e => { e with stamping := (s.tickStamp l n |>.line l).stamping } with
      buffers := (s.tickStamp l n).buffers } := by
  unfold State.tickStamp
  split
  · cases l <;> rfl
  · dsimp only
    split_ifs <;> cases l <;> rfl

theorem State.tickStamp_of_none {s : State} {l : Line} {n : Nat} (h : (s.line l).stamping = none) : s.tickStamp l n = s := by
  unfold State.tickStamp; rw [h]

/-- The buffer named takes the new count up to the end of the stop bit, while it is ready with that line's reply. -/
theorem State.tickStamp_buffer {s : State} {l : Line} {n : Nat} {x : OpenStamp} (h : (s.line l).stamping = some x) (b : BufIx) :
    (s.tickStamp l n).buffer b =
      if b = x.buffer ∧ n ≤ x.left ∧ (s.buffer b).place = .ready ∧ (s.buffer b).line = l then
        { s.buffer b with stamp := s.clock.timestamp } else s.buffer b := by
  unfold State.tickStamp
  rw [h]
  dsimp only
  by_cases hb : b = x.buffer
  · subst hb
    by_cases hc : n ≤ x.left ∧ (s.buffer x.buffer).place = .ready ∧ (s.buffer x.buffer).line = l
    · simp only [State.modLine_buffer, if_pos hc, true_and, State.modBuffer_buffer, if_true, State.modLine_clock]
    · simp only [State.modLine_buffer, if_neg hc, true_and]
  · split_ifs <;> simp_all

/-- With no stop bit open on this buffer its timestamp is final. -/
theorem State.settleStamp_of_final {s : State} {b : BufIx}
    (h : ∀ x, (s.line (s.buffer b).line).stamping = some x → x.buffer ≠ b) : s.settleStamp b = s := by
  unfold State.settleStamp; dsimp only
  split
  · next x hx => rw [if_neg (h x hx)]
  · rfl

/-- A settled timestamp changes nothing but buffers and what is left of a line's stop bit. -/
theorem State.settleStamp_eq (s : State) (b : BufIx) :
    ∃ f : LineEngine → Option OpenStamp, s.settleStamp b =
      { s.modLine (s.buffer b).line fun e => { e with stamping := f e } with buffers := (s.settleStamp b).buffers } := by
  unfold State.settleStamp; dsimp only
  split
  · split_ifs
    · exact ⟨fun _ => none, by cases (s.buffer b).line <;> rfl⟩
    · exact ⟨fun e => e.stamping, by cases (s.buffer b).line <;> rfl⟩
  · exact ⟨fun e => e.stamping, by cases (s.buffer b).line <;> rfl⟩

/-- No tick falls before the prescaler has counted what it lacks. -/
theorem ClockUnit.ticksIn_of_lt {c : ClockUnit} {n : Nat} (h : n < c.toTick) : c.ticksIn n = 0 := by
  simp [ClockUnit.ticksIn, h]

/-- From the first tick on, one tick falls in every period of the divider. -/
theorem ClockUnit.ticksIn_eq {c : ClockUnit} {n k : Nat} (first : c.toTick + k * (c.divider.toNat * 64) ≤ n)
    (last : n < c.toTick + (k + 1) * (c.divider.toNat * 64)) : c.ticksIn n = k + 1 := by
  have h : (n - c.toTick) / (c.divider.toNat * 64) = k :=
    Nat.div_eq_of_lt_le (by omega) (by omega)
  unfold ClockUnit.ticksIn
  rw [if_neg (by omega), h, Nat.add_comm]

/-- The samples that so many periods bring to an end: the one number of samples that covers them with less than one to spare. -/
theorem samplesIn_eq {old left m : Nat} (covers : left ≤ m * old) (tight : m * old < left + old) : samplesIn old left = m := by
  have h : 0 < old := by omega
  unfold samplesIn
  apply Nat.le_antisymm
  · exact Nat.lt_succ_iff.mp ((Nat.div_lt_iff_lt_mul h).mpr (by rw [Nat.succ_mul]; omega))
  · exact (Nat.le_div_iff_mul_le h).mpr (by omega)

/-! ### The idle count -/

@[simp] theorem Receiver.idleSample_state (r : Receiver) : r.idleSample.state = r.state := by
  unfold Receiver.idleSample; split <;> (try split) <;> rfl

@[simp] theorem Receiver.idleSample_phase (r : Receiver) : r.idleSample.phase = r.phase := by
  unfold Receiver.idleSample; split <;> (try split) <;> rfl

@[simp] theorem Receiver.idleFor_state (r : Receiver) (n : Nat) : (r.idleFor n).state = r.state := by
  unfold Receiver.idleFor; split <;> rfl

/-- A row that asserts an idle time never takes the idle count back, and puts it at that time at least (R7). -/
@[simp] theorem Receiver.idleFor_idle (r : Receiver) (n : Nat) : (r.idleFor n).idle = max r.idle n := by
  unfold Receiver.idleFor; split
  · exact (Nat.max_eq_left ‹_›).symm
  · exact (Nat.max_eq_right (Nat.le_of_not_le ‹_›)).symm

/-- Where the idle count moves, the bit time after it takes its eight samples in full (R7). -/
theorem Receiver.idleFor_afresh {r : Receiver} {n : Nat} (h : r.idle < n) :
    (r.idleFor n).idleSamples = 0 ∧ (r.idleFor n).stopTail = 0 ∧ (r.idleFor n).phase = 0 := by
  unfold Receiver.idleFor; rw [if_neg (by omega)]; exact ⟨rfl, rfl, rfl⟩

/-- Where the idle count moves, the stop bit of a stored reply is over (R115). -/
theorem LineEngine.idleFor_stamping {e : LineEngine} {n : Nat} (h : e.rx.idle < n) : (e.idleFor n).stamping = none := by
  unfold LineEngine.idleFor; exact if_neg (by omega)

/-- A sample only ever shortens what is left of the stop bit of a stored reply (R115). -/
theorem LineEngine.stampAtSample_le (e : LineEngine) {x : OpenStamp} (h : e.stampAtSample = some x) :
    ∃ y, e.stamping = some y ∧ x.buffer = y.buffer ∧ x.left ≤ y.left := by
  unfold LineEngine.stampAtSample at h
  split at h
  · exact ⟨x, h, rfl, Nat.le_refl _⟩
  · obtain ⟨y, hy, rfl⟩ := Option.map_eq_some_iff.mp h
    exact ⟨y, hy, rfl, Nat.min_le_left _ _⟩

/-- A sample of 1 never takes the idle count back, and never past its ceiling (R7). -/
theorem Receiver.idleSample_idle (r : Receiver) (h : r.idle ≤ Config.idleCeiling) :
    r.idle ≤ r.idleSample.idle ∧ r.idleSample.idle ≤ Config.idleCeiling := by
  unfold Receiver.idleSample; split <;> (try split) <;> simp only [] <;> omega

end Sys2Proof.Machine
end

