-- ==== Sys2Proof/Laws/Frame.lean ====
section
/-! SUPPORT. What the line engines, the drop table, the request unit and the buffer manager can never change, whatever they
do: the host's side of the part, the clock unit, parameters and configuration. One lemma per shared operation. -/

namespace Sys2Proof.Machine

theorem Drop.classify_config (d : Drop) (c : OutcomeClass) : (d.classify c).config = d.config := by
  unfold Drop.classify; split
  · cases c <;> rfl
  · rfl

theorem Drop.endReport_config (d : Drop) (o : TxnOutcome) (b : Bool) : (d.endReport o b).config = d.config := by
  unfold Drop.endReport; rw [Drop.classify_config]; rfl

theorem Drop.observe_config (d : Drop) (l : Line) (b : Bool) : (d.observe l b).config = d.config := by
  unfold Drop.observe; dsimp only; split <;> rfl

theorem LineEngine.modQueue_config (e : LineEngine) (p : Priority) (f : List Tag → List Tag) : (e.modQueue p f).config = e.config := by
  cases p <;> rfl

theorem EventUnit.raise_queue (b : SummaryBit) (u : EventUnit) : u.queue <+: (u.raise b).queue := by
  unfold EventUnit.raise; split <;> exact List.prefix_refl _

theorem EventUnit.raise_config (b : SummaryBit) (u : EventUnit) : (u.raise b).config = u.config := by
  unfold EventUnit.raise; split <;> rfl

theorem EventUnit.post_config (u : EventUnit) (r : EventRecord) : (u.post r).config = u.config := by
  unfold EventUnit.post EventUnit.raise; repeat' split
  all_goals rfl

theorem EventUnit.post_queue (u : EventUnit) (r : EventRecord) : u.queue <+: (u.post r).queue := by
  unfold EventUnit.post EventUnit.raise; repeat' split
  all_goals first | exact List.prefix_refl _ | exact List.prefix_append _ _

/-- A waiting reset moves nothing of a transmitter but what stops its frame, and leaves a cause met earlier (R12, log 10). -/
theorem Transmitter.haltForReset_eq (x : Transmitter) : x.haltForReset =
    { x with stop := if x.inProgress then (match x.stop with | some c => some c | none => some .reset) else x.stop } := by
  unfold Transmitter.haltForReset
  split
  · cases h : x.stop <;> rfl
  · rfl

/-! ### Slots and queues -/

/-- Slots and queues agree in every state that has the same slots, queues and transactions in hand. -/
theorem State.QueuesAgree.of_same {s t : State} (h : s.QueuesAgree) (slots : t.slots = s.slots)
    (lines : ∀ l, (t.line l).urgent = (s.line l).urgent ∧ (t.line l).normal = (s.line l).normal ∧
      (t.line l).ctl.txn = (s.line l).ctl.txn) : t.QueuesAgree := by
  have slot (g : Tag) : t.slot g = s.slot g := by unfold State.slot; rw [slots]
  have queue (l : Line) (p : Priority) : (t.line l).queueOf p = (s.line l).queueOf p := by
    cases p
    · exact (lines l).2.1
    · exact (lines l).1
  have tag (l : Line) : t.txnTag l = s.txnTag l := by unfold State.txnTag; rw [(lines l).2.2]
  refine ⟨fun l p => ?_, fun l g hg => ?_⟩
  · simp only [queue, slot]; exact h.1 l p
  · rw [slot]; exact h.2 l g (tag l ▸ hg)

/-! ### The frame, operation by operation -/

namespace Untouched

variable {s t : State}

theorem refl (s : State) : Untouched s s := by constructor <;> simp

theorem trans {s t u : State} (h : Untouched s t) (k : Untouched t u) : Untouched s u where
  events := h.events.trans k.events
  settings := k.settings.trans h.settings
  clock := k.clock.trans h.clock
  bus := k.bus.trans h.bus
  command := k.command.trans h.command
  staging := k.staging.trans h.staging
  sequence := k.sequence.trans h.sequence
  opened := k.opened.trans h.opened
  pending := k.pending.trans h.pending
  lines l := (k.lines l).trans (h.lines l)
  config d := (k.config d).trans (h.config d)

theorem foldl {α : Type} {f : State → α → State} (hf : ∀ s a, Untouched s (f s a)) (as : List α) (h : Untouched s t) :
    Untouched s (as.foldl f t) := by
  induction as generalizing t with
  | nil => exact h
  | cons a as ih => exact ih (h.trans (hf _ a))

theorem modLine (h : Untouched s t) (l : Line) (f : LineEngine → LineEngine) (hf : ∀ e, (f e).config = e.config) :
    Untouched s (t.modLine l f) := by
  refine h.trans ?_
  constructor <;> try simp
  intro l'; split <;> simp [*]

theorem modLines (h : Untouched s t) (f : Line → LineEngine → LineEngine) (hf : ∀ l e, (f l e).config = e.config) :
    Untouched s (t.modLines f) := by
  refine h.trans ?_
  constructor <;> simp [hf]

theorem modDrop (h : Untouched s t) (d : DropIx) (f : Drop → Drop) (hf : ∀ x, (f x).config = x.config) :
    Untouched s (t.modDrop d f) := by
  refine h.trans ?_
  constructor <;> try simp
  intro d'; split <;> simp [*]

theorem modDrops (h : Untouched s t) (f : Drop → Drop) (hf : ∀ x, (f x).config = x.config) :
    Untouched s (t.modDrops f) := by
  refine h.trans ?_
  constructor <;> simp [hf]

theorem modSlot (h : Untouched s t) (i : Tag) (f : Slot → Slot) : Untouched s (t.modSlot i f) := by
  refine h.trans ?_
  constructor <;> simp

theorem modBuffer (h : Untouched s t) (b : BufIx) (f : Buffer → Buffer) : Untouched s (t.modBuffer b f) := by
  refine h.trans ?_
  constructor <;> simp

theorem modEvents (h : Untouched s t) (f : EventUnit → EventUnit) (hf : ∀ u, u.queue <+: (f u).queue)
    (hc : ∀ u, (f u).config = u.config) : Untouched s (t.modEvents f) := by
  refine h.trans ?_
  constructor <;> simp [hf, hc]

theorem setReady (h : Untouched s t) (r : List BufIx) : Untouched s { t with ready := r } := by
  refine h.trans ?_
  constructor <;> intros <;> rfl

theorem setFresh (h : Untouched s t) (n : Nat) : Untouched s { t with fresh := n } := by
  refine h.trans ?_
  constructor <;> intros <;> rfl

/-! ### Events -/

theorem raise (h : Untouched s t) (b : SummaryBit) : Untouched s (t.raise b) := h.modEvents _ (EventUnit.raise_queue b) (EventUnit.raise_config b)

theorem post (h : Untouched s t) (k : EventKind) (l : Option Line) (d : Option DropIx) (g : Option Tag) (c e : Byte) :
    Untouched s (t.post k l d g c e) := h.modEvents _ (fun u => u.post_queue _) fun u => u.post_config _

theorem postDropState (h : Untouched s t) (d : DropIx) (n o : DropState) : Untouched s (t.postDropState d n o) :=
  h.post ..

theorem postRole (h : Untouched s t) (l : Line) (c : RoleCause) : Untouched s (t.postRole l c) := h.post ..

/-! ### Buffers -/

theorem freeAt (h : Untouched s t) (b : BufIx) : Untouched s (t.freeAt b) := h.modBuffer b _

theorem freeAssembling (h : Untouched s t) (l : Line) : Untouched s (t.freeAssembling l) := by
  unfold State.freeAssembling; split
  · exact h.freeAt _
  · exact h

theorem freeHeld (h : Untouched s t) (i : Tag) : Untouched s (t.freeHeld i) := by
  unfold State.freeHeld; split
  · exact h.freeAt _
  · exact h

theorem claimAssembly (h : Untouched s t) (l : Line) (n : Nat) (m : StoreMode) :
    Untouched s (t.claimAssembly l n m).1 := by
  have h := h.freeAssembling l
  unfold State.claimAssembly; dsimp only; split
  · dsimp only
    exact (h.setFresh _).modBuffer _ _
  · dsimp only [State.countReplyLost, State.modCounters_eq]
    exact (h.raise _).modLine l _ (by intro; rfl)

theorem writePayload (h : Untouched s t) (l : Line) (k : Nat) (b : Byte) : Untouched s (t.writePayload l k b) := by
  unfold State.writePayload; split
  · exact h.modBuffer _ _
  · exact h

theorem storeReady (h : Untouched s t) (b : BufIx) : Untouched s (t.storeReady b) := by
  have k := h.modBuffer b fun x => { x with place := .ready, replaced := 0 }
  unfold State.storeReady; dsimp only; split
  · exact ((k.modBuffer _ _).freeAt _).setReady _
  · exact k.setReady _
  · exact k.setReady _

theorem handOver (h : Untouched s t) (l : Line) (o : Origin) (g : Option Tag) (d : DropIx) (a x : Bool) :
    Untouched s (t.handOver l o g d a x) := by
  unfold State.handOver; split
  · exact h
  · exact ((h.modBuffer _ _).modLine l _ (by intro; rfl)).storeReady _

/-! ### Drop table -/

theorem postIfChanged (h : Untouched s t) (d : DropIx) (old : DropState) : Untouched s (t.postIfChanged d old) := by
  unfold State.postIfChanged; split
  · exact h
  · exact h.postDropState ..

theorem endReport (h : Untouched s t) (d : DropIx) (o : TxnOutcome) (b : Bool) : Untouched s (t.endReport d o b) :=
  (h.modDrop d (·.endReport o b) fun x => Drop.endReport_config x o b).postIfChanged ..

theorem observation (h : Untouched s t) (d : DropIx) (l : Line) (b : Bool) : Untouched s (t.observation d l b) :=
  (h.modDrop d (·.observe l b) fun x => Drop.observe_config x l b).postIfChanged ..

theorem attemptReport (h : Untouched s t) (d : DropIx) (o : TxnOutcome) (g a x : Bool) :
    Untouched s (t.attemptReport d o g a x) := by
  have k := h.modDrop d (fun x => { x with stats := x.stats.attempt o }) (by intro; rfl)
  unfold State.attemptReport; dsimp only; split
  · split
    · exact k
    · exact k.post ..
    · split
      · exact k
      · exact k.modDrop d _ (by intro; rfl)
  · exact k

theorem staleReport (h : Untouched s t) (d : DropIx) : Untouched s (t.staleReport d) := h.modDrop d _ (by intro; rfl)

/-! ### Requests -/

theorem unqueue (h : Untouched s t) (i : Tag) : Untouched s (t.unqueue i) :=
  h.modLine _ _ fun e => LineEngine.modQueue_config e _ _

theorem complete (h : Untouched s t) (i : Tag) (o : TxnOutcome) (n : Nat) (b : Bool) : Untouched s (t.complete i o n b) :=
  ((h.modSlot i _).freeHeld i).post ..

theorem completeQueued (h : Untouched s t) (i : Tag) (o : TxnOutcome) : Untouched s (t.completeQueued i o) :=
  (h.unqueue i).complete ..

theorem completeAll (h : Untouched s t) (l : Line) (w : Slot → Bool) (o : TxnOutcome) :
    Untouched s (t.completeAll l w o) :=
  h.foldl (fun s i => (refl s).completeQueued i o) _

theorem putBack (h : Untouched s t) (i : Tag) (n : Nat) : Untouched s (t.putBack i n) :=
  (h.modSlot i _).modLine _ _ fun e => LineEngine.modQueue_config e _ _

/-! ### Cycles and the start of work -/

theorem postCycleDone (h : Untouched s t) (l : Line) (b : Bool) : Untouched s (t.postCycleDone l b) := by
  unfold State.postCycleDone; dsimp only; split
  · exact h.post ..
  · exact h

theorem endCycle (h : Untouched s t) (l : Line) : Untouched s (t.endCycle l) := by
  unfold State.endCycle
  exact postCycleDone (h.modLine l _ (by intro; rfl)) ..

theorem abandonCycle (h : Untouched s t) (l : Line) : Untouched s (t.abandonCycle l) := by
  unfold State.abandonCycle; split
  · exact postCycleDone (h.modLine l _ (by intro; rfl)) ..
  · exact h

theorem swapBanks (h : Untouched s t) (l : Line) : Untouched s (t.swapBanks l) := by
  unfold State.swapBanks
  exact post (h.modLine l _ (by intro; rfl)) ..

theorem startCycle (h : Untouched s t) (l : Line) : Untouched s (t.startCycle l) := by
  have k := h.modLine l (fun e => { e with cycle := { e.cycle with owed := false } }) (by intro; rfl)
  unfold State.startCycle; dsimp only; split
  · exact modLine (k.swapBanks l) l _ (by intro; rfl)
  · exact modLine k l _ (by intro; rfl)

theorem enterGuard (h : Untouched s t) (l : Line) (x : Txn) : Untouched s (t.enterGuard l x) := by
  unfold State.enterGuard
  exact h.modLine l _ (by intro; rfl)

theorem countPerformed (h : Untouched s t) (l : Line) : Untouched s (t.countPerformed l) := by
  unfold State.countPerformed
  exact h.modLine l _ (by intro; rfl)

theorem countSkippedInvalid (h : Untouched s t) (l : Line) : Untouched s (t.countSkippedInvalid l) := by
  unfold State.countSkippedInvalid
  exact h.modLine l _ (by intro; rfl)

theorem countSkippedOffline (h : Untouched s t) (l : Line) : Untouched s (t.countSkippedOffline l) := by
  unfold State.countSkippedOffline
  exact h.modLine l _ (by intro; rfl)

theorem startPause (h : Untouched s t) (l : Line) (n : Nat) : Untouched s (t.startPause l n) := by
  unfold State.startPause
  exact modLine (h.countPerformed l) l _ (by intro; rfl)

theorem startRequest (h : Untouched s t) (l : Line) (i : Tag) : Untouched s (t.startRequest l i) := by
  unfold State.startRequest; dsimp only
  exact enterGuard ((h.unqueue i).modSlot i _) ..

theorem walkBank (n : Nat) (l : Line) (h : Untouched s t) : Untouched s (Machine.walkBank n l t) := by
  induction n generalizing t with
  | zero => exact h.endCycle l
  | succ n ih =>
    have k := h.modLine l (fun e => { e with cycle := { e.cycle with walk := e.cycle.walk + 1 } }) (by intro; rfl)
    unfold Machine.walkBank; dsimp only; split
    · exact h.endCycle l
    · split
      · exact k.enterGuard ..
      · exact k.startPause ..
      · split
        · exact ih (k.countSkippedInvalid l)
        · split
          · exact ih (k.countSkippedOffline l)
          · exact k.enterGuard ..

theorem scheduleStep (h : Untouched s t) (l : Line) : Untouched s (t.scheduleStep l) := by
  unfold State.scheduleStep; split
  · exact h.walkBank ..
  · exact h

theorem cycleStep (h : Untouched s t) (l : Line) : Untouched s (t.cycleStep l) := by
  unfold State.cycleStep; split
  · exact (h.startCycle l).scheduleStep l
  · exact h

theorem normalStep (h : Untouched s t) (l : Line) : Untouched s (t.normalStep l) := by
  unfold State.normalStep; split
  · exact h
  · exact startRequest (h.modLine l _ (by intro; rfl)) ..

/-- The work selection (R84, R85). -/
theorem select (h : Untouched s t) (l : Line) : Untouched s (t.select l) := by
  unfold State.select; split
  · exact h
  · split
    · exact h.startRequest ..
    · split
      · exact enterGuard (h.modDrop _ _ (by intro; rfl)) ..
      · have h2 : Untouched s (if ((t.scheduleStep l).line l).atBoundary then (t.scheduleStep l).cycleStep l
            else t.scheduleStep l) := by
          split
          · exact (h.scheduleStep l).cycleStep l
          · exact h.scheduleStep l
        dsimp only
        generalize (if ((t.scheduleStep l).line l).atBoundary then (t.scheduleStep l).cycleStep l
            else t.scheduleStep l) = u at h2 ⊢
        split
        · exact h2.normalStep l
        · exact h2

/-! ### The end of a transaction and of an attempt -/

theorem countEntry (h : Untouched s t) (l : Line) (x : Txn) (o : TxnOutcome) : Untouched s (t.countEntry l x o) := by
  unfold State.countEntry; split
  · split
    · exact h.countPerformed l
    · split
      · exact h.countSkippedInvalid l
      · exact h
  · exact h

theorem reportEnd (h : Untouched s t) (x : Txn) (o : TxnOutcome) : Untouched s (t.reportEnd x o) := by
  unfold State.reportEnd; split
  · exact h.endReport ..
  · exact h

theorem completeTxn (h : Untouched s t) (x : Txn) (o : TxnOutcome) : Untouched s (t.completeTxn x o) := by
  unfold State.completeTxn; split
  · exact h.complete ..
  all_goals exact h

/-- The end of a transaction, or its request put back (R59). -/
theorem finishTxn (h : Untouched s t) (l : Line) : Untouched s (t.finishTxn l) := by
  unfold State.finishTxn; split
  · exact h.modLine l _ (by intro; rfl)
  · split
    · exact putBack (h.modLine l _ (by intro; rfl)) _ _
    · exact modLine (((h.countEntry ..).reportEnd ..).completeTxn ..) l _ (by intro; rfl)

theorem earlyEnd (h : Untouched s t) (l : Line) : Untouched s (t.earlyEnd l) := by
  unfold State.earlyEnd; split <;> first | exact h.finishTxn l | exact h

theorem declareError (h : Untouched s t) (l : Line) : Untouched s (t.declareError l) := by
  unfold State.declareError State.flushReader; split
  · exact h.modLine l _ (by intro; rfl)
  · exact h

theorem abandonFrame (h : Untouched s t) (l : Line) : Untouched s (t.abandonFrame l) :=
  (h.declareError l).freeAssembling l

theorem startStandby (h : Untouched s t) (l : Line) : Untouched s (t.startStandby l) := by
  unfold State.startStandby
  exact h.modLine l _ (by intro; rfl)

theorem setRole (h : Untouched s t) (l : Line) (r : Role) : Untouched s (t.modLine l fun e => { e with role := r }) :=
  h.modLine l _ (by intro; rfl)

/-- Demotion (R131). -/
theorem demote (h : Untouched s t) (l : Line) : Untouched s (t.demote l) :=
  ((((((h.setRole l .standby).postRole ..).raise _).finishTxn l).abandonCycle l).abandonFrame l).startStandby l

/-- The end of a yield (R130). -/
theorem endYield (h : Untouched s t) (l : Line) : Untouched s (t.endYield l) :=
  (((((h.earlyEnd l).setRole l .standby).postRole ..).abandonCycle l).abandonFrame l).startStandby l

/-- The end of a stop (R130). -/
theorem endStop (h : Untouched s t) (l : Line) : Untouched s (t.endStop l) :=
  (((((h.earlyEnd l).setRole l .off).postRole ..).abandonCycle l).freeAssembling l).modLine l _ (by intro; rfl)

theorem meetContention (h : Untouched s t) (l : Line) : Untouched s (t.meetContention l) := by
  have k : Untouched s (t.countContention l) := by
    unfold State.countContention
    exact h.modLine l _ (by intro; rfl)
  unfold State.meetContention; dsimp only; split
  · exact k.demote l
  · exact k

theorem afterAttempt (h : Untouched s t) (l : Line) (o : TxnOutcome) : Untouched s (t.afterAttempt l o) := by
  unfold State.afterAttempt; split
  · exact h
  · split
    · split
      · unfold State.enterBackoff
        exact h.modLine l _ (by intro; rfl)
      · exact h.enterGuard ..
    · exact (h.finishTxn l).select l

theorem reportAttempt (h : Untouched s t) (x : Txn) (o : TxnOutcome) (a : Bool) : Untouched s (t.reportAttempt x o a) := by
  have k : Untouched s (t.reportToDrop x o a) := by
    unfold State.reportToDrop; split
    · exact h.attemptReport ..
    · exact h
  unfold State.reportAttempt State.reportToSlot; split
  · exact k.modSlot _ _
  all_goals exact k

/-- The end of an attempt (R57, R58). -/
theorem endAttempt (h : Untouched s t) (l : Line) (o : TxnOutcome) : Untouched s (t.endAttempt l o) := by
  unfold State.endAttempt; split
  · exact h
  · rename_i x _
    have k := reportAttempt (modLine (h.freeAssembling l) l
      (fun e => { e with ctl := { e.ctl with txn := some (x.withAttempt o (t.line l).ctl.reply), window := .none,
                                             deciding := false } }) (by intro; rfl))
      (x.withAttempt o (t.line l).ctl.reply) o (t.line l).ctl.reply.attention
    dsimp only [State.modCtl_eq]
    revert k
    generalize State.reportAttempt _ _ _ _ = u
    intro k
    split
    · split
      · exact (k.meetContention l).afterAttempt ..
      · exact k.meetContention l
    · exact k.afterAttempt ..

/-! ### Roles -/

theorem startReceiver (h : Untouched s t) (l : Line) : Untouched s (t.startReceiver l) := by
  unfold State.startReceiver
  exact h.modLine l _ (by intro; rfl)

theorem leaveRole (h : Untouched s t) (l : Line) : Untouched s (t.leaveRole l) := by
  unfold State.leaveRole; split
  · exact modLine (h.abandonFrame l) l _ (by intro; rfl)
  · exact h.startReceiver l
  all_goals exact h

/-- Becoming MASTER (R128). -/
theorem becomeMaster (h : Untouched s t) (l : Line) (c : RoleCause) : Untouched s (t.becomeMaster l c) := by
  unfold State.becomeMaster; dsimp only
  exact select (postRole (modLine (h.leaveRole l) l _ (by intro; rfl)) ..) l

theorem becomeStandby (h : Untouched s t) (l : Line) : Untouched s (t.becomeStandby l) := by
  unfold State.becomeStandby; dsimp only
  exact postRole (modLine (h.startReceiver l) l _ (by intro; rfl)) ..

theorem beginYield (h : Untouched s t) (l : Line) : Untouched s (t.beginYield l) := by
  have k := (h.setRole l .yielding).postRole l .command
  unfold State.beginYield; dsimp only; split
  · exact k
  · exact k.endYield l

theorem beginStop (h : Untouched s t) (l : Line) : Untouched s (t.beginStop l) := by
  have k := ((h.setRole l .stopping).postRole l .command).completeAll l (fun _ => true) .lineStopped
  unfold State.beginStop; dsimp only; split
  · exact k
  · exact k.endStop l

theorem stopStandby (h : Untouched s t) (l : Line) : Untouched s (t.stopStandby l) := by
  unfold State.stopStandby; dsimp only
  exact postRole (modLine ((h.freeAssembling l).completeAll l _ _) l _ (by intro; rfl)) ..

theorem takeSilence (h : Untouched s t) (l : Line) : Untouched s (t.takeSilence l) := by
  unfold State.takeSilence; split
  · have k := post (modLine h l (fun e => { e with silence := { e.silence with flag := true, due := false } })
      (by intro; rfl)) .lineSilent (some l) none none 0 0
    dsimp only; split
    · exact k.becomeMaster ..
    · exact k
  · exact h

theorem resetActive (h : Untouched s t) (l : Line) : Untouched s (t.resetActive l) := by
  unfold State.resetActive; split
  · exact h.complete ..
  · exact h

/-- A line reset taking effect (R139). -/
theorem resetLine (h : Untouched s t) (l : Line) : Untouched s (t.resetLine l) := by
  have k := (((h.resetActive l).completeAll l (fun _ => true) .lineReset).freeAssembling l).modDrops (·.lineReset l)
    (fun x => by unfold Drop.lineReset; split <;> rfl)
  unfold State.resetLine State.resetRequests; dsimp only; split
  · exact modLine k l _ (by intro; rfl)
  · exact postRole (modLine k l _ (by intro; rfl)) ..

/-! ### The consumers of the frame reader -/

theorem ctlUpdate (h : Untouched s t) (l : Line) (f : Controller → Controller) : Untouched s (t.modCtl l f) := by
  rw [State.modCtl_eq]
  exact h.modLine l _ (by intro; rfl)

theorem observerUpdate (h : Untouched s t) (l : Line) (f : Observer → Observer) : Untouched s (t.modObserver l f) := by
  rw [State.modObserver_eq]
  exact h.modLine l _ (by intro; rfl)

theorem counters (h : Untouched s t) (l : Line) (f : LineCounters → LineCounters) : Untouched s (t.modCounters l f) := by
  rw [State.modCounters_eq]
  exact h.modLine l _ (by intro; rfl)

theorem txUpdate (h : Untouched s t) (l : Line) (f : Transmitter → Transmitter) : Untouched s (t.modTx l f) := by
  rw [State.modTx_eq]
  exact h.modLine l _ (by intro; rfl)

theorem rxUpdate (h : Untouched s t) (l : Line) (f : Receiver → Receiver) : Untouched s (t.modRx l f) := by
  rw [State.modRx_eq]
  exact h.modLine l _ (by intro; rfl)

theorem readerUpdate (h : Untouched s t) (l : Line) (f : Reader → Reader) : Untouched s (t.modReader l f) := by
  rw [State.modReader_eq]
  exact h.modLine l _ (by intro; rfl)

theorem faultReply (h : Untouched s t) (l : Line) (o : TxnOutcome) : Untouched s (t.faultReply l o) := by
  unfold State.faultReply State.discard
  exact (h.declareError l).ctlUpdate l _

theorem quietReport (h : Untouched s t) (l : Line) (r : ReaderReport) : Untouched s (t.quietReport l r) := by
  unfold State.quietReport State.countUnsolicited
  cases r <;> dsimp only <;> try exact h
  · split
    · exact h.counters ..
    · exact h.meetContention l
  · split
    · exact h.counters ..
    · exact h
  · exact h.counters ..

theorem awaitReport (h : Untouched s t) (l : Line) (r : ReaderReport) : Untouched s (t.awaitReport l r) := by
  unfold State.awaitReport State.countUnsolicited State.countStale State.discard
  cases r <;> dsimp only <;> try exact h
  · split
    · exact h.endAttempt ..
    · split
      · exact h.ctlUpdate ..
      · exact (h.counters ..).ctlUpdate ..
  · split
    · exact h.ctlUpdate ..
    · exact (h.counters ..).ctlUpdate ..
  · exact h.counters ..

theorem receiveControl (h : Untouched s t) (l : Line) (b : Byte) : Untouched s (t.receiveControl l b) := by
  unfold State.receiveControl State.countStale State.discard; split
  · dsimp only; split
    · exact ((h.counters ..).staleReport _).ctlUpdate ..
    · exact (h.counters ..).ctlUpdate ..
  · dsimp only; split
    · split
      · exact (h.ctlUpdate ..).ctlUpdate ..
      · exact (h.ctlUpdate ..).faultReply ..
    · exact (h.ctlUpdate ..).faultReply ..

theorem receiveLength (h : Untouched s t) (l : Line) (n : Nat) : Untouched s (t.receiveLength l n) := by
  have k := h.ctlUpdate l fun c => { c with reply := { c.reply with length := n } }
  unfold State.receiveLength; dsimp only
  split
  · exact k
  · split
    · split
      · exact k
      · exact (k.claimAssembly ..).ctlUpdate ..
    · exact k.faultReply ..

theorem receiveComplete (h : Untouched s t) (l : Line) : Untouched s (t.receiveComplete l) := by
  unfold State.receiveComplete; dsimp only
  split
  · exact h
  · split
    · exact h.endAttempt ..
    · split
      · exact h.endAttempt ..
      · exact (h.handOver ..).endAttempt ..
      · exact (h.post ..).endAttempt ..

theorem receiveReport (h : Untouched s t) (l : Line) (r : ReaderReport) : Untouched s (t.receiveReport l r) := by
  unfold State.receiveReport; split
  · exact h.receiveControl ..
  · exact h.receiveLength ..
  · split
    · exact h.writePayload ..
    · exact h
  · exact h.receiveComplete l
  · exact h.endAttempt ..
  · exact h.ctlUpdate ..
  all_goals exact h

theorem discardReport (h : Untouched s t) (l : Line) (r : ReaderReport) : Untouched s (t.discardReport l r) := by
  have k : Untouched s (t.discardEnd l) := by
    unfold State.discardEnd; split
    · exact h.endAttempt ..
    · split
      · exact h.endAttempt ..
      · exact h.ctlUpdate ..
  unfold State.discardReport; split <;> first | exact k | exact h

/-- A report to the transaction controller, in whatever state it is (chapter 3). -/
theorem controllerReport (h : Untouched s t) (l : Line) (r : ReaderReport) : Untouched s (t.controllerReport l r) := by
  unfold State.controllerReport; split
  all_goals first
    | exact h.quietReport .. | exact h.awaitReport .. | exact h.receiveReport .. | exact h.discardReport ..
    | exact h.ctlUpdate ..

theorem forgetCall (h : Untouched s t) (l : Line) : Untouched s (t.forgetCall l) := h.observerUpdate ..

theorem observeStart (h : Untouched s t) (l : Line) (b : Byte) : Untouched s (t.observeStart l b) := by
  unfold State.observeStart; dsimp only; repeat' split
  all_goals exact h.observerUpdate ..

theorem observeControl (h : Untouched s t) (l : Line) (b : Byte) : Untouched s (t.observeControl l b) := by
  unfold State.observeControl; dsimp only; repeat' split
  all_goals first | exact h.observerUpdate .. | exact h

theorem observeLength (h : Untouched s t) (l : Line) (n : Nat) : Untouched s (t.observeLength l n) := by
  unfold State.observeLength; split
  · exact h.observerUpdate ..
  · dsimp only; split
    · exact h.observerUpdate ..
    · split
      · exact h.observerUpdate ..
      · exact ((h.observerUpdate ..).claimAssembly ..).observerUpdate ..
  · split
    · exact h.observerUpdate ..
    · exact (h.declareError l).observerUpdate ..
  all_goals exact h

theorem observeCall (h : Untouched s t) (l : Line) (a : BitVec 7) (c : Byte) (n : Nat) :
    Untouched s (t.observeCall l a c n) := by
  unfold State.observeCall; dsimp only; split
  · exact h.modLine l _ (by intro; rfl)
  · exact h.forgetCall l

theorem observeSuccess (h : Untouched s t) (l : Line) (c : ObservedCall) (a : Bool) :
    Untouched s (t.observeSuccess l c a) := by
  unfold State.observeSuccess; dsimp only; split
  · exact (h.observation ..).forgetCall l
  · exact ((h.handOver ..).observation ..).forgetCall l
  · exact ((h.post ..).observation ..).forgetCall l

theorem observeUnmatchedEnd (h : Untouched s t) (l : Line) : Untouched s (t.observeUnmatchedEnd l) := by
  unfold State.observeUnmatchedEnd; split
  · exact h.forgetCall l
  · exact h.observerUpdate ..

theorem observeComplete (h : Untouched s t) (l : Line) : Untouched s (t.observeComplete l) := by
  unfold State.observeComplete; dsimp only; repeat' split
  all_goals first
    | exact h.observeCall .. | exact h.observeSuccess .. | exact h.forgetCall l | exact h.observeUnmatchedEnd l
    | exact h.observerUpdate ..

theorem observePayload (h : Untouched s t) (l : Line) (k : Nat) (b : Byte) : Untouched s (t.observePayload l k b) := by
  unfold State.observePayload; dsimp only; split
  · exact h.writePayload ..
  all_goals exact h

/-- A report to the standby observer (7.4). -/
theorem observerReport (h : Untouched s t) (l : Line) (r : ReaderReport) : Untouched s (t.observerReport l r) := by
  unfold State.observerReport State.observeGap State.observeFault State.observeClosed; repeat' split
  all_goals first
    | exact h | exact h.observeStart .. | exact h.observeControl .. | exact h.observeLength .. | exact h.observePayload ..
    | exact h.observeComplete l | exact h.forgetCall l | exact h.observeUnmatchedEnd l | exact h.observerUpdate ..
    | exact (h.freeAssembling l).forgetCall l

/-- A report to the consumer that the role names (R6). -/
theorem deliver (h : Untouched s t) (l : Line) (r : ReaderReport) : Untouched s (t.deliver l r) := by
  unfold State.deliver; split
  all_goals first | exact h.controllerReport .. | exact h.observerReport .. | exact h

theorem passKept (h : Untouched s t) (l : Line) : Untouched s (t.passKept l) := by
  unfold State.passKept; dsimp only; split
  · exact foldl (fun s r => (refl s).controllerReport l r) _ (h.ctlUpdate ..)
  · exact h.ctlUpdate ..

/-- A character to the frame reader and its consumer (R15). -/
theorem readChar (h : Untouched s t) (l : Line) (c : RxChar) : Untouched s (t.readChar l c) := by
  unfold State.readChar; dsimp only; split
  · exact (h.readerUpdate ..).deliver ..
  · exact h.readerUpdate ..

theorem settleWait (h : Untouched s t) (l : Line) : Untouched s (t.settleWait l) := by
  unfold State.settleWait; dsimp only; repeat' split
  all_goals first
    | exact h.endAttempt .. | exact (h.observerUpdate ..).forgetCall l | exact h.observerUpdate .. | exact h

theorem routeChar (h : Untouched s t) (l : Line) (c : RxChar) : Untouched s (t.routeChar l c) := by
  unfold State.routeChar; dsimp only; split
  · exact h.txUpdate ..
  · exact (h.txUpdate ..).readChar ..

/-- A delivered character (R5). -/
theorem receiveChar (h : Untouched s t) (l : Line) (c : RxChar) : Untouched s (t.receiveChar l c) := by
  have k : Untouched s (if c.noisy then t.countNoise l else t) := by
    unfold State.countNoise; split
    · exact h.counters ..
    · exact h
  unfold State.receiveChar; dsimp only
  generalize (if c.noisy then t.countNoise l else t) = u at k ⊢
  split
  · exact settleWait (routeChar (modLine k l _ (by intro; rfl)) ..) l
  · unfold State.restartSilence
    exact settleWait (routeChar (modLine (modLine k l _ (by intro; rfl)) l _ (by intro; rfl)) ..) l

end Untouched

end Sys2Proof.Machine
end

