-- ==== Sys2Proof/Laws/Selection.lean ====
section
/-! SUPPORT. The work selection neither reads nor writes the command unit: it gives the same with another command unit in place,
so that a command that ends with a selection may be completed before or after it. -/

namespace Sys2Proof.Laws

open Sys2Proof Sys2Proof.Machine

/-- The state with this command unit. -/
def withCommand (c : CommandUnit) (s : State) : State :=
  { s with command := c }

variable (c : CommandUnit) (s : State) (l : Line)

theorem line_withCommand : (withCommand c s).line l = s.line l := by cases l <;> rfl

theorem drop_withCommand (d : DropIx) : (withCommand c s).drop d = s.drop d := rfl

theorem slot_withCommand (t : Tag) : (withCommand c s).slot t = s.slot t := rfl

theorem modDrop_withCommand (d : DropIx) (f : Drop → Drop) :
    (withCommand c s).modDrop d f = withCommand c (s.modDrop d f) := rfl

theorem modSlot_withCommand (t : Tag) (f : Slot → Slot) :
    (withCommand c s).modSlot t f = withCommand c (s.modSlot t f) := rfl

theorem modLine_withCommand (f : LineEngine → LineEngine) :
    (withCommand c s).modLine l f = withCommand c (s.modLine l f) := by cases l <;> rfl

theorem enterGuard_withCommand (t : Txn) : (withCommand c s).enterGuard l t = withCommand c (s.enterGuard l t) := by
  cases l <;> rfl

theorem startPause_withCommand (n : Nat) : (withCommand c s).startPause l n = withCommand c (s.startPause l n) := by
  cases l <;> rfl

theorem countSkippedInvalid_withCommand :
    (withCommand c s).countSkippedInvalid l = withCommand c (s.countSkippedInvalid l) := by cases l <;> rfl

theorem countSkippedOffline_withCommand :
    (withCommand c s).countSkippedOffline l = withCommand c (s.countSkippedOffline l) := by cases l <;> rfl

theorem endCycle_withCommand : (withCommand c s).endCycle l = withCommand c (s.endCycle l) := by
  unfold State.endCycle State.postCycleDone State.modCycle
  simp only [modLine_withCommand, line_withCommand]
  split <;> rfl

theorem walkBank_withCommand (n : Nat) : ∀ s : State, walkBank n l (withCommand c s) = withCommand c (walkBank n l s) := by
  induction n with
  | zero => exact fun s => endCycle_withCommand c s l
  | succ n ih =>
    intro s
    simp only [walkBank, line_withCommand, State.modCycle, modLine_withCommand, drop_withCommand, State.startSync,
      State.startPoll, enterGuard_withCommand, startPause_withCommand, countSkippedInvalid_withCommand,
      countSkippedOffline_withCommand, endCycle_withCommand, ih, ← apply_ite (withCommand c)]
    split
    · rfl
    · split <;> rfl

theorem startRequest_withCommand (t : Tag) : (withCommand c s).startRequest l t = withCommand c (s.startRequest l t) := by
  rw [State.startRequest, State.startRequest, show (withCommand c s).requestRetry t = s.requestRetry t from rfl]
  simp only [State.unqueue, slot_withCommand, drop_withCommand, modLine_withCommand, modSlot_withCommand, enterGuard_withCommand]

theorem startCycle_withCommand : (withCommand c s).startCycle l = withCommand c (s.startCycle l) := by
  unfold State.startCycle State.modCycle
  simp only [modLine_withCommand, line_withCommand]
  split <;> cases l <;> rfl

theorem scheduleStep_withCommand : (withCommand c s).scheduleStep l = withCommand c (s.scheduleStep l) := by
  simp only [State.scheduleStep, line_withCommand, walkBank_withCommand, apply_ite (withCommand c)]

theorem cycleStep_withCommand : (withCommand c s).cycleStep l = withCommand c (s.cycleStep l) := by
  simp only [State.cycleStep, line_withCommand, startCycle_withCommand, scheduleStep_withCommand, apply_ite (withCommand c)]

theorem normalStep_withCommand : (withCommand c s).normalStep l = withCommand c (s.normalStep l) := by
  unfold State.normalStep
  simp only [line_withCommand, modLine_withCommand, startRequest_withCommand]
  split <;> rfl

/-- The work selection with another command unit in place (R84, R85). -/
theorem select_command : { s with command := c }.select l = { s.select l with command := c } := by
  change (withCommand c s).select l = withCommand c (s.select l)
  unfold State.select
  rw [show (withCommand c s).extraPollDrop l = s.extraPollDrop l from rfl]
  simp only [line_withCommand, startRequest_withCommand, scheduleStep_withCommand]
  split
  · rfl
  · split
    · rfl
    · split
      · simp only [State.startPoll, modDrop_withCommand, drop_withCommand, enterGuard_withCommand]
      · simp only [line_withCommand, cycleStep_withCommand, normalStep_withCommand, ← apply_ite (withCommand c)]

end Sys2Proof.Laws
end

