-- ==== Sys2Proof/Tests/Slice0.lean ====
section
/-! SUPPORT. Small tests of the model: the ill-formed terms, one step of the commands on small states, and, for the
statements that have hypotheses, states and operands that meet them. -/

namespace Sys2Proof.Tests

open Sys2Proof.Machine

/-! ### States the tests are about -/

/-- The next state of an outcome. -/
def after (o : Host.Outcome State Fault Refusal) : State :=
  match o with
  | .next t => t
  | .fault _ => .reset
  | .refused _ => .reset

/-- A state with its argument registers at these bytes. -/
def withArgs (a0 a1 : Byte) (s : State) : State :=
  { s with bus := { s.bus with arg0 := a0, arg1 := a1 } }

/-- The reset state with line A's engine changed. -/
def lineA (f : LineEngine → LineEngine) : State :=
  State.reset.setLine .a (f .reset)

/-- A line in a role with its controller in a state and a transaction in hand. -/
def engaged (r : Role) (c : CtlState) (x : Option Txn) (e : LineEngine) : LineEngine :=
  { e with role := r, ctl := { e.ctl with state := c, txn := x } }

/-- A schedule POLL of drop 4, address 5. -/
def pollOf4 : Txn :=
  { source := .schedule, drop := some 4, address := 5, kind := .poll, retry := 2, attempts := 0, lastOutcome := .none
    lastLength := 0, lastStored := false }

/-- A SYNC. -/
def aSync : Txn :=
  { pollOf4 with source := .sync, drop := none, address := 127, kind := .sync, retry := 0 }

/-- The state with an access-port object selected at an offset. -/
def atObject (o : ObjectSel) (k : Nat) (s : State) : State :=
  { s with bus := { s.bus with selected := some o, offset := k, snapshot := s.objectBytes o } }

/-- The state with drop 4 in a drop state. -/
def drop4 (x : DropState) (s : State) : State :=
  s.setDrop 4 { s.drop 4 with state := x }

/-- A staged request for drop 4. -/
def staged (drop kind priority length : Byte) (s : State) : State :=
  { s with staging := { s.staging with drop, kind, priority, length } }

/-- A CYCLE_DONE record with this stamp. -/
def aRecord (stamp : Stamp) : EventRecord :=
  { kind := .cycleDone, line := some .a, drop := none, tag := none, code := 0, detail := 0, stamp }

/-- Equal samples of one bit. -/
def steady (b : Bool) : Vote :=
  { s3 := b, s4 := b, s5 := b }

/-- The samples of a character without noise. -/
def samplesOf (b : Byte) (mark stop : Bool) : CharSamples :=
  { start := steady false
    data := #v[steady (b.getLsbD 0), steady (b.getLsbD 1), steady (b.getLsbD 2), steady (b.getLsbD 3),
      steady (b.getLsbD 4), steady (b.getLsbD 5), steady (b.getLsbD 6), steady (b.getLsbD 7)]
    mark := steady mark, stop := steady stop }

/-! ### Ill-formed terms, and the terms of the host's rows -/

theorem test_wf_refuses_badCommand_with_a_code_of_the_table :
    (Instr.badCommand 0x60).wf = false ∧ (Instr.badCommand 0x61).wf = true := by decide

theorem test_wf_refuses_registerWrite_to_a_register_with_its_own_row :
    (Instr.registerWrite 0x02 0).wf = false ∧ (Instr.registerWrite 0x03 0).wf = true := by decide

theorem test_wf_refuses_falseStart_with_majority_0 :
    (Instr.falseStart .a ⟨true, true, false, false⟩).wf = false ∧ (Instr.falseStart .a ⟨true, true, false, true⟩).wf = true := by decide

theorem test_wf_refuses_character_with_start_majority_1 :
    (Instr.characterReceived .b { samplesOf 0 true true with start := ⟨true, true, false⟩ }).wf = false ∧
      (Instr.characterReceived .b (samplesOf 0 true true)).wf = true := by decide

theorem test_no_word_spells_a_command : decodeTableWord 8 0x01 = none ∧ State.reset.withFetchWord 8 1 = State.reset := by
  decide

/-! ### One step of the commands -/

theorem test_check_byte_of_the_worked_poll : checkByte [0x05, 0x04, 0x00] = 0xF6 := by decide

theorem test_deviceReset_releases_irq :
    (after (exec .deviceReset { State.reset with irqPin := false, opened := true })) = State.reset := by decide

theorem test_badCommand :
    (after (exec (.badCommand 0x77) State.reset)).readRegister 0x05 = 0x04 ∧
      (after (exec (.badCommand 0x77) State.reset)).readRegister 0x07 = 0x01 := by decide

theorem test_dropEnable :
    ((after (exec .dropEnable (withArgs 4 0 .reset))).drop 4).state = .unknown ∧
      (after (exec .dropEnable (withArgs 4 0 .reset))).readRegister 0x14 = 4 := by decide

theorem test_dropDisable :
    ((after (exec .dropDisable (withArgs 4 0 (drop4 .suspect .reset)))).drop 4).state = .disabled ∧
      (after (exec .dropDisable (withArgs 4 0 (drop4 .suspect .reset)))).readRegister 0x17 = 3 := by decide

theorem test_lineStart :
    ((after (exec .lineStart .reset)).line .a).role = .master ∧
      (after (exec .lineStart .reset)).readRegister 0x06 = 2 := by decide

theorem test_lineStandby_of_a_master_with_an_attempt :
    ((after (exec .lineStandby (lineA (engaged .master .await (some pollOf4))))).line .a).role = .yielding := by decide

theorem test_lineStop_of_a_standby :
    ((after (exec .lineStop (lineA (engaged .standby .idle none)))).line .a).role = .off := by decide

theorem test_submit_takes_slot_0 :
    ((after (exec .submit (staged 4 1 1 0 (drop4 .online (lineA (engaged .standby .idle none)))))).slot 0).state = .queued ∧
      ((after (exec .submit (staged 4 1 1 0 (drop4 .online (lineA (engaged .standby .idle none)))))).line .a).urgent = [0] := by
  decide

theorem test_retire :
    ((after (exec .retire (withArgs 3 0 (State.reset.setSlot 3 { Slot.reset with state := .done })))).slot 3).state = .free := by
  decide

theorem test_abort_of_a_free_slot_is_refused : (after (exec .abort .reset)).command.refusal = .notAbortable := by decide

theorem test_schedSwap_at_once :
    ((after (exec .schedSwap .reset)).line .a).sched.active = true ∧
      (after (exec .schedSwap .reset)).readRegister 0x12 = 7 := by decide

theorem test_triggerCycle :
    ((after (exec .triggerCycle (lineA (engaged .master .await (some pollOf4))))).line .a).cycle.owed = true := by decide

theorem test_summaryClear_needs_a_read :
    (after (exec (.summaryClear 0x01) { State.reset with events := { EventUnit.reset with summary := 0x01 } })).events.summary
        = 0x01 ∧
      (after (exec (.summaryClear 0x01)
        { State.reset with events := { EventUnit.reset with summary := 0x01, snapshot := 0x01 } })).events.summary = 0 := by
  decide

theorem test_timestampRead :
    (after (exec .timestampRead { State.reset with clock := { ClockUnit.reset with timestamp := 0x12345678 } })).bus.data
        = 0x78 ∧
      (after (exec .timestampRead { State.reset with clock := { ClockUnit.reset with timestamp := 0x12345678 } })).readRegister
        0x2F = 0x12 := by decide

theorem test_accessDataWrite_of_a_drop_address :
    ((after (exec (.accessDataWrite 0x11) (atObject (.drop 4) 0 .reset))).drop 4).address = 0x11 := by decide

theorem test_tickDivider_commit :
    (after (exec (.tickDividerWrite .iosc 0x40) { State.reset with
      bus := { BusUnit.reset with hold := some (.reg .tickDivIosc, 0x02) } })).clock.divIosc = 0x0240 := by decide

theorem test_clockControl : (after (exec (.clockControlWrite 1) .reset)).readRegister 0x26 = 0x03 := by decide

theorem test_characterReceived_data_bit_0_first :
    (after (exec (.characterReceived .a (samplesOf 0x85 true true))
      (lineA fun e => { engaged .master .await (some pollOf4) e with
        rx := { e.rx with state := .receiving } }))).lineA.reader.sum = 0x85 := by decide

theorem test_guardSatisfied_sends_the_check_last :
    (after (exec (.guardSatisfied .a) (lineA fun e =>
      let e := engaged .master .guard (some pollOf4) e
      { e with rx := { e.rx with state := .huntEdge }, ctl := { e.ctl with call := { address := 5, control := 4
                                                                                     payload := [] } } }))).lineA.tx.toSend
      = [⟨0x04, false⟩, ⟨0x00, false⟩, ⟨0xF6, false⟩] := by decide

/-! ### The hypotheses of the statements can be met -/

theorem test_meets_StepRunsFront :
    State.pending { State.reset with pending := [.tick, .submit] } = Instr.tick :: [.submit] := by decide

/-- A state all of whose buffers are free has them placed. -/
theorem free_is_placed (s : State) (h : ∀ b, (s.buffer b).place = .free) : s.BuffersPlaced :=
  ⟨fun _ b _ k => (nomatch (h b).symm.trans k), fun _ b _ k => (nomatch (h b).symm.trans k),
    fun _ b k => (nomatch (h b).symm.trans k)⟩

theorem test_meets_invariants :
    State.reset.DropsAgree ∧ State.reset.AddressesUnique ∧ State.reset.events.Bounded ∧ State.reset.events.SummarySound ∧
      State.reset.clock.Sound ∧ State.reset.ReadyAgrees ∧ State.reset.QueuesAgree ∧ State.reset.BuffersPlaced ∧
      (∀ l, (State.reset.line l).RoleSound) ∧
      ∃ t, step State.reset = .next t := by
  refine ⟨?_, ?_, by unfold EventUnit.Bounded; decide, by unfold EventUnit.SummarySound; decide,
    by unfold ClockUnit.Sound; decide, by unfold State.ReadyAgrees; decide, ⟨?_, ?_⟩, free_is_placed _ (by decide), ?_,
    ⟨_, rfl⟩⟩
  · intro d
    have h : State.reset.drop d = Drop.reset d.val := by revert d; decide
    rw [h]
    exact ⟨show 1 ≤ 3 by decide, show 3 ≤ 15 by decide, show 0 ≤ 15 by decide, rfl⟩
  · unfold State.AddressesUnique
    decide
  · intro l p
    cases l <;> cases p <;> decide
  · intro l t h
    cases l <;> cases h
  · intro l
    cases l <;> (unfold LineEngine.RoleSound; decide)

theorem test_meets_LinesAreIndependent_and_LineRowsLeaveHostSide :
    eventLine (.startBit .a) = some .a ∧ (∃ t, exec (.startBit .a) State.reset = .next t) ∧
      eventLine (.stopEnd .b) = some .b ∧ ∃ t, exec (.stopEnd .b) State.reset = .next t :=
  ⟨rfl, ⟨_, rfl⟩, rfl, ⟨_, rfl⟩⟩

/-- Line A a MASTER at rest but for a transmitter so many bit times into a character. -/
def transmitting (bits : Nat) (rest : List TxChar) : State :=
  lineA fun e => { engaged .master .send (some pollOf4) e with
    tx := { e.tx with enable := true, pin := false, sending := some ⟨5, true⟩, toSend := rest, timer := ⟨bits, 159⟩
                      echoes := [⟨⟨5, true⟩, false, .zero⟩] } }

theorem test_meets_EmptyQueueLetsTimePass :
    State.reset.pending = [] ∧ State.reset.due = none ∧
      (lineA (engaged .yielding .idle none)).due = some (.yieldEnd .a) ∧
      (∀ n ∈ [0, 9, 10], (transmitting n []).due = none) ∧ (timerAfterPeriod 20 ⟨10, 159⟩).bits = 11 ∧
      (after (step (transmitting 0 []))).lineA.tx.pin = true ∧ (after (step (transmitting 10 []))).lineA.tx.enable = false ∧
      (after (step (transmitting 10 [⟨4, false⟩]))).lineA.tx.sending = some ⟨4, false⟩ := by decide

/-- An echo of a character that has ended grows overdue, with nothing in transmission and with the next character in it. -/
theorem test_meets_EmptyQueueLetsTimePass_echoes_waited_for :
    let waiting := (transmitting 0 []).modLine .a fun e => { e with
      tx := { e.tx with sending := none, enable := false, echoes := [⟨⟨5, true⟩, true, ⟨1, 158⟩⟩] } }
    let behind := (transmitting 0 []).modLine .a fun e => { e with
      tx := { e.tx with echoes := [⟨⟨5, true⟩, true, ⟨0, 159⟩⟩, ⟨⟨4, false⟩, false, .zero⟩] } }
    waiting.due = none ∧ behind.due = none ∧
      (after (step waiting)).lineA.tx.echoes = [⟨⟨5, true⟩, true, ⟨1, 159⟩⟩] ∧ (after (step waiting)).lineA.tx.timer = ⟨1, 0⟩ ∧
      (after (step behind)).lineA.tx.echoes = [⟨⟨5, true⟩, true, ⟨1, 0⟩⟩, ⟨⟨4, false⟩, false, .zero⟩] ∧
      (after (step (transmitting 10 [⟨4, false⟩]))).lineA.tx.echoes = [⟨⟨5, true⟩, true, .zero⟩, ⟨⟨4, false⟩, false, .zero⟩] := by
  decide

theorem test_meets_EmptyQueueLetsTimePass_samples :
    (rxAfterPeriod .a { LineEngine.reset with divisor := 1 } true).2 = [.lineSeenHigh .a] ∧
      (rxAfterPeriod .a { LineEngine.reset with divisor := 1, rx := { Receiver.reset with state := .huntEdge } } false).2
        = [.startBit .a] ∧
      (rxAfterPeriod .a { LineEngine.reset with divisor := 1, rx := { Receiver.reset with
          state := .receiving, sampleNo := 4, samples := [true, true] } } true).2 = [.falseStart .a ⟨false, true, true, true⟩] ∧
      (rxAfterPeriod .a { LineEngine.reset with divisor := 1, rx := { Receiver.reset with
          state := .receiving, sampleNo := 84, samples := List.replicate 32 false } } true).2.length = 1 := by decide

theorem test_meets_EventQueueKeepsOrder :
    EventUnit.reset.mask.getLsbD (aRecord 0).kind.code = true ∧ EventUnit.reset.queue.length < 32 ∧
      EventUnit.mask { EventUnit.reset with mask := 0 } = 0 ∧ (0 : Half).getLsbD (aRecord 0).kind.code = false ∧
      (List.replicate 31 (aRecord 0)).length < 32 ∧ (List.replicate 32 (aRecord 0)).length = 32 ∧ State.reset.writable ∧
      takesRecords .submit = false ∧ takesRecords (.registerWrite 0x1C 0) = true ∧
      State.command { State.reset with command := { CommandUnit.reset with busy := some .softReset } } =
        { CommandUnit.reset with busy := some .softReset } := by decide

theorem test_meets_SummaryReadTakesSnapshot :
    (0x7F : Byte).getLsbD SummaryBit.overrunB.index = false ∧ (0x01 : Byte).getLsbD SummaryBit.eventLost.index = true := by
  decide

theorem test_meets_SummaryClearSparesRecurrence :
    State.reset.writable ∧ (0x80 : Byte).getLsbD 7 = true ∧ (0 : Byte).getLsbD 7 = false ∧ (0x01 : Byte).getLsbD 0 = true ∧
      EventUnit.SummarySound { EventUnit.reset with summary := 0x81, snapshot := 0x80, renewed := 0x01, lost := 255 } := by
  unfold EventUnit.SummarySound
  decide

theorem test_meets_TimestampReadLatches :
    Instr.tick ≠ .timestampRead ∧ Instr.tick ≠ .deviceReset ∧ 0x18 ≤ (0x18 : BitVec 6).toNat ∧ (0x1B : BitVec 6).toNat ≤ 0x1B :=
  by decide

/-- What a write of this index selects with this object code in ACCESS_OBJECT. -/
def selects (code index : Byte) : BusUnit :=
  (after (exec (.accessSelect .index index) { State.reset with bus := { BusUnit.reset with objectReg := code } })).bus

theorem test_meets_AccessSelectTakesSnapshot_in_range :
    State.reset.writable ∧ (selects 1 31).selected = some (.drop 31) ∧ (selects 2 0).selected = some (.sched .a false) ∧
      (selects 2 3).selected = some (.sched .b true) ∧ (selects 3 0).selected = some .staging ∧
      (selects 4 15).selected = some (.slot 15) ∧ (selects 6 1).selected = some (.params .b) ∧
      (selects 7 1).selected = some (.counters .b) := by decide

theorem test_meets_AccessSelectTakesSnapshot_out_of_range :
    (selects 1 32).status = .badObject ∧ (selects 2 4).status = .badObject ∧ (selects 3 1).status = .badObject ∧
      (selects 4 16).status = .badObject ∧ (selects 5 1).status = .badObject ∧ (selects 6 2).status = .badObject ∧
      (selects 7 2).status = .badObject ∧ (selects 8 0).status = .badObject := by decide

theorem test_meets_AccessSelectTakesSnapshot_open_buffer :
    (selects 0 0).status = .none ∧ (selects 5 0).status = .noneOpen ∧
      (after (exec (.accessSelect .object 5) { State.reset with opened := true, ready := [2] })).bus.selected
        = some .buffer := by decide

theorem test_meets_AccessDataReadAdvances_and_StagingAndDropWrites :
    State.reset.bus.selected = none ∧ (atObject .staging 0 .reset).atField .staging 0 ∧
      (atObject .staging 35 .reset).atField .staging 35 ∧ (atObject .staging 35 .reset).writable ∧
      (atObject .staging 36 .reset).bus.offset = ObjectSel.staging.size := by decide

theorem test_meets_StagingAndDropWrites_of_a_drop :
    (∀ k ∈ [0, 6, 7, 10, 11, 24], (atObject (.drop 4) k .reset).atField (.drop 4) k) ∧
      ((atObject (.drop 4) 0 .reset).drop 4).state = .disabled ∧
      ((atObject (.drop 4) 6 (drop4 .offline .reset)).drop 4).state ≠ .disabled := by decide

theorem test_meets_StagingAndDropWrites_ranges :
    (∀ p ∈ [((0 : Nat), (127 : Byte)), (1, 1), (2, 7), (3, 1), (3, 15), (4, 1), (4, 16), (5, 2), (6, 2)], dropValueFits p.1 p.2) ∧
      ∀ p ∈ [((0 : Nat), (128 : Byte)), (1, 2), (2, 8), (3, 0), (3, 16), (4, 0), (4, 17), (5, 3), (6, 3)], ¬ dropValueFits p.1 p.2 := by decide

theorem test_meets_StagingAndDropWrites_of_read_only_objects :
    (∀ k ∈ [0, 6, 7, 8, 9, 12], (atObject (.slot 15) k .reset).atField (.slot 15) k) ∧
      (∀ k ∈ [0, 1, 14, 15], (atObject (.counters .b) k .reset).atField (.counters .b) k) ∧
      readOnlyHalves (.slot 15) = some [7] ∧ readOnlyHalves (.counters .b) = some [0, 2, 4, 6, 8, 10, 12, 14] ∧
      (after (exec (.accessDataWrite 9) (atObject (.slot 15) 8 .reset))).bus.status = .readOnly := by decide

/-- Line A with its banks standing so, bank 1 selected at an offset. -/
def bankAt (active pending : Bool) (k : Nat) : State :=
  atObject (.sched .a true) k (lineA fun e => { e with sched := { e.sched with active := active, swapPending := pending } })

theorem test_meets_BankWriteJudgesOwnershipFirst :
    (∀ k ∈ [0, 1, 2, 47, 48], (bankAt true false k).atField (.sched .a true) k) ∧
      (bankAt true false 0).lineA.sched.active = true ∧ (bankAt false true 0).lineA.sched.active ≠ true ∧
      (bankAt false true 48).lineA.sched.swapPending = true ∧ (bankAt false false 48).lineA.sched.swapPending = false ∧
      (bankAt false false 48).bus.hold ≠ some (.field (.sched .a true) 47, 3) ∧
      State.upperIs { State.reset with bus := { BusUnit.reset with hold := some (.field (.sched .a true) 47, 3) } }
        (.sched .a true) 48 2 3 ∧
      (24 : Byte).toNat ≤ 24 ∧ ¬ (25 : Byte).toNat ≤ 24 := by
  simp only [State.upperIs, true_or, true_and]
  decide

theorem test_meets_BankWriteJudgesOwnershipFirst_ranges :
    entryFits 1 31 ∧ ¬ entryFits 1 32 ∧ entryFits 2 0 ∧
      ¬ entryFits 2 1 ∧ entryFits 3 255 ∧ ¬ entryFits 3 0 ∧ ¬ entryFits 4 0 := by decide

theorem test_meets_an_empty_hold_register (hi : Byte) (o : ObjectSel) (k : Nat) : State.reset.upperIs o k hi hi :=
  Or.inr (And.intro (fun _ h => by cases h) rfl)

theorem test_meets_LineParameterWrite :
    (∀ k ∈ [0, 1, 4, 5, 9, 12, 13, 14, 15, 16], (atObject (.params .b) k .reset).atField (.params .b) k) := by
  decide

theorem test_meets_LineParameterWrite_with_an_expiry_due :
    (atObject (.params .a) 9 (lineA fun e => { e with cycle := { e.cycle with expiryDue := true, owed := true } })).atField
        (.params .a) 9 ∧
      (after (exec (.accessDataWrite 2) (atObject (.params .a) 9 (lineA fun e =>
        { e with cycle := { e.cycle with expiryDue := true, owed := true } })))).lineA.cycle = .reset := by decide

theorem test_meets_LineParameterWrite_ranges :
    (∀ p ∈ [((4 : Nat), (1 : Byte)), (5, 255), (8, 1), (9, 2), (12, 1), (12, 16), (13, 7), (14, 1)], paramByteFits p.1 p.2) ∧
      ∀ p ∈ [((4 : Nat), (0 : Byte)), (5, 0), (8, 0), (9, 3), (12, 0), (12, 17), (13, 8), (14, 0)], ¬ paramByteFits p.1 p.2 := by decide

theorem test_meets_LineParameterWrite_wide_ranges :
    paramHalfFits 1 4095 ∧ ¬ paramHalfFits 1 4096 ∧ ¬ paramHalfFits 3 0 ∧ paramHalfFits 7 1 ∧
      paramHalfFits 11 65535 ∧ ¬ paramHalfFits 11 0 ∧ paramHalfFits 16 0 := by decide

theorem test_meets_ClockRegisterWrites_and_PlainAndIgnoredWrites :
    State.reset.writable ∧ wide 0 0 = 0 ∧ wide 1 0 ≠ 0 ∧ (0x01 : Byte).toNat = (State.reset.clock.dividerOf .iosc).toNat / 256 ∧
      (0x0F : Byte).toNat = State.reset.events.mask.toNat / 256 ∧ (0x03 : Byte) &&& 0xFC = 0 ∧
      State.reset.bus.hold = none ∧
      State.command { State.reset with command := { CommandUnit.reset with busy := some .softReset } } ≠ .reset ∧
      State.reset.idle ∧ (0x00 : Byte) ∉ commandCodes ∧ (0x61 : Byte) ∉ commandCodes := by decide

theorem test_meets_CmdOverrunKeepsCommand :
    cmdCode .submit = some 0x01 ∧ cmdCode (.cmdOverrun 0xFF) = some 0xFF ∧ cmdCode (.registerWrite 0x02 7) = some 7 ∧
      State.reset.idle ∧ CommandUnit.busy { CommandUnit.reset with busy := some (.lineReset .b) } = some (.lineReset .b) := by
  decide

/-- A state with buffer 2 ready, open or not. -/
def ready2 (opened : Bool) : State :=
  { State.reset.setBuffer 2 { Buffer.reset with place := .ready } with ready := [2], opened }

theorem test_meets_ReadyOpenAndRelease :
    State.reset.ready = [] ∧ (ready2 true).ready ≠ [] ∧ (ready2 true).opened = true ∧ (ready2 false).ready = 2 :: [] ∧
      (ready2 false).opened = false ∧ ((ready2 true).buffer 2).place = .ready ∧ (ready2 true).idle ∧
      ((after (exec .readyRelease (ready2 true))).buffer 2).place = .free ∧ (after (exec .readyOpen (ready2 false))).opened =
        true := by decide

/-- Buffer 2 heads the ready list, `left` periods of its stop bit to come, the next tick 30 periods away. -/
def ready2InStopBit (left : Nat) : State :=
  { (ready2 false).modLine .a fun e => { e with stamping := some { buffer := 2, left } } with
    clock := { ClockUnit.reset with prescaler := 18432 - 30 } }

theorem test_meets_ReadyOpenAndRelease_and_TickAdvancesCounts_in_a_stop_bit :
    (∀ x ∈ [(29, 0), (30, 1), (30 + 18431, 1), (30 + 18432, 2)],
      ((after (exec .readyOpen (ready2InStopBit x.1))).buffer 2).stamp = BitVec.ofNat 32 x.2) ∧
      (after (exec .readyOpen (ready2InStopBit 30))).lineA.stamping = none ∧
      ((after (exec .tick (after (exec .readyOpen (ready2InStopBit 60))))).buffer 2).stamp = 1 ∧
      (ready2InStopBit 30).ready = 2 :: [] ∧ (ready2InStopBit 30).opened = false ∧ (ready2InStopBit 30).idle := by decide

theorem test_meets_StagingAndDropWrites_of_the_open_buffer :
    (∀ k ∈ [0, 11, 12, 13, 14, 45], (atObject .buffer k (ready2 true)).atField .buffer k) ∧
      readOnlyHalves .buffer = some [12] ∧
      (after (exec (.accessDataWrite 9) (atObject .buffer 13 (ready2 true)))).bus.status = .readOnly := by decide

theorem test_meets_RegistersAndReset :
    State.reset.ready = [] ∧ (ready2 true).ready = 2 :: [] ∧ (ready2 true).readRegister 0x10 = 0x80 ∧
      State.reset.events.queue = [] ∧ windowShows { State.reset with events := { EventUnit.reset with queue := [aRecord 0x12345678] } }
        (aRecord 0x12345678) := by decide

theorem test_meets_ClearCountersByScope :
    (withArgs 3 0 .reset).bus.arg0.toNat = 3 ∧ 31 < (withArgs 0 32 .reset).bus.arg1.toNat ∧
      (withArgs 0 31 .reset).bus.arg1.toNat = (31 : DropIx).val ∧ 1 < (withArgs 1 2 .reset).bus.arg1.toNat ∧
      (withArgs 1 1 .reset).bus.arg1 = Line.b.code ∧ (withArgs 2 0 .reset).bus.arg0 = 2 ∧ (withArgs 2 0 .reset).idle := by
  decide

theorem test_meets_SoftResetKeepsConfiguration :
    State.reset.idle ∧ State.reset.lineA.tx.sending = none ∧ State.reset.lineB.tx.sending = none ∧
      (lineA fun e => { e with tx := { e.tx with sending := some ⟨5, true⟩ } }).lineA.tx.sending ≠ none ∧
      CommandUnit.busy { CommandUnit.reset with busy := some .softReset } = some .softReset := by decide

/-- Staged requests on a line in a role. -/
def stagedOn (r : Role) (drop kind priority length : Byte) : State :=
  staged drop kind priority length (drop4 .online (lineA (engaged r .await (some pollOf4))))

theorem test_meets_SubmitRefusals :
    (after (exec .submit (stagedOn .master 4 0 0 0))).command.refusal = .badKind ∧
      (after (exec .submit (stagedOn .master 4 1 2 0))).command.refusal = .badKind ∧
      (after (exec .submit (stagedOn .master 4 1 1 1))).command.refusal = .badLength ∧
      (after (exec .submit (stagedOn .master 4 2 1 33))).command.refusal = .badLength ∧
      (after (exec .submit (stagedOn .master 32 2 1 32))).command.refusal = .badDrop ∧
      (after (exec .submit (stagedOn .master 31 2 1 32))).command.refusal = .dropDisabled ∧
      (after (exec .submit (stagedOn .stopping 4 2 1 32))).command.refusal = .lineOff ∧
      (after (exec .submit { stagedOn .standby 4 2 1 32 with
        slots := Vector.replicate 16 { Slot.reset with state := .done } })).command.refusal = .noSlot ∧
      (after (exec .submit { stagedOn .standby 4 2 1 1 with
        buffers := Vector.replicate 24 { Buffer.reset with place := .ready } })).command.refusal = .poolLow := by decide

theorem test_meets_SubmitFillsSlot :
    (stagedOn .master 4 2 1 32).staging.kind = ReqKind.data.code ∧
      (stagedOn .master 4 2 1 32).staging.priority = Priority.urgent.code ∧
      (stagedOn .master 4 2 1 32).staging.length.toNat ≤ 32 ∧ ((stagedOn .master 4 2 1 32).drop 4).state ≠ .disabled ∧
      ((stagedOn .master 4 2 1 32).line ((stagedOn .master 4 2 1 32).drop 4).line).ctl.state ≠ .idle ∧
      ((stagedOn .master 4 2 1 32).slot 0).state = .free ∧ 3 ≤ (stagedOn .master 4 2 1 32).freeCount ∧
      (stagedOn .standby 4 1 0 0).staging.kind = ReqKind.poll.code ∧
      ((stagedOn .standby 4 1 0 0).line ((stagedOn .standby 4 1 0 0).drop 4).line).role = .standby := by decide

/-- A MASTER line with its controller IDLE takes the request within the SUBMIT (R88). -/
theorem test_meets_SubmitFillsSlot_at_a_boundary :
    let s := staged 4 1 1 0 (drop4 .online (lineA (engaged .master .idle none)))
    s.idle ∧ s.freeSlot = some 0 ∧ ((after (exec .submit s)).slot 0).state = .active ∧
      (after (exec .submit s)).lineA.ctl.state = .guard ∧ (after (exec .submit s)).lineA.urgent = [] := by decide

theorem test_meets_RetireAndAbort :
    15 < (withArgs 16 0 .reset).bus.arg0.toNat ∧ (withArgs 15 0 .reset).bus.arg0.toNat = (15 : Tag).val ∧
      (State.reset.slot 15).state = .free ∧
      ((State.reset.setSlot 15 { Slot.reset with state := .done }).slot 15).state = .done ∧
      ((lineA (engaged .master .await (some pollOf4))).setSlot 3 { Slot.reset with state := .active } |>.slot 3).state =
        .active ∧
      ((lineA (engaged .master .await (some pollOf4))).line Slot.reset.line).ctl.state.inFlight = true ∧
      (after (exec .abort (withArgs 3 0 { State.reset.setSlot 3 { Slot.reset with state := .queued } with
        lineA := { LineEngine.reset with normal := [3] } }))).command.result = 3 := by decide

/-- What the records of a state's event queue say: kind, code and detail. -/
def told (s : State) : List (EventKind × Byte × Byte) :=
  s.events.queue.map fun r => (r.kind, r.code, r.detail)

/-- Slot 3 ACTIVE with a POLL of drop 4, after one attempt. -/
def active3 : Slot :=
  { Slot.reset with state := .active, drop := 4, retry := some 2, attempts := 1 }

/-- Line A with the request of slot 3 in hand. -/
def requestInHand (r : Role) (c : CtlState) : State :=
  (drop4 .online (lineA (engaged r c (some { pollOf4 with source := .request 3, attempts := 1, lastOutcome := .busy })))).setSlot 3
    active3

theorem queues_agree_with_a_request_in_hand (r : Role) (c : CtlState) : (requestInHand r c).QueuesAgree :=
  have none_queued : ∀ t : Tag, ((Vector.replicate 16 Slot.reset).set 3 active3)[t.val].state ≠ .queued := by decide
  ⟨fun l p => by
    cases l <;> cases p <;>
      exact ⟨List.nodup_nil, fun t => ⟨fun h => (nomatch h), fun h => absurd h.1 (none_queued t)⟩⟩,
    fun l t h => by
      cases l with
      | a => cases h; exact ⟨rfl, rfl⟩
      | b => cases h⟩

theorem test_meets_RetireAndAbort_early_end :
    (after (exec .abort (withArgs 3 0 (requestInHand .master .backoff)))).command.result = 3 ∧
      ((after (exec .abort (withArgs 3 0 (requestInHand .master .guard)))).slot 3).outcome = .aborted ∧
      ((after (exec .abort (withArgs 3 0 (requestInHand .master .guard)))).drop 4).toggle = true := by decide

theorem test_meets_DropDisableCompletesQueued_early_end :
    ((after (exec .dropDisable (withArgs 4 0 (requestInHand .master .guard)))).slot 3).outcome = .dropDisabled ∧
      (requestInHand .master .guard).abortPending { pollOf4 with source := .request 3 } = false ∧
      (after (exec .dropDisable (withArgs 4 0 (requestInHand .master .await)))).lineA.ctl.state = .await := by decide

theorem test_meets_DropEnableStartsAfresh_and_DropDisableCompletesQueued :
    (after (exec .dropEnable (withArgs 32 0 .reset))).command.refusal = .badDrop ∧
      (after (exec .dropEnable (withArgs 4 0 (drop4 .unknown .reset)))).command.refusal = .notDisabled ∧
      (after (exec .dropEnable (withArgs 4 0 (lineA (engaged .master .await (some pollOf4)))))).command.refusal = .inUse ∧
      (after (exec .dropEnable (withArgs 4 0 (State.reset.setDrop 4 { Drop.reset 4 with address := 127 })))).command.refusal
        = .badAddress ∧
      (after (exec .dropEnable (withArgs 31 0 ((drop4 .online .reset).setDrop 31 (Drop.reset 4))))).command.refusal
        = .dupAddress ∧
      (after (exec .dropDisable (withArgs 4 0 .reset))).command.refusal = .notEnabled := by decide

theorem test_meets_LineStartAndRoleRefusals_and_LineStandbyAndStop :
    (after (exec .lineStart (withArgs 2 0 .reset))).command.refusal = .badLine ∧
      (after (exec .lineStandby (lineA (engaged .stopping .await (some pollOf4))))).command.refusal = .lineBusy ∧
      (after (exec .lineStop .reset)).command.refusal = .sameRole ∧ State.reset.bus.arg0 = Line.a.code ∧
      (lineA (engaged .standby .idle none)).lineA.role = .standby ∧
      (lineA (engaged .master .await (some pollOf4))).lineA.ctl.state.inFlight = true ∧
      (lineA (engaged .master .guard (some pollOf4))).lineA.ctl.state.inFlight = false := by decide

theorem test_meets_LineStartAndRoleRefusals_gap_count :
    ∀ r ∈ [Role.off, .standby], (after (exec .lineStart (lineA (engaged r .idle none)))).lineA.cycle.gapCount =
        State.reset.lineA.params.gapQuota ∧
      (after (exec .lineStart (lineA (engaged r .idle none)))).lineA.cycle.owed = false := by decide

theorem test_meets_LineStandbyAndStop_role_event_last :
    ((after (exec .lineStop ((lineA fun e => { engaged .standby .idle none e with normal := [3] }).setSlot 3
      { Slot.reset with state := .queued }))).events.queue.map fun r => (r.kind, r.tag)) =
      [(.requestDone, some 3), (.lineRole, none)] := by decide

theorem test_meets_LineResetAbandonsWork :
    (lineA fun e => { e with tx := { e.tx with sending := some ⟨5, true⟩ } }).lineA.tx.sending ≠ none ∧
      State.reset.lineA.tx.sending = none ∧ 1 < (withArgs 2 0 .reset).bus.arg0.toNat ∧ State.reset.idle ∧
      CommandUnit.busy { CommandUnit.reset with busy := some (.lineReset .a) } = some (.lineReset .a) := by decide

/-- Line A a MASTER in AWAIT with the request of slot 3, a DATA of slot 5 queued, its payload in buffer 0, buffer 1 assembling. -/
def resetInWork : State :=
  (((requestInHand .master .await).modLine .a fun e => { e with normal := [5] }).setSlot 5
    { Slot.reset with state := .queued, drop := 4, kind := .data, length := 1 }).setBuffer 0
    { Buffer.reset with place := .held 5 } |>.setBuffer 1 { Buffer.reset with place := .assembling .a }

theorem test_meets_LineResetAbandonsWork_in_work :
    let t := after (exec .lineReset resetInWork)
    told t = [(.requestDone, 15, 1), (.requestDone, 15, 0), (.lineRole, 0, 3)] ∧
      t.events.queue.map (·.tag) = [some 3, some 5, none] ∧ t.events = resetInWork.eventsReset .a ∧
      resetInWork.resetTags .a = [3, 5] ∧ resetInWork.heldBy 5 = some 0 ∧ resetInWork.assembling .a = some 1 ∧
      (t.buffer 0).place = .free ∧ (t.buffer 1).place = .free ∧ (t.slot 3).outcome = .lineReset ∧ (t.slot 5).state = .done ∧
      told (after (exec .lineReset .reset)) = [] := by decide

theorem test_meets_LineResetAbandonsWork_queues_agree : resetInWork.QueuesAgree :=
  ⟨fun l p => by cases l <;> cases p <;> decide, fun l => by cases l <;> decide⟩

theorem test_meets_SwapAndTrigger :
    (after (exec .schedSwap (withArgs 2 0 .reset))).command.refusal = .badLine ∧
      (after (exec .schedSwap (lineA fun e => { e with sched := { e.sched with swapPending := true } }))).command.refusal
        = .swapPending ∧
      ((after (exec .schedSwap (lineA fun e => { e with role := .master
                                                        cycle := { e.cycle with inProgress := true } }))).line
        .a).sched.swapPending = true ∧
      (after (exec .triggerCycle (withArgs 2 0 .reset))).command.refusal = .badLine ∧
      (after (exec .triggerCycle (lineA (engaged .yielding .await (some pollOf4))))).command.refusal = .notMaster ∧
      (lineA (engaged .master .idle none)).lineA.ctl.state = .idle := by decide

theorem test_meets_TickAdvancesCounts :
    (∀ e ∈ [State.reset.lineA, State.reset.lineB], e.cycle.expiryDue = false ∧ e.silence.due = false) ∧
      State.reset.lineA.ctl.state ≠ .backoff ∧ State.reset.events.queue = [] := by decide

/-- A tick runs the work selection of an idle MASTER line, and a CONTINUOUS one whose last cycle performed nothing starts its next
cycle then and not before (R84, R87). -/
theorem test_tick_selects :
    let s := lineA fun e => { engaged .master .idle none e with
      params := { e.params with mode := .continuous }, cycle := { e.cycle with gapCount := 16, mayRestart := false }
      sched := { e.sched with bank0 := { length := 1, entries := Vector.replicate 24 .sync } } }
    s.select .a = s ∧ (after (exec .tick s)).lineA.cycle.number = 1 ∧ (after (exec .tick s)).lineA.ctl.state = .guard ∧
      (after (exec .tick s)).lineA.ctl.txn.map (·.kind) = some FrameKind.sync := by decide

/-- The reset state with buffer 2 ready, its reply's stop bit on line A with so many periods left, and a prescaler. -/
def stamped (left prescaler : Nat) : State :=
  { (ready2 false).setLine .a { LineEngine.reset with stamping := some { buffer := 2, left } } with
    clock := { ClockUnit.reset with prescaler } }

theorem test_meets_TickAdvancesCounts_stop_bit :
    ((after (exec .tick (stamped 60 18372))).buffer 2).stamp = 1 ∧ ((after (exec .tick (stamped 60 18371))).buffer 2).stamp = 0 ∧
      (after (exec .tick (stamped 60 18372))).lineA.stamping = some { buffer := 2, left := 0 } ∧
      (after (exec .tick (stamped 60 18371))).lineA.stamping = none := by decide

theorem test_meets_TickAdvancesCounts_silence :
    ∀ n ∈ [0, 1, 2, 3], (after (exec .tick (lineA fun e => { e with
      role := .standby, params := { e.params with takeoverSilence := n }, silence := { e.silence with count := 1 } }))).lineA.silence.due
        = decide (n = 1 ∨ n = 2) := by decide

/-- Line A with an expiry of its cycle timer due. -/
def expiring (r : Role) (m : CycleMode) (inProgress owed : Bool) : State :=
  lineA fun e => { e with role := r, params := { e.params with mode := m }
                          cycle := { e.cycle with expiryDue := true, inProgress := inProgress, owed := owed } }

theorem test_meets_ExpiryOwesCycleOrOverruns :
    (expiring .standby .timed false false).lineA.cycle.expiryDue = true ∧
      (expiring .master .manual false false).lineA.params.mode ≠ .timed ∧
      (after (exec (.cycleTimerExpiry .a) (expiring .master .timed true true))).lineA.counters.overruns = 1 ∧
      (after (exec (.cycleTimerExpiry .a) (expiring .yielding .timed true false))).events.summary = 0x40 ∧
      (after (exec (.cycleTimerExpiry .a) (expiring .stopping .timed false false))).lineA.cycle.owed = true ∧
      (expiring .master .timed false false).lineA.ctl.state = .idle := by decide

/-- Line A a MASTER at a boundary, its active bank one entry long, a cycle in progress or not. -/
def walking (x : Entry) (inProgress : Bool) : State :=
  lineA fun e => { e with
    role := .master, cycle := { e.cycle with inProgress := inProgress }, params := { e.params with mode := .manual }
    sched := { e.sched with bank0 := { length := 1, entries := Vector.replicate 24 x } } }

/-- Drop 4 with its configuration changed. -/
def drop4With (f : Drop → Drop) (s : State) : State :=
  s.setDrop 4 (f (s.drop 4))

theorem test_meets_PauseElapsedSelectsWork :
    (lineA (engaged .master .pause none)).lineA.ctl.state = .pause ∧
      (∀ x ∈ [Entry.pause 255, .poll 4, .sync], (walking x true).atSchedule .a ∧ (walking x true).comesTo .a x) ∧
      ((drop4 .disabled (walking (.poll 4) true)).select .a).lineA.counters.skippedInvalid = 1 ∧
      ((drop4 .online (walking (.poll 4) true)).select .a).lineA.ctl.state = .guard ∧
      ((walking .sync true).select .a).lineA.ctl.callKind = .sync ∧
      ((walking (.pause 255) true).select .a).lineA.ctl.pauseLength = 4080 := by decide

theorem test_meets_PauseElapsedSelectsWork_offline :
    ((drop4With (fun d => { d with state := .offline, revisit := 2 }) (lineA fun e =>
        { (walking (.poll 4) true).lineA with cycle := { e.cycle with inProgress := true, number := 3 } })).select
        .a).lineA.counters.skippedOffline = 1 ∧
      ((drop4With (fun d => { d with state := .offline, revisit := 3 }) (lineA fun e =>
        { (walking (.poll 4) true).lineA with cycle := { e.cycle with inProgress := true, number := 3 } })).select
        .a).lineA.ctl.state = .guard := by decide

/-- Line A a MASTER at a boundary with a cycle owed or by the continuous rule, a swap pending. -/
def starting (m : CycleMode) (owed : Bool) : State :=
  lineA fun e => { (walking .sync false).lineA with
    params := { e.params with mode := m }, cycle := { e.cycle with owed := owed }
    sched := { e.sched with swapPending := true, bank1 := { length := 1, entries := Vector.replicate 24 .sync } } }

theorem test_meets_PauseElapsedSelectsWork_cycle_start :
    (∀ s ∈ [starting .manual true, starting .continuous false], s.atSchedule .a ∧ (s.select .a).lineA.cycle.number = 1 ∧
        (s.select .a).lineA.sched.active = true ∧ (s.select .a).lineA.ctl.state = .guard) ∧
      (starting .manual false).select .a = starting .manual false ∧
      ((lineA fun e => { (walking .sync true).lineA with cycle := { e.cycle with inProgress := true, walk := 1 } }).select
        .a).lineA.cycle.inProgress = false := by decide

/-- Line A a MASTER at a boundary with the request of slot 3 in a queue. -/
def queued3 (urgent : Bool) : State :=
  (lineA fun e => { engaged .master .idle none e with
      urgent := if urgent then [3] else [], normal := if urgent then [] else [3] }).setSlot 3
    { Slot.reset with state := .queued, drop := 4, priority := if urgent then .urgent else .normal }

theorem test_meets_PauseElapsedSelectsWork_requests :
    (∀ u ∈ [true, false], ((queued3 u).select .a).lineA.ctl.txn.map (·.source) = some (.request 3)) ∧
      (queued3 true).lineA.urgent = 3 :: [] ∧ (queued3 false).atSchedule .a ∧
      ((drop4With (fun d => { d with attention := true }) (walking .sync false)).select .a).lineA.ctl.txn.map (·.source)
        = some .extraPoll := by decide

/-- The timestamp of buffer 2 after a row of line A inside the stop bit of its reply, 66 periods of it left, and a tick 64 periods
after that row; what its line is otherwise. -/
def stampedAfter (c : Instr) (f : LineEngine → LineEngine) : Stamp :=
  let s := after (exec c ((stamped 66 0).modLine .a fun e => { f e with divisor := 22, rx := { (f e).rx with stopTail := 3 } }))
  ((after (exec .tick { s with clock := { s.clock with divIosc := 1 } })).buffer 2).stamp

/-- A row that asserts that the stop bit of a stored reply has passed leaves no tick after it in the timestamp (R115, log 2). -/
theorem test_rows_that_assert_time_end_the_stop_bit_of_a_stored_reply :
    let lineIn (r : RxState) (d : ReaderState) (c : CtlState) (n : Nat) (e : LineEngine) : LineEngine :=
      { engaged .master c (some pollOf4) e with
        rx := { e.rx with state := r, sampleNo := n }, reader := { e.reader with state := d } }
    stampedAfter (.guardSatisfied .a) (fun e => { lineIn .huntEdge .hunt .guard 0 e with
        ctl := { e.ctl with state := .guard, txn := some pollOf4, guard := 22 } }) = 0 ∧
      stampedAfter (.gapFault .a) (lineIn .huntEdge .inFrame .await 0) = 0 ∧
      stampedAfter (.quietEnd .a) (lineIn .huntEdge .flush .await 0) = 0 ∧
      stampedAfter (.startBit .a) (lineIn .huntEdge .hunt .await 0) = 0 ∧
      stampedAfter (.falseStart .a ⟨true, true, true, true⟩) (lineIn .receiving .hunt .await 1) = 0 ∧
      stampedAfter (.characterReceived .a (samplesOf 5 false true)) (lineIn .receiving .hunt .await 1) = 0 ∧
      stampedAfter (.pauseElapsed .a) (fun e => { lineIn .huntEdge .hunt .pause 0 e with
        ctl := { e.ctl with state := .pause, pauseLength := 16 } }) = 0 ∧
      stampedAfter .schedSwap (lineIn .huntEdge .hunt .await 0) = 1 ∧
      stampedAfter (.falseStart .a ⟨true, true, true, true⟩) (lineIn .receiving .hunt .await 5) = 1 := by decide

/-- A start bit in the stop bit of a stored reply leaves the samples after it, and no more than were left before (R115, log 2). -/
theorem test_start_bit_in_the_stop_bit_of_a_stored_reply :
    ∀ x ∈ [((60 : Nat), (40 : Nat)), (40, 40), (39, 39)],
      (after (exec (.startBit .a) ((stamped x.1 0).modLine .a fun e => { engaged .standby .idle none e with
        rx := { e.rx with state := .huntEdge, stopTail := 3 } }))).lineA.stamping = some { buffer := 2, left := x.2 } := by decide

/-- Line A of a role whose receiver is in a state. -/
def receiving (r : Role) (x : RxState) : State :=
  lineA fun e => { e with role := r, rx := { e.rx with state := x } }

theorem test_meets_ReceiverRows :
    (receiving .standby .huntEdge).lineA.role ≠ .off ∧
      (after (exec (.startBit .a) (receiving .standby .huntEdge))).lineA.rx.state = .receiving ∧
      (after (exec (.lineSeenHigh .a) (receiving .standby .waitHigh))).lineA.rx.state = .huntEdge ∧
      (after (exec (.falseStart .a ⟨false, true, false, true⟩) (receiving .standby .receiving))).lineA.counters.noise = 1 ∧
      (after (exec (.falseStart .a ⟨false, true, false, true⟩) (receiving .standby .receiving))).lineA.rx.idleSamples = 1 ∧
      (after (exec (.falseStart .a ⟨true, true, true, true⟩) (receiving .standby .receiving))).lineA.rx.idleSamples = 4 := by
  decide

theorem test_meets_ReceiverRows_samples_of_an_idle_bit_time :
    ∀ n ∈ [0, 6, 7], (after (exec (.lineSeenHigh .a) (lineA fun e => { e with
      role := .standby, rx := { e.rx with idleSamples := n } }))).lineA.rx.idle = if n = 7 then 1 else 0 := by decide

theorem test_meets_ReceiverRows_an_attempt_that_waits :
    ((after (exec (.falseStart .a ⟨true, true, true, true⟩) (lineA fun e =>
      let e := engaged .master .await (some pollOf4) e
      { e with rx := { e.rx with state := .receiving }, ctl := { e.ctl with deciding := true } }))).drop 4).stats.timeouts = 1 := by
  decide

/-- Line A a STANDBY that receives a character, a call observed whose timer has elapsed, the observer waiting. -/
def waitedFor (f : Follow) : State :=
  lineA fun e => { e with
    role := .standby, rx := { e.rx with state := .receiving }
    observer := { e.observer with
      call := some { drop := 4, address := 5, kind := .poll, toggle := false }, elapsed := true, waiting := true, follow := f } }

theorem test_meets_ReceiverRows_with_an_edge_in_the_stop_bit :
    ∀ n ∈ [0, 1, 2], (after (exec (.falseStart .a ⟨true, true, true, true⟩) (lineA fun e =>
      { e with role := .standby, rx := { e.rx with state := .receiving, stopTail := n } }))).lineA.rx.idleSamples = 4 - n := by decide

theorem test_meets_ReceiverRows_deciding_elsewhere_and_an_observer_that_waits :
    (after (exec (.falseStart .a ⟨true, true, true, true⟩) (lineA fun e =>
        let e := engaged .master .discard (some pollOf4) e
        { e with rx := { e.rx with state := .receiving }, ctl := { e.ctl with deciding := true } }))).lineA.ctl.state = .discard ∧
      (after (exec (.falseStart .a ⟨true, true, true, true⟩) (waitedFor .nothing))).lineA.observer.call = none ∧
      (after (exec (.falseStart .a ⟨true, true, true, true⟩) (waitedFor .candidate))).lineA.observer.call ≠ none := by decide

/-- Line A a MASTER in a controller state with a character in reception. -/
def hearing (c : CtlState) : State :=
  lineA fun e => { engaged .master c (some pollOf4) e with rx := { e.rx with state := .receiving } }

theorem test_meets_CharacterGoesToOnePlace :
    (samplesOf 0x85 true true).start.majority = false ∧ (samplesOf 0x85 false true).markBit = false ∧
      (samplesOf 0x85 true true).framing = false ∧ (samplesOf 0x85 true true).byte.setWidth 7 = pollOf4.address ∧
      (samplesOf 0x85 true true).byte.getLsbD 7 = true ∧ (samplesOf 0x85 true false).framing = true ∧
      (after (exec (.characterReceived .a (samplesOf 7 false true)) (hearing .guard))).lineA.counters.unsolicited = 1 ∧
      (after (exec (.characterReceived .a (samplesOf 0x85 true true)) (hearing .await))).lineA.ctl.state = .receive ∧
      (after (exec (.characterReceived .a (samplesOf 6 true true)) (lineA fun e => { e with
        role := .master, rx := { e.rx with state := .receiving }
        tx := { e.tx with enable := true, echoes := [⟨⟨5, true⟩, true, .zero⟩] } }))).lineA.tx.stop = some .contention := by
  decide

theorem test_meets_CharacterGoesToOnePlace_on_a_standby_line :
    (after (exec (.characterReceived .a (samplesOf 7 false true)) (lineA fun e => { e with
        role := .standby, rx := { e.rx with state := .receiving }, silence := { count := 9, flag := true, due := false } }))).lineA.silence
      = .zero := by decide

/-- Line A a MASTER in a controller state that receives a character after a frame of its own, its start bit begun after driver
enable was released or not, with an echo waited for or none. -/
def afterOwnFrame (c : CtlState) (afterRelease : Bool) (echoes : List Echo) : State :=
  lineA fun e => { engaged .master c (some pollOf4) e with
    rx := { e.rx with state := .receiving, afterRelease := afterRelease }, tx := { e.tx with tail := true, echoes := echoes } }

theorem test_meets_CharacterGoesToOnePlace_after_an_own_frame :
    (afterOwnFrame .await true []).arrives .a (samplesOf 0x85 true true) ∧
      (after (exec (.characterReceived .a (samplesOf 0x85 true true)) (afterOwnFrame .await true []))).lineA.ctl.state = .receive ∧
      (after (exec (.characterReceived .a (samplesOf 0x85 true true)) (afterOwnFrame .await false []))).lineA.ctl.state = .await ∧
      (after (exec (.characterReceived .a (samplesOf 5 true true)) (afterOwnFrame .send false [⟨⟨5, true⟩, true, .zero⟩]))).lineA.tx
        = { Transmitter.reset with tail := true } ∧
      (after (exec (.characterReceived .a (samplesOf 0x85 true true)) (afterOwnFrame .send true []))).lineA.ctl.kept
        = [.start 0x85] := by decide

theorem test_meets_CharacterGoesToOnePlace_samples_and_waits :
    mostOf ⟨true, false, true⟩ = true ∧ mostOf ⟨false, true, false⟩ = false ∧ disagree ⟨true, true, false⟩ ∧
      ¬ disagree ⟨true, true, true⟩ ∧ ({ samplesOf 0 true true with mark := ⟨true, false, true⟩ } : CharSamples).noisy = true ∧
      ((after (exec (.characterReceived .a (samplesOf 7 false true))
        ((afterOwnFrame .await false []).modLine .a fun e => { e with ctl := { e.ctl with deciding := true } }))).drop
        4).stats.timeouts = 1 := by decide

/-- What the state becomes after a character without noise on line A. -/
def hear (b : Byte) (mark stop : Bool) (s : State) : State :=
  after (exec (.characterReceived .a (samplesOf b mark stop)) s)

/-- Line A a MASTER in a controller state whose frame reader has a frame open at a position, with a reply in hand. -/
def inFrame (c : CtlState) (p : FramePos) (sum : Byte) (y : ReplyInfo) : State :=
  drop4 .online (lineA fun e =>
    let e := engaged .master c (some pollOf4) e
    { e with rx := { e.rx with state := .receiving }, ctl := { e.ctl with reply := y }
             reader := { state := .inFrame, position := p, sum, expected := 2, gap := 16 } })

/-- A REPLY of length 2 in hand with this claim. -/
def replyOf2 (k : Claim) : ReplyInfo :=
  { kind := some .reply, attention := true, length := 2, claim := k }

theorem test_meets_ReplyIsChecked_kinds :
    (inFrame .receive .control 0 .empty).arrives .a (samplesOf 1 false true) ∧ plainChar (samplesOf 1 false true) ∧
      ¬ plainChar (samplesOf 1 true true) ∧ ¬ plainChar (samplesOf 1 false false) ∧
      answersCall .poll 0x41 ∧ answersCall .poll 3 ∧ ¬ answersCall .poll 2 ∧ answersCall .data 2 ∧ ¬ answersCall .data 1 ∧
      replyMode .schedule .queue = some .append ∧ replyMode .schedule .discard = none ∧
      replyMode (.request 3) .discard = some .append ∧ replyMode .extraPoll .replace = some .replace := by decide

theorem test_meets_ReplyIsChecked_control :
    (hear 0x41 false true (inFrame .receive .control 0 .empty)).lineA.ctl.reply.attention = true ∧
      (hear 0x21 false true (inFrame .receive .control 0 .empty)).lineA.counters.stale = 1 ∧
      (hear 2 false true (inFrame .receive .control 0 .empty)).lineA.ctl.discard = .faulty .unexpected ∧
      (hear 1 false false (inFrame .receive .control 0 .empty)).lineA.ctl.discard = .faulty .framing := by decide

theorem test_meets_ReplyIsChecked_length :
    (hear 33 false true (inFrame .receive .length 0 (replyOf2 .none))).lineA.ctl.discard = .faulty .length ∧
      (hear 1 false true (inFrame .receive .length 0 { replyOf2 .none with kind := some .busy })).lineA.ctl.discard
        = .faulty .length ∧
      (hear 0 false true (inFrame .receive .length 0 (replyOf2 .none))).lineA.ctl.reply.length = 0 ∧
      ((hear 32 false true (inFrame .receive .length 0 (replyOf2 .none))).buffer 0).place = .assembling .a ∧
      (inFrame .receive .length 0 (replyOf2 .none)).lowestFree 0 := by decide

/-- The state with buffer 0 assembling on line A. -/
def assembling0 (m : StoreMode) (s : State) : State :=
  s.setBuffer 0 { s.buffer 0 with place := .assembling .a, mode := m, length := 2 }

theorem test_meets_ReplyIsChecked_payload_and_denial :
    ((hear 0x5A false true (assembling0 .append (inFrame .receive (.payload 1) 0 (replyOf2 .granted)))).buffer
        0).payload.toList.getD 1 0 = 0x5A ∧
      (hear 2 false true { inFrame .receive .length 0 (replyOf2 .none) with
        buffers := Vector.replicate 24 { Buffer.reset with place := .ready } }).lineA.ctl.reply.claim = .denied := by decide

theorem test_meets_ReplyCleanEnd :
    (hear 0 false true (inFrame .receive .check 0 (replyOf2 .none))).lineA.ctl.discard = .faulty .check ∧
      (hear 0xFF false true (inFrame .receive .check 0 (replyOf2 .none))).lineA.ctl.txn = none ∧
      (hear 0xFF false true (inFrame .receive .check 0 { replyOf2 .none with kind := some .busy })).lineA.ctl.state = .backoff ∧
      (hear 0xFF false true (inFrame .receive .check 0 (replyOf2 .denied))).lineA.ctl.state = .guard ∧
      (hear 0xFF false true (assembling0 .append (inFrame .receive .check 0 (replyOf2 .granted)))).ready = [0] := by decide

/-- The state with buffer 5 in the ready list, a reply of drop 4 by the schedule. -/
def ready5 (s : State) : State :=
  { s.setBuffer 5 { s.buffer 5 with place := .ready, origin := .schedule, drop := 4 } with ready := [5] }

theorem test_meets_ReplyCleanEnd_stored_at_the_tail (s : State) (y : Buffer) (h : y.mode = .append) :
    s.storedAs { s.setBuffer 0 y with ready := s.ready ++ [0] } 0 y .schedule 4 :=
  Or.inl ⟨Or.inl h, rfl⟩

theorem test_meets_ReplyCleanEnd_stored_in_place (y : Buffer) (h : y.mode = .replace) :
    ∃ t, (ready5 .reset).storedAs t 0 y .schedule 4 :=
  ⟨_, Or.inr ⟨[], 5, [], h, rfl, by decide, by decide, by decide, by decide, rfl⟩⟩

theorem test_meets_ReplyCleanEnd_replaces :
    (hear 0xFF false true (ready5 (assembling0 .replace (inFrame .receive .check 0 (replyOf2 .granted))))).ready = [0] ∧
      ((hear 0xFF false true (ready5 (assembling0 .replace (inFrame .receive .check 0 (replyOf2 .granted))))).buffer
        5).place = .free := by decide

theorem test_meets_AttemptEnds :
    ((requestInHand .master .await).endAttempt .a .timeout).lineA.ctl.state = .guard ∧
      ((requestInHand .master .receive).endAttempt .a .busy).lineA.ctl.state = .backoff ∧
      (((requestInHand .master .receive).endAttempt .a .ok).slot 3).state = .done ∧
      (((requestInHand .yielding .await).endAttempt .a .timeout).slot 3).state = .queued ∧
      (((requestInHand .stopping .await).endAttempt .a .timeout).slot 3).outcome = .lineStopped ∧
      ((requestInHand .master .await).endAttempt .a .contention).lineA.contention = 1 ∧
      min 255 ((requestInHand .master .await).lineA.contention + 1) < (requestInHand .master .await).lineA.params.contentionLimit
    := by decide

/-- The state with line A at one contention from its limit, its cycle in progress with cycle events on. -/
def nearLimit (s : State) : State :=
  s.modLine .a fun e => { e with
    contention := 2, rx := { e.rx with state := .receiving }, params := { e.params with cycleEvents := true }
    cycle := { e.cycle with inProgress := true, performed := 1 } }

theorem queues_agree_near_the_limit (r : Role) (c : CtlState) : (nearLimit (requestInHand r c)).QueuesAgree :=
  State.QueuesAgree.of_same (queues_agree_with_a_request_in_hand r c) rfl fun l => by cases l <;> exact ⟨rfl, rfl, rfl⟩

theorem test_meets_AttemptEnds_demotion :
    (((nearLimit (requestInHand .master .await)).endAttempt .a .contention).slot 3).state = .queued ∧
      ((nearLimit (requestInHand .master .await)).endAttempt .a .contention).lineA.normal = [3] ∧
      told ((nearLimit (requestInHand .master .await)).endAttempt .a .contention) = [(.lineRole, 1, 2), (.cycleDone, 1, 0x80)] ∧
      (((nearLimit (requestInHand .master .await)).setSlot 3 { active3 with abortPending := true }).endAttempt .a
        .contention).readRegister 0x16 = 1 ∧
      ((((nearLimit (requestInHand .master .await)).setSlot 3 { active3 with abortPending := true }).endAttempt .a
        .contention).slot 3).outcome = .aborted := by decide

theorem test_meets_ForeignCallsAndStrays_demotion :
    (nearLimit (requestInHand .master .guard)).arrives .a (samplesOf 6 true true) ∧
      (hear 6 true true (nearLimit (requestInHand .master .guard))).lineA.role = .standby ∧
      ((hear 6 true true (nearLimit (requestInHand .master .backoff))).slot 3).state = .queued ∧
      (hear 6 true true (nearLimit (requestInHand .master .guard))).lineA.normal = [3] := by decide

/-- A POLL put back after NO_BUFFER goes on with the length of the reply that was lost (R42, R99). -/
theorem test_putBack_keeps_the_reply_length :
    (((queued3 false).modSlot 3 fun x => { x with lastLength := 5, attempts := 1, retry := some 2 }).select .a).lineA.ctl.txn.map
        (·.lastLength) = some 5 ∧
      ((after (exec .abort (withArgs 3 0 (((queued3 false).modSlot 3 fun x =>
        { x with lastLength := 5, attempts := 1, retry := some 2 }).select .a)))).slot 3).replyLength = 5 ∧
      (((assembling0 .append ((requestInHand .yielding .receive).modLine .a fun e =>
        { e with ctl := { e.ctl with reply := replyOf2 .denied } })).endAttempt .a .noBuffer).slot 3).lastLength = 2 := by decide

theorem test_meets_ForeignCallsAndStrays_at_rest :
    (hearing .guard).arrives .a (samplesOf 5 true true) ∧ (hear 7 false true (hearing .guard)).lineA.counters.unsolicited = 1 ∧
      (hear 5 true true (hearing .guard)).lineA.contention = 1 ∧
      (hear 5 true true (lineA fun e => { (hearing .pause).lineA with contention := 2, params := e.params })).lineA.role
        = .standby ∧
      (hear 0x85 true true (hearing .idle)).lineA.counters.unsolicited = 1 ∧
      (hear 0x85 true false (hearing .backoff)).lineA.reader.state = .flush ∧
      (hear 5 true false (hearing .backoff)).lineA.contention = 0 := by decide

theorem test_meets_ForeignCallsAndStrays_in_await_and_discard :
    (hear 5 true true (hearing .await)).lineA.contention = 1 ∧ (hear 0x86 true true (hearing .await)).lineA.counters.stale = 1 ∧
      (hear 0x85 true false (hearing .await)).lineA.ctl.discard = .faulty .framing ∧
      (hear 0x86 true false (hearing .await)).lineA.counters.unsolicited = 1 ∧
      (hear 0xFF false true (inFrame .discard .check 0 .empty)).lineA.ctl.state = .await ∧
      (hear 0 false true (inFrame .discard .check 0 .empty)).lineA.reader.state = .flush ∧
      ((hear 0xFF false true ((inFrame .discard .check 0 .empty).modLine .a fun e =>
        { e with ctl := { e.ctl with window := .elapsed, deciding := true } })).drop 4).stats.timeouts = 1 ∧
      ((hear 7 false true (lineA fun e => { (hearing .await).lineA with
        ctl := { (hearing .await).lineA.ctl with deciding := true }, params := e.params })).drop 4).stats.timeouts = 1 := by decide

/-- Line A a STANDBY that receives a character, its observer and frame reader so. -/
def watching (q : Option ObservedCall) (x : Follow) (p : FramePos) (k : Capture) : State :=
  drop4 .online (lineA fun e => { e with
    role := .standby, rx := { e.rx with state := .receiving }, params := { e.params with capture := true }
    reader := { state := .inFrame, position := p, sum := 0, expected := 2, gap := 16 }
    observer := { e.observer with call := q, follow := x, capture := k } })

/-- The observed POLL of drop 4, toggle 0. -/
def seenPoll : ObservedCall :=
  { drop := 4, address := 5, kind := .poll, toggle := false }

/-- Line A a STANDBY with its frame reader in HUNT. -/
def hunting (q : Option ObservedCall) : State :=
  lineA fun e => { e with
    role := .standby, rx := { e.rx with state := .receiving }, observer := { e.observer with call := q } }

theorem test_meets_ObserverFollowsCalls_addresses :
    (hunting none).arrives .a (samplesOf 5 true true) ∧
      (hear 5 true true (hunting (some seenPoll))).lineA.observer.follow = .call 5 none 0 ∧
      (hear 0x85 true true (hunting (some seenPoll))).lineA.observer.follow = .candidate ∧
      (hear 0x86 true true (hunting (some seenPoll))).lineA.observer.call = none ∧
      (hear 0x85 true false (hunting (some seenPoll))).lineA.observer.call = some seenPoll ∧
      (hear 5 false true (hunting (some seenPoll))).lineA.observer.call = some seenPoll := by decide

theorem test_meets_ObserverFollowsCalls_frames :
    (hear 4 false true (watching none (.call 5 none 0) .control .none)).lineA.observer.follow = .call 5 (some 4) 0 ∧
      (hear 0 false true (watching none (.call 5 (some 4) 0) .length .none)).lineA.reader.position = .check ∧
      (hear 33 false true (watching none (.call 5 (some 4) 0) .length .none)).lineA.reader.state = .flush ∧
      (hear 0xFF false true (watching none (.call 5 (some 4) 0) .check .none)).lineA.observer.call = some seenPoll ∧
      (hear 0xFF false true (watching none (.call 5 (some 6) 0) .check .none)).lineA.observer.call = none ∧
      (hear 1 false true (watching (some seenPoll) .candidate .control .none)).lineA.observer.follow = .matched .reply false 0 ∧
      (hear 0x21 false true (watching (some seenPoll) .candidate .control .none)).lineA.observer.follow = .unmatched ∧
      (hear 0xFF false true (watching (some seenPoll) .unmatched .check .none)).lineA.observer.call = some seenPoll := by decide

theorem test_meets_ObserverFollowsCalls_rest_of_frames :
    (hear 9 false true (watching none (.call 5 (some 5) 2) (.payload 1) .none)).lineA.reader.position = .check ∧
      (hear 0xFF false true (watching none (.call 5 (some 4) 0) .check .none)).lineA.observer.lead = 60 ∧
      (∀ f ∈ [Follow.nothing, .unmatched, .failed],
        (hear 9 false true (watching none f (.payload 0) .none)).lineA.reader.position = .payload 1 ∧
        (hear 9 false true (watching none f .check .none)).lineA.observer.follow = f) ∧
      (hear 0xFF false true (watching none .failed .check .none)).lineA.observer.follow = .nothing := by decide

theorem test_meets_ObserverFollowsCalls_a_character_waited_for :
    (∀ f ∈ [Follow.nothing, .candidate], (waitedFor f).lineA.RoleSound ∧ (waitedFor f).lineA.observer.waiting = true) ∧
      (hear 7 false true (waitedFor .nothing)).lineA.observer.call = none ∧
      (hear 0x85 true true (waitedFor .nothing)).lineA.observer.follow = .candidate := by
  unfold LineEngine.RoleSound; decide

theorem test_meets_observer_statements_roles :
    (hunting (some seenPoll)).lineA.RoleSound ∧ (watching (some seenPoll) .candidate .control .none).lineA.RoleSound := by
  unfold LineEngine.RoleSound; decide

theorem test_meets_ObservedReply :
    (hear 2 false true (watching (some seenPoll) (.matched .reply true 0) .length .none)).lineA.observer.capture = .assembling ∧
      (hear 2 false true (watching (some seenPoll) (.matched .busy true 0) .length .none)).lineA.observer.follow = .failed ∧
      (hear 0xFF false true (assembling0 .append (watching (some seenPoll) (.matched .reply true 2) .check .assembling))).ready
        = [0] ∧
      ((hear 0xFF false true (watching (some seenPoll) (.matched .reply true 2) .check .lost)).drop 4).toggle = true ∧
      (hear 0 false true (watching (some seenPoll) (.matched .reply true 2) .check .none)).lineA.observer.follow = .failed := by
  decide

theorem test_meets_CheckCharacter : Reader.reset.state = .hunt ∧ (List.replicate 32 (0xAA : Byte)).length ≤ 32 := by decide

theorem test_meets_GuardSatisfiedBeginsCall :
    (∀ x ∈ [pollOf4, aSync], (after (exec (.guardSatisfied .a) (lineA fun e =>
        { engaged .master .guard (some x) e with rx := { e.rx with state := .huntEdge } }))).lineA.ctl.state = .send) ∧
      (lineA (engaged .master .guard (some aSync))).lineA.tx.enable = false ∧
      State.reset.command.busy ≠ some .softReset ∧ State.reset.command.busy ≠ some (.lineReset .a) := by decide

/-- Line A with a frame in progress that a cause stops, or none. -/
def sending (x : Option StopCause) (echoes : List Echo) : State :=
  lineA fun e => { engaged .master .send (some pollOf4) e with
    tx := { e.tx with enable := true, sending := some ⟨0xF6, false⟩, stop := x, echoes := echoes } }

theorem test_meets_FrameSentOpensWindow_and_FailedFrames :
    (after (exec (.frameSent .a) (sending none []))).lineA.ctl.state = .await ∧
      (after (exec (.echoMissing .a) (sending none [⟨⟨0xF6, false⟩, true, .zero⟩]))).lineA.tx.stop = some .contention ∧
      (after (exec (.contentionReport .a) (sending (some .contention) []))).lineA.contention = 1 ∧
      (after (exec (.clockFaultReport .a) (sending (some .clockFault) []))).lineA.contention = 0 ∧
      (sending (some .clockFault) []).lineA.ctl.kept = [] ∧ pollOf4.kind ≠ .sync := by decide

theorem test_meets_FrameSentOpensWindow_sync_and_kept :
    (after (exec (.frameSent .a) (lineA fun e => { (sending none []).lineA with
        ctl := { e.ctl with state := .send, txn := some aSync } }))).lineA.ctl.state = .idle ∧
      (after (exec (.frameSent .a) (lineA fun e => { (sending none []).lineA with
        ctl := { e.ctl with state := .send, txn := some pollOf4, kept := [.start 0x85] } }))).lineA.ctl.state = .receive ∧
      (after (exec (.frameSent .a) (lineA fun e => { (sending none []).lineA with
        ctl := { e.ctl with state := .send, txn := some aSync, kept := [.start 0x85] } }))).lineA.counters.unsolicited = 1 ∧
      aSync.source = .sync ∧ aSync.drop = none ∧ ∀ i, (State.reset.buffer i).place ≠ .assembling .a := by decide

theorem test_meets_FailedFrames_with_reports_kept :
    (after (exec (.contentionReport .a) ((sending (some .contention) []).modLine .a fun e =>
        { e with ctl := { e.ctl with kept := [.stray false false] } }))).lineA.counters.unsolicited = 1 ∧
      (after (exec (.clockFaultReport .a) ((sending (some .clockFault) []).modLine .a fun e =>
        { e with ctl := { e.ctl with kept := [.stray false false] } }))).lineA.counters.unsolicited = 1 := by decide

/-- Line A a MASTER in a controller state with the window running, the receiver in a state. -/
def window (c : CtlState) (x : RxState) : State :=
  lineA fun e =>
    let e := engaged .master c (some pollOf4) e
    { e with rx := { e.rx with state := x }, ctl := { e.ctl with window := .running } }

theorem test_meets_ElapsedTimes :
    (after (exec (.responseWindowElapsed .a) (window .receive .receiving))).lineA.ctl.window = .elapsed ∧
      (after (exec (.responseWindowElapsed .a) (window .discard .huntEdge))).lineA.ctl.window = .elapsed ∧
      (window .discard .huntEdge).lineA.ctl.discard = .passing ∧
      (after (exec (.responseWindowElapsed .a) (window .await .receiving))).lineA.ctl.deciding = true ∧
      ((after (exec (.responseWindowElapsed .a) (window .await .huntEdge))).drop 4).stats.timeouts = 1 ∧
      (after (exec (.observerTimerElapsed .a) (lineA fun e => { e with role := .standby, observer := { e.observer with
        call := some { drop := 4, address := 5, kind := .poll, toggle := false } } }))).lineA.observer.call = none ∧
      (after (exec (.backoffElapsed .a) (lineA (engaged .master .backoff (some pollOf4))))).lineA.ctl.state = .guard := by
  decide

theorem test_meets_ElapsedTimes_of_an_observer :
    (after (exec (.observerTimerElapsed .a) (watching (some seenPoll) .candidate .control .none))).lineA.observer.call
        = some seenPoll ∧
      (after (exec (.observerTimerElapsed .a) (hunting (some seenPoll)))).lineA.observer.waiting = true ∧
      (after (exec (.observerTimerElapsed .a) (hunting (some seenPoll)))).lineA.observer.call = some seenPoll := by decide

/-- The request of slot 3 in hand is a DATA of length 1 in BACKOFF, its payload in buffer 0. -/
def dataInBackoff : State :=
  (((requestInHand .master .backoff).modLine .a fun e =>
      { e with ctl := { e.ctl with txn := e.ctl.txn.map fun x => { x with kind := .data } } }).setSlot 3
    { active3 with kind := .data, length := 1 }).setBuffer 0 { Buffer.reset with place := .held 3, payload := Vector.replicate 32 7 }

theorem test_meets_ElapsedTimes_of_a_data_request :
    (after (exec (.backoffElapsed .a) dataInBackoff)).lineA.ctl.call = { address := 5, control := 5, payload := [7] } ∧
      dataInBackoff.heldBy 3 = some 0 ∧ (requestInHand .master .backoff).heldBy 3 = none := by decide

theorem test_meets_BuffersStayPlaced_with_a_payload : dataInBackoff.BuffersPlaced :=
  ⟨fun l => by cases l <;> decide, fun l => by cases l <;> decide, by decide⟩

/-- What the state becomes when line A has been idle, its frame reader in a state. -/
def idleAfter (x : ReaderState) (s : State) : State :=
  after (exec (if x = .flush then .quietEnd .a else .gapFault .a)
    (s.modLine .a fun e => { e with rx := { e.rx with state := .huntEdge }, reader := { e.reader with state := x } }))

theorem test_meets_GapAndQuietEnds_of_a_master :
    (idleAfter .inFrame (hearing .guard)).lineA.reader.state = .hunt ∧
      (idleAfter .flush (hearing .await)).lineA.ctl.state = .await ∧
      ((idleAfter .inFrame (hearing .receive)).drop 4).stats.replyErrors = 1 ∧
      (idleAfter .flush (hearing .discard)).lineA.ctl.state = .await ∧
      ((idleAfter .flush (lineA fun e => { (hearing .discard).lineA with params := e.params, ctl := { (hearing .discard).lineA.ctl with
        window := .elapsed } })).drop 4).stats.timeouts = 1 ∧
      ((idleAfter .flush (lineA fun e => { (hearing .discard).lineA with params := e.params, ctl := { (hearing .discard).lineA.ctl with
        discard := .faulty .check } })).drop 4).stats.replyErrors = 1 := by decide

theorem test_meets_GapAndQuietEnds_in_send :
    (idleAfter .inFrame (hearing .send)).lineA.ctl.kept = [.fault .gap] ∧
      (idleAfter .flush (hearing .send)).lineA.ctl.kept = [.closed] := by decide

/-- The bit time after the idle count was put at a gap takes eight samples, whatever was left of a stop bit (R7). -/
theorem test_idle_bit_time_after_a_quiet_end :
    let e := (idleAfter .flush ((hearing .guard).modLine .a fun e => { e with rx := { e.rx with stopTail := 3 } })).lineA
    e.rx.idle = 17 ∧ (Nat.repeat Receiver.idleSample 7 e.rx).idle = 17 ∧ (Nat.repeat Receiver.idleSample 8 e.rx).idle = 18 := by
  decide

theorem test_meets_GapAndQuietEnds_of_a_standby :
    (idleAfter .inFrame (watching none (.call 5 none 0) .control .none)).lineA.observer.follow = .nothing ∧
      (idleAfter .flush (watching (some seenPoll) .unmatched .control .none)).lineA.observer.call = some seenPoll ∧
      (idleAfter .inFrame (watching (some seenPoll) .candidate .control .none)).lineA.observer.follow = .nothing ∧
      ((idleAfter .flush (assembling0 .append (watching none .failed .check .assembling))).buffer 0).place = .free ∧
      ((idleAfter .inFrame (assembling0 .append (watching (some seenPoll) (.matched .reply true 2) .check .assembling))).buffer
        0).place = .free ∧
      (idleAfter .flush (watching none .nothing .control .none)).lineA.observer.follow = .nothing := by decide

theorem test_meets_RolesEnd_by_yield_and_stop :
    (after (exec (.yieldEnd .a) (lineA (engaged .yielding .guard (some pollOf4))))).lineA.role = .standby ∧
      (after (exec (.stopEnd .a) (lineA (engaged .stopping .idle none)))).lineA.role = .off := by decide

theorem test_meets_RolesEnd_with_a_request_in_hand :
    (∀ c ∈ [CtlState.guard, .backoff], c.inFlight = false ∧
      told (after (exec (.yieldEnd .a) (nearLimit (requestInHand .yielding c)))) = [(.lineRole, 1, 0), (.cycleDone, 1, 0x80)] ∧
      (after (exec (.yieldEnd .a) (nearLimit (requestInHand .yielding c)))).lineA.normal = [3] ∧
      told (after (exec (.stopEnd .a) (nearLimit (requestInHand .stopping c)))) =
        [(.requestDone, 14, 1), (.lineRole, 0, 0), (.cycleDone, 1, 0x80)] ∧
      ((after (exec (.stopEnd .a) (nearLimit (requestInHand .stopping c)))).slot 3).outcome = .lineStopped) ∧
      told (after (exec (.stopEnd .a) (lineA (engaged .stopping .pause none)))) = [(.lineRole, 0, 0)] ∧
      told (after (exec (.yieldEnd .a) (lineA (engaged .yielding .idle none)))) = [(.lineRole, 1, 0)] := by decide

/-- Line A a STANDBY judged silent at the last tick. -/
def silent (takeover : Bool) : State :=
  lineA fun e => { e with role := .standby, params := { e.params with autoTakeover := takeover }
                          silence := { e.silence with due := true } }

theorem test_meets_RolesEnd_by_takeover :
    (after (exec (.lineSilent .a) (silent false))).lineA.silence.flag = true ∧
      (after (exec (.lineSilent .a) (silent true))).lineA.role = .master ∧
      ((silent true).onMaster .a .takeover).lineA.cycle.owed = true ∧
      ((silent true).onMaster .a .takeover).lineA.cycle.gapCount = (silent true).lineA.params.gapQuota ∧
      (after (exec (.lineSilent .a) (silent true))).lineA.cycle.number = 1 := by decide

/-- The clock unit with XREF_ENABLE set and the monitor in a state. -/
def monitored (m : Monitor) (effective : Source) (edges : Nat) : State :=
  { State.reset with clock := { ClockUnit.reset with xrefEnable := true, requested := .xref, effective, monitor := m, edges } }

theorem test_meets_XrefMonitor :
    State.reset.clock.xrefEnable = false ∧
      (after (exec (.xrefEdge false) (monitored .absent .iosc 0))).clock.monitor = .starting ∧
      (after (exec (.xrefEdge true) (monitored .starting .iosc 4095))).clock.monitor = .present ∧
      (after (exec (.xrefEdge false) (monitored .starting .iosc 4095))).clock.monitor = .starting ∧
      (after (exec .xrefPresent (monitored .starting .iosc 4095))).clock.monitor = .present ∧
      (after (exec .xrefLost (monitored .present .iosc 4096))).clock.monitor = .absent := by decide

theorem test_meets_ClockSwitchAndFallback :
    (after (exec .clockSwitch (monitored .present .iosc 4096))).clock.effective = .xref ∧
      (after (exec .xrefLost (monitored .present .xref 4096))).readRegister 0x12 = 0x0B ∧
      (after (exec .xrefLost (monitored .present .xref 4096))).clock.requested = .iosc := by decide

/-- What line A becomes at a fallback. -/
def fallen (f : LineEngine → LineEngine) : State :=
  after (exec .xrefLost ((monitored .present .xref 4096).modLine .a f))

theorem test_meets_ClockSwitchAndFallback_with_work_in_hand :
    (fallen fun _ => (sending none []).lineA).lineA.tx.stop = some .clockFault ∧
      (∀ x ∈ [StopCause.contention, .reset], (fallen fun _ => (sending (some x) []).lineA).lineA.tx.stop = some .clockFault) ∧
      (fallen fun _ => (sending none []).lineA).lineA.ctl.state = .send ∧
      (fallen (engaged .master .discard (some pollOf4))).lineA.ctl.discard = .faulty .clockFault ∧
      (fallen (engaged .master .receive (some pollOf4))).lineA.ctl.state = .discard ∧
      (fallen fun _ => (watching (some seenPoll) .candidate .control .none).lineA).lineA.observer = .empty ∧
      ((after (exec .xrefLost { assembling0 .append (watching (some seenPoll) (.matched .reply true 2) .check .assembling) with
        clock := (monitored .present .xref 4096).clock })).buffer 0).place = .free := by decide

/-- A fallback in SEND ends the attempt CLOCK_FAULT with the contention count unchanged, though a mismatch was found before it and
though the last character has been sent (R62). -/
theorem test_fallback_over_a_contention_ends_clock_fault :
    ∀ e ∈ [(sending (some .contention) []).lineA, (engaged .master .send (some pollOf4) .reset)],
      let s := drop4 .online (fallen fun _ => e)
      let t := after (exec (.clockFaultReport .a) s)
      (t.lineA.ctl.txn.map (·.lastOutcome)) = some TxnOutcome.clockFault ∧ t.lineA.contention = 0 ∧ t.lineA.counters.contention = 0 ∧
        after (exec (.contentionReport .a) s) = s := by decide

theorem test_meets_ClockSwitchAndFallback_in_a_stop_bit :
    (after (exec .clockSwitch ((monitored .present .iosc 4096).modLine .b fun e =>
      { e with params := { e.params with divXref := 7 }, stamping := some { buffer := 2, left := 41 } }))).lineB.stamping
      = some { buffer := 2, left := 21 } := by decide

end Sys2Proof.Tests
end

/-! The check character (R13): the sum of bytes, the characters of a call, and the frame reader over a correct frame. -/

namespace Sys2Proof.Proofs.CheckCharacter

open Sys2Proof Sys2Proof.Machine

/-! ### The modulo-256 sum -/

theorem sumBytes_eq_sum (bs : List Byte) : sumBytes bs = bs.sum :=
  List.sum_eq_foldl.symm

@[simp] theorem sumBytes_nil : sumBytes [] = 0#8 := rfl

@[simp] theorem sumBytes_cons (b : Byte) (bs : List Byte) : sumBytes (b :: bs) = b + sumBytes bs := by
  simp only [sumBytes_eq_sum, List.sum_cons]

@[simp] theorem sumBytes_append (bs cs : List Byte) : sumBytes (bs ++ cs) = sumBytes bs + sumBytes cs := by
  simp only [sumBytes_eq_sum, List.sum_append]

theorem sumBytes_eq_ofNat (bs : List Byte) : sumBytes bs = BitVec.ofNat 8 (bs.map BitVec.toNat).sum := by
  induction bs with
  | nil => rfl
  | cons b bs ih => simp [ih, BitVec.ofNat_add]

/-- R13: the bytes of a correct frame sum to 0xFF. -/
theorem sumBytes_append_checkByte (bs : List Byte) : sumBytes (bs ++ [checkByte bs]) = 0xFF := by
  calc
    _ = sumBytes bs + ~~~sumBytes bs := by rw [sumBytes_append, sumBytes_cons, sumBytes_nil, BitVec.add_zero, checkByte]
    _ = 0xFF := BitVec.add_not_self _

/-! ### The transmitter -/

/-- The data bytes of a call's characters: no mark bit is in the sum (R13). -/
theorem data_chars (c : Call) : c.chars.map (·.data) = c.body ++ [checkByte c.body] := by
  simp [Call.chars, Call.body, Function.comp_def]

/-! ### The frame reader, character by character -/

theorem readAll_cons (r : Reader) (gap : Nat) (c : RxChar) (cs : List RxChar) :
    readAll r gap (c :: cs) = readAll (r.char gap c).1 gap cs := rfl

theorem readAll_append (r : Reader) (gap : Nat) (cs ds : List RxChar) :
    readAll r gap (cs ++ ds) = readAll (readAll r gap cs) gap ds :=
  List.foldl_append

/-- The frame reader in a frame of `n` payload bytes that has taken `k` of them, the bytes so far with this sum. -/
def inPayload (gap : Nat) (sum : Byte) (n k : Nat) : Reader :=
  { state := .inFrame, position := if k < n then .payload k else .check, sum, expected := n, gap }

/-- The address, control and length characters bring a reader in HUNT to the first payload byte, or to the check character
of a frame without payload (R15, R16). -/
theorem readAll_header {r : Reader} (hunting : r.state = .hunt) (gap : Nat) (address control : Byte) {n : Nat} (short : n ≤ 32) :
    readAll r gap [goodChar true address, goodChar false control, goodChar false (BitVec.ofNat 8 n)] =
      inPayload gap (sumBytes [address, control, BitVec.ofNat 8 n]) n 0 := by
  have length_value : (BitVec.ofNat 8 n).toNat = n := by simp; omega
  have length_zero : BitVec.ofNat 8 n = 0#8 ↔ n = 0 := by
    rw [← BitVec.toNat_inj, length_value, BitVec.toNat_zero]
  simp [readAll, goodChar, Reader.char, hunting, Reader.hunt, Reader.take, inPayload, length_value, length_zero,
    Nat.not_lt.mpr short, Nat.pos_iff_ne_zero, BitVec.add_assoc]

theorem char_inPayload (gap : Nat) (sum b : Byte) {n k : Nat} (more : k < n) :
    ((inPayload gap sum n k).char gap (goodChar false b)).1 = inPayload gap (sum + b) n (k + 1) := by
  simp [inPayload, goodChar, Reader.char, Reader.take, more]

/-- The payload characters that a frame still lacks bring its reader to the check character (R16). -/
theorem readAll_payload (gap n : Nat) (bs : List Byte) (sum : Byte) (k : Nat) (rest : k + bs.length = n) :
    readAll (inPayload gap sum n k) gap (bs.map (goodChar false)) = inPayload gap (sum + sumBytes bs) n n := by
  induction bs generalizing sum k with
  | nil =>
    obtain rfl : k = n := rest
    simp [readAll]
  | cons b bs ih =>
    rw [List.length_cons] at rest
    rw [List.map_cons, readAll_cons, char_inPayload gap sum b (by omega), ih (sum + b) (k + 1) (by omega), sumBytes_cons,
      BitVec.add_assoc]

/-- A frame before its check character leaves the reader with the sum of its bytes. -/
theorem readAll_body {r : Reader} (hunting : r.state = .hunt) (gap : Nat) (address control : Byte) {payload : List Byte}
    (short : payload.length ≤ 32) :
    readAll r gap (goodChar true address :: (control :: BitVec.ofNat 8 payload.length :: payload).map (goodChar false)) =
      inPayload gap (sumBytes (address :: control :: BitVec.ofNat 8 payload.length :: payload)) payload.length payload.length :=
  calc
    _ = readAll (readAll r gap [goodChar true address, goodChar false control, goodChar false (BitVec.ofNat 8 payload.length)])
          gap (payload.map (goodChar false)) := readAll_append ..
    _ = inPayload gap (sumBytes [address, control, BitVec.ofNat 8 payload.length] + sumBytes payload)
          payload.length payload.length := by
      rw [readAll_header hunting gap address control short, readAll_payload gap _ payload _ 0 (Nat.zero_add _)]
    _ = _ := by rw [← sumBytes_append]; rfl

/-- After the payload the reader judges the check character by its sum (R16). -/
theorem report_check (gap : Nat) (sum b : Byte) (n : Nat) :
    ((inPayload gap sum n n).char gap (goodChar false b)).2 = some (if b = ~~~sum then .complete else .fault .check) := by
  by_cases correct : b = ~~~sum <;> simp [inPayload, goodChar, Reader.char, Reader.take, correct]

/-- Settles O52: the sum is a sum of naturals modulo 256, the transmitter sends its complement, and the frame reader, which
follows the sum of the same bytes, completes on that byte alone. -/
theorem checkCharacter : Obligations.CheckCharacter := by
  unfold Obligations.CheckCharacter
  refine ⟨fun bs => ⟨?complement, sumBytes_append_checkByte bs⟩, data_chars, ?reader⟩
  case complement => rw [checkByte, sumBytes_eq_ofNat]
  case reader =>
    intro r gap address control b payload hunting short body r'
    have read : r' = inPayload gap (sumBytes body) payload.length payload.length :=
      readAll_body hunting gap address control short
    rw [read]
    exact ⟨rfl, if_neg (Nat.lt_irrefl _), report_check gap _ b _⟩

end Sys2Proof.Proofs.CheckCharacter

/-! The drop table: what a step can do to a drop record (chapter 2), and the invariant of its failure counts (R23). Engines
reach the drop records only through reports; a record changes in no other way but by a command, a device reset or a host
write. -/

namespace Sys2Proof.Proofs.DropTable

open Sys2Proof Sys2Proof.Machine

/-! ### What can happen to a record -/

/-- One report to a drop record: an end report (R25), an observation (R135), or one that moves nothing but statistics and the
attention-pending flag (R32, R33, R36, R40, R49, R86). -/
inductive Report : Drop → Drop → Prop where
  | ended (x : Drop) (o : TxnOutcome) (began : Bool) : Report x (x.endReport o began)
  | observed (x : Drop) (l : Line) (toggle : Bool) : Report x (x.observe l toggle)
  | noted (x : Drop) (stats : DropStats) (attention : Bool) : Report x { x with stats, attention }

/-- What a step can do to a drop record. -/
inductive Change : Drop → Drop → Prop where
  | reported {x y : Drop} (h : Relation.ReflTransGen Report x y) : Change x y
  | enabled (x : Drop) : Change x x.enable
  | disabled {x y : Drop} (h : Relation.ReflTransGen Report x.disable y) : Change x y
  | written {x y : Drop} {k : Nat} {v : Byte} (off : x.state = .disabled) (h : x.write k v = some y) : Change x y
  | softReset (x : Drop) : Change x x.softReset
  | deviceReset (x : Drop) (n : Nat) : Change x (Drop.reset n)

/-! ### Records keep the agreement of R23 -/

theorem agrees_of_same {x y : Drop} (h : x.Agrees) (threshold : y.threshold = x.threshold) (failures : y.failures = x.failures)
    (state : y.state = x.state) : y.Agrees := by
  unfold Drop.Agrees at *
  rwa [threshold, failures, state]

theorem agrees_of_no_failures {x : Drop} (lower : 1 ≤ x.threshold) (upper : x.threshold ≤ 15) (failures : x.failures = 0)
    (state : x.state = .disabled ∨ x.state = .online ∨ x.state = .unknown) : x.Agrees := by
  refine ⟨lower, upper, by omega, ?_⟩
  rcases state with h | h | h <;> simp only [h, failures]
  omega

theorem agrees_succeed {x : Drop} (h : x.Agrees) : x.succeed.Agrees :=
  agrees_of_no_failures h.1 h.2.1 rfl (.inr (.inl rfl))

/-- A count that reaches the threshold makes the drop OFFLINE (R26). -/
theorem fail_state_of_reached {x : Drop} (reached : x.threshold ≤ min 15 (x.failures + 1)) : x.fail.state = .offline := by
  simp [Drop.fail, reached]

/-- Below the threshold an ONLINE drop becomes SUSPECT, and no other state moves (R26). -/
theorem fail_state_of_below {x : Drop} (below : ¬ x.threshold ≤ min 15 (x.failures + 1)) :
    x.fail.state = if x.state = .online then .suspect else x.state := by
  by_cases offline : x.state = .offline <;> simp [Drop.fail, offline, below]

/-- The count moves and the state is judged by the threshold at once, so that they go on agreeing (R26). -/
theorem agrees_fail {x : Drop} (h : x.Agrees) (enabled : x.state ≠ .disabled) : x.fail.Agrees := by
  obtain ⟨lower, upper, most, counted⟩ := h
  refine ⟨lower, upper, Nat.min_le_left _ _, ?_⟩
  by_cases reached : x.threshold ≤ min 15 (x.failures + 1)
  · rw [fail_state_of_reached reached]
    exact reached
  · have one_more : x.fail.failures = x.failures + 1 := Nat.min_eq_right (by omega)
    have threshold : x.fail.threshold = x.threshold := rfl
    rw [fail_state_of_below reached, one_more, threshold]
    cases state : x.state with
    | disabled => exact absurd state enabled
    | offline =>
      have already : x.threshold ≤ x.failures := by simpa only [state] using counted
      omega
    | unknown | online | suspect =>
      simp only [reduceCtorEq, if_true, if_false]
      omega

theorem agrees_classify {x : Drop} (h : x.Agrees) (c : OutcomeClass) : (x.classify c).Agrees := by
  unfold Drop.classify
  split
  case isFalse => exact h
  case isTrue enabled =>
    cases c with
    | success | alive => exact agrees_succeed h
    | fail => exact agrees_fail h (by simpa [Drop.enabled] using enabled)
    | neutral | requestOnly => exact h

theorem agrees_report {x y : Drop} (r : Report x y) (h : x.Agrees) : y.Agrees := by
  cases r with
  | ended o began =>
    refine agrees_classify ?_ o.cls
    exact agrees_of_same h rfl rfl rfl
  | observed l toggle =>
    unfold Drop.observe
    dsimp only
    split
    · exact agrees_of_same (agrees_succeed h) rfl rfl rfl
    · exact agrees_of_same h rfl rfl rfl
  | noted stats attention => exact agrees_of_same h rfl rfl rfl

theorem threshold_report {x y : Drop} (r : Report x y) : y.threshold = x.threshold := by
  have of_config {z : Drop} (h : z.config = x.config) : z.threshold = x.threshold := congrArg (·.2.2.2.1) h
  cases r with
  | ended o began => exact of_config (x.endReport_config o began)
  | observed l toggle => exact of_config (x.observe_config l toggle)
  | noted stats attention => rfl

theorem agrees_reports {x y : Drop} (r : Relation.ReflTransGen Report x y) (h : x.Agrees) : y.Agrees := by
  induction r with
  | refl => exact h
  | tail _ last ih => exact agrees_report last ih

theorem threshold_reports {x y : Drop} (r : Relation.ReflTransGen Report x y) : y.threshold = x.threshold := by
  induction r with
  | refl => rfl
  | tail _ last ih => exact (threshold_report last).trans ih

theorem inRange_eq_some {lo hi n m : Nat} (h : inRange lo hi n = some m) : lo ≤ m ∧ m ≤ hi := by
  unfold inRange at h
  split at h
  · cases h; assumption
  · cases h

/-- A host write takes a configuration field alone, and a threshold in its range (R37). -/
theorem write_keeps {x y : Drop} {k : Nat} {v : Byte} (h : x.write k v = some y) :
    y.state = x.state ∧ y.failures = x.failures ∧ (y.threshold = x.threshold ∨ 1 ≤ y.threshold ∧ y.threshold ≤ 15) := by
  unfold Drop.write at h
  split at h
  case h_4 =>
    obtain ⟨n, range, rfl⟩ := Option.map_eq_some_iff.mp h
    exact ⟨rfl, rfl, .inr (inRange_eq_some range)⟩
  case h_8 => cases h
  all_goals
    obtain ⟨_, _, rfl⟩ := Option.map_eq_some_iff.mp h
    exact ⟨rfl, rfl, .inl rfl⟩

theorem agrees_written {x y : Drop} {k : Nat} {v : Byte} (h : x.Agrees) (off : x.state = .disabled)
    (w : x.write k v = some y) : y.Agrees := by
  obtain ⟨lower, upper, -, counted⟩ := h
  obtain ⟨state, failures, threshold⟩ := write_keeps w
  rw [off] at counted state
  refine agrees_of_no_failures ?_ ?_ (failures.trans counted) (.inl state) <;> omega

theorem agrees_reset (n : Nat) : (Drop.reset n).Agrees :=
  agrees_of_no_failures (by decide : 1 ≤ 3) (by decide : 3 ≤ 15) rfl (.inl rfl)

theorem agrees_change {x y : Drop} (c : Change x y) (h : x.Agrees) : y.Agrees := by
  have cleared {z : Drop} (threshold : z.threshold = x.threshold) (failures : z.failures = 0)
      (state : z.state = .disabled ∨ z.state = .online ∨ z.state = .unknown) : z.Agrees :=
    agrees_of_no_failures (threshold ▸ h.1) (threshold ▸ h.2.1) failures state
  cases c with
  | reported r => exact agrees_reports r h
  | enabled => exact cleared rfl rfl (.inr (.inr rfl))
  | disabled r => exact agrees_reports r (cleared rfl rfl (.inl rfl))
  | written off w => exact agrees_written h off w
  | softReset =>
    refine cleared rfl rfl ?_
    unfold Drop.softReset
    dsimp only
    split
    · exact .inr (.inr rfl)
    · exact .inl rfl
  | deviceReset n => exact agrees_reset n

/-- A threshold changes only while the drop is DISABLED, or by a device reset, which makes it so (R37, R38). -/
theorem threshold_change {x y : Drop} (c : Change x y) :
    y.threshold = x.threshold ∨ x.state = .disabled ∨ y.state = .disabled := by
  cases c with
  | reported r => exact .inl (threshold_reports r)
  | enabled => exact .inl rfl
  | disabled r => exact .inl ((threshold_reports r).trans rfl)
  | written off _ => exact .inr (.inl off)
  | softReset => exact .inl rfl
  | deviceReset n => exact .inr (.inr rfl)

/-! ### Operations that leave every record alone -/

section

variable (s : State) (l : Line)

@[simp] theorem raise_drops (b : SummaryBit) : (s.raise b).drops = s.drops := rfl

@[simp] theorem post_drops (k : EventKind) (o : Option Line) (d : Option DropIx) (t : Option Tag) (c e : Byte) :
    (s.post k o d t c e).drops = s.drops := rfl

@[simp] theorem postRole_drops (c : RoleCause) : (s.postRole l c).drops = s.drops := rfl

@[simp] theorem postIfChanged_drops (d : DropIx) (old : DropState) : (s.postIfChanged d old).drops = s.drops := by
  unfold State.postIfChanged; split <;> rfl

/-! #### Buffers -/

@[simp] theorem freeAt_drops (b : BufIx) : (s.freeAt b).drops = s.drops := rfl

@[simp] theorem freeAssembling_drops : (s.freeAssembling l).drops = s.drops := by rw [State.freeAssembling_eq]

@[simp] theorem freeHeld_drops (t : Tag) : (s.freeHeld t).drops = s.drops := by rw [State.freeHeld_eq]

@[simp] theorem claimAssembly_drops (n : Nat) (m : StoreMode) : (s.claimAssembly l n m).1.drops = s.drops := by
  unfold State.claimAssembly; dsimp only; split <;> simp [State.countReplyLost]

@[simp] theorem writePayload_drops (k : Nat) (b : Byte) : (s.writePayload l k b).drops = s.drops := by
  unfold State.writePayload; split <;> rfl

@[simp] theorem storeReady_drops (b : BufIx) : (s.storeReady b).drops = s.drops := by
  unfold State.storeReady; dsimp only; split <;> rfl

@[simp] theorem handOver_drops (o : Origin) (t : Option Tag) (d : DropIx) (a x : Bool) :
    (s.handOver l o t d a x).drops = s.drops := by
  unfold State.handOver; split <;> simp

@[simp] theorem tickStamp_drops (n : Nat) : (s.tickStamp l n).drops = s.drops := by
  rw [State.tickStamp_eq]; simp

@[simp] theorem openHead_drops : s.openHead.drops = s.drops := by
  unfold State.openHead
  split
  · rfl
  · next b _ _ =>
    obtain ⟨f, settled⟩ := s.settleStamp_eq b
    rw [settled]; simp

@[simp] theorem releaseHead_drops : s.releaseHead.drops = s.drops := by
  unfold State.releaseHead; split <;> rfl

/-! #### Requests -/

@[simp] theorem complete_drops (t : Tag) (o : TxnOutcome) (n : Nat) (b : Bool) : (s.complete t o n b).drops = s.drops := by
  simp [State.complete]

@[simp] theorem completeQueued_drops (t : Tag) (o : TxnOutcome) : (s.completeQueued t o).drops = s.drops := by
  simp [State.completeQueued, State.unqueue]

theorem foldl_drops {α : Type} {f : State → α → State} (hf : ∀ s a, (f s a).drops = s.drops) (as : List α) :
    (as.foldl f s).drops = s.drops := by
  induction as generalizing s with
  | nil => rfl
  | cons a as ih => exact (ih _).trans (hf s a)

@[simp] theorem completeAll_drops (w : Slot → Bool) (o : TxnOutcome) : (s.completeAll l w o).drops = s.drops :=
  foldl_drops s (fun s t => completeQueued_drops s t o) _

@[simp] theorem putBack_drops (t : Tag) (n : Nat) : (s.putBack t n).drops = s.drops := by simp [State.putBack]

@[simp] theorem placeRequest_drops (r : Request) : (s.placeRequest r).drops = s.drops := by
  unfold State.placeRequest State.claimPayload; dsimp only
  rw [State.modLine_drops]
  split
  · split <;> rfl
  · rfl

/-! #### Cycles and the start of work -/

@[simp] theorem postCycleDone_drops (b : Bool) : (s.postCycleDone l b).drops = s.drops := by
  unfold State.postCycleDone; dsimp only; split <;> rfl

@[simp] theorem endCycle_drops : (s.endCycle l).drops = s.drops := by simp [State.endCycle]

@[simp] theorem abandonCycle_drops : (s.abandonCycle l).drops = s.drops := by
  unfold State.abandonCycle; split <;> simp

@[simp] theorem swapBanks_drops : (s.swapBanks l).drops = s.drops := by simp [State.swapBanks]

@[simp] theorem startCycle_drops : (s.startCycle l).drops = s.drops := by
  unfold State.startCycle; dsimp only; split <;> simp

@[simp] theorem enterGuard_drops (x : Txn) : (s.enterGuard l x).drops = s.drops := by simp [State.enterGuard]

@[simp] theorem startPoll_drops (x : TxnSource) (d : DropIx) : (s.startPoll l x d).drops = s.drops := enterGuard_drops ..

@[simp] theorem startSync_drops : (s.startSync l).drops = s.drops := enterGuard_drops ..

@[simp] theorem countPerformed_drops : (s.countPerformed l).drops = s.drops := by simp [State.countPerformed]

@[simp] theorem countSkippedInvalid_drops : (s.countSkippedInvalid l).drops = s.drops := by simp [State.countSkippedInvalid]

@[simp] theorem countSkippedOffline_drops : (s.countSkippedOffline l).drops = s.drops := by simp [State.countSkippedOffline]

@[simp] theorem startPause_drops (n : Nat) : (s.startPause l n).drops = s.drops := by simp [State.startPause]

@[simp] theorem startRequest_drops (t : Tag) : (s.startRequest l t).drops = s.drops := by
  simp [State.startRequest, State.unqueue]

@[simp] theorem walkBank_drops (n : Nat) : (walkBank n l s).drops = s.drops := by
  induction n generalizing s with
  | zero => exact endCycle_drops s l
  | succ n ih =>
    unfold walkBank
    dsimp only
    split
    · simp
    · split
      · simp
      · simp
      · split_ifs <;> simp [ih]

@[simp] theorem scheduleStep_drops : (s.scheduleStep l).drops = s.drops := by
  unfold State.scheduleStep; split <;> simp

@[simp] theorem cycleStep_drops : (s.cycleStep l).drops = s.drops := by
  unfold State.cycleStep; split <;> simp

@[simp] theorem normalStep_drops : (s.normalStep l).drops = s.drops := by
  unfold State.normalStep; split <;> simp

/-! #### The ends of transactions and of roles -/

@[simp] theorem countEntry_drops (x : Txn) (o : TxnOutcome) : (s.countEntry l x o).drops = s.drops := by
  unfold State.countEntry; split_ifs <;> simp

@[simp] theorem completeTxn_drops (x : Txn) (o : TxnOutcome) : (s.completeTxn x o).drops = s.drops := by
  unfold State.completeTxn; split <;> simp

@[simp] theorem reportToSlot_drops (x : Txn) (o : TxnOutcome) : (s.reportToSlot x o).drops = s.drops := by
  unfold State.reportToSlot; split <;> rfl

@[simp] theorem declareError_drops : (s.declareError l).drops = s.drops := by
  unfold State.declareError; split <;> simp [State.flushReader]

@[simp] theorem abandonFrame_drops : (s.abandonFrame l).drops = s.drops := by simp [State.abandonFrame]

@[simp] theorem startStandby_drops : (s.startStandby l).drops = s.drops := by simp [State.startStandby]

@[simp] theorem countContention_drops : (s.countContention l).drops = s.drops := by simp [State.countContention]

@[simp] theorem enterBackoff_drops : (s.enterBackoff l).drops = s.drops := by simp [State.enterBackoff]

@[simp] theorem startReceiver_drops : (s.startReceiver l).drops = s.drops := by simp [State.startReceiver]

@[simp] theorem leaveRole_drops : (s.leaveRole l).drops = s.drops := by
  unfold State.leaveRole; split <;> simp

@[simp] theorem becomeStandby_drops : (s.becomeStandby l).drops = s.drops := by simp [State.becomeStandby]

@[simp] theorem stopStandby_drops : (s.stopStandby l).drops = s.drops := by simp [State.stopStandby]

@[simp] theorem resetActive_drops : (s.resetActive l).drops = s.drops := by
  unfold State.resetActive; split <;> simp

@[simp] theorem resetRequests_drops : (s.resetRequests l).drops = s.drops := by simp [State.resetRequests]

/-! #### Frames and characters -/

@[simp] theorem discard_drops (w : DiscardWhy) : (s.discard l w).drops = s.drops := by simp [State.discard]

@[simp] theorem faultReply_drops (o : TxnOutcome) : (s.faultReply l o).drops = s.drops := by simp [State.faultReply]

@[simp] theorem countUnsolicited_drops : (s.countUnsolicited l).drops = s.drops := by simp [State.countUnsolicited]

@[simp] theorem countStale_drops : (s.countStale l).drops = s.drops := by simp [State.countStale]

@[simp] theorem countNoise_drops : (s.countNoise l).drops = s.drops := by simp [State.countNoise]

@[simp] theorem receiveLength_drops (n : Nat) : (s.receiveLength l n).drops = s.drops := by
  unfold State.receiveLength
  dsimp only
  split_ifs
  · simp
  · split <;> simp
  · simp

@[simp] theorem forgetCall_drops : (s.forgetCall l).drops = s.drops := by simp [State.forgetCall]

@[simp] theorem emptyObserver_drops : (s.emptyObserver l).drops = s.drops := by simp [State.emptyObserver]

@[simp] theorem observeStart_drops (b : Byte) : (s.observeStart l b).drops = s.drops := by
  unfold State.observeStart; dsimp only; split_ifs <;> simp

@[simp] theorem observeControl_drops (b : Byte) : (s.observeControl l b).drops = s.drops := by
  unfold State.observeControl
  dsimp only
  split
  · simp
  · split
    · split_ifs <;> simp
    · simp
  all_goals rfl

@[simp] theorem observeLength_drops (n : Nat) : (s.observeLength l n).drops = s.drops := by
  unfold State.observeLength
  split
  · simp
  · dsimp only
    split
    · simp
    · split <;> simp
  · split_ifs <;> simp
  all_goals rfl

@[simp] theorem observePayload_drops (k : Nat) (b : Byte) : (s.observePayload l k b).drops = s.drops := by
  unfold State.observePayload; dsimp only; split <;> simp

@[simp] theorem observeCall_drops (a : BitVec 7) (c : Byte) (n : Nat) : (s.observeCall l a c n).drops = s.drops := by
  unfold State.observeCall; dsimp only; split <;> simp

@[simp] theorem observeUnmatchedEnd_drops : (s.observeUnmatchedEnd l).drops = s.drops := by
  unfold State.observeUnmatchedEnd; split <;> simp

@[simp] theorem observeFault_drops : (s.observeFault l).drops = s.drops := by
  unfold State.observeFault; split <;> simp

@[simp] theorem observeGap_drops : (s.observeGap l).drops = s.drops := by
  unfold State.observeGap; split <;> simp

@[simp] theorem observeClosed_drops : (s.observeClosed l).drops = s.drops := by
  unfold State.observeClosed; split <;> simp

@[simp] theorem enterAwait_drops (t : BitTimer) : (s.enterAwait l t).drops = s.drops := by simp [State.enterAwait]

@[simp] theorem reloadDivisor_drops : (s.reloadDivisor l).drops = s.drops := by simp [State.reloadDivisor]

@[simp] theorem beginCall_drops : (s.beginCall l).drops = s.drops := by
  unfold State.beginCall; dsimp only; split_ifs <;> simp

@[simp] theorem startBit_drops : (s.startBit l).drops = s.drops := by
  unfold State.startBit; dsimp only; split_ifs <;> simp

@[simp] theorem restartSilence_drops : (s.restartSilence l).drops = s.drops := by simp [State.restartSilence]

@[simp] theorem gapPassed_drops : (s.gapPassed l).drops = s.drops := by simp [State.gapPassed]

@[simp] theorem observerTimerElapsed_drops : (s.observerTimerElapsed l).drops = s.drops := by
  unfold State.observerTimerElapsed; dsimp only; split_ifs <;> simp

@[simp] theorem takeBackoff_drops : (s.takeBackoff l).drops = s.drops := by
  unfold State.takeBackoff
  split
  · split <;> simp
  · rfl

/-! #### Clocks -/

@[simp] theorem switchClock_drops : s.switchClock.drops = s.drops := by simp [State.switchClock]

@[simp] theorem countOverrun_drops : (s.countOverrun l).drops = s.drops := by simp [State.countOverrun]

@[simp] theorem overrun_drops : (s.overrun l).drops = s.drops := by
  unfold State.overrun; dsimp only; split <;> simp [State.reportOverrun]

@[simp] theorem period_drops : s.period.drops = s.drops := rfl

end

/-! ### Operations that reach the records only through reports -/

/-- Every drop record has taken reports alone on the way from `s` to `t`. -/
structure Reported (s t : State) : Prop where
  drop : ∀ d, Relation.ReflTransGen Report (s.drop d) (t.drop d)

namespace Reported

variable {s t u : State}

theorem refl (s : State) : Reported s s := ⟨fun _ => .refl⟩

theorem trans (h : Reported s t) (k : Reported t u) : Reported s u :=
  ⟨fun d => (h.drop d).trans (k.drop d)⟩

theorem same (h : Reported s t) (e : u.drops = t.drops) : Reported s u := by
  refine ⟨fun d => ?_⟩
  rw [show u.drop d = t.drop d by simp only [State.drop, e]]
  exact h.drop d

theorem foldl {α : Type} {f : State → α → State} (hf : ∀ s a, Reported s (f s a)) (as : List α) (h : Reported s t) :
    Reported s (as.foldl f t) := by
  induction as generalizing t with
  | nil => exact h
  | cons a as ih => exact ih (h.trans (hf t a))

theorem modDrop (h : Reported s t) (d : DropIx) {f : Drop → Drop} (hf : ∀ x, Report x (f x)) : Reported s (t.modDrop d f) := by
  refine ⟨fun e => ?_⟩
  rw [State.modDrop_drop]
  split
  case isTrue same => exact same ▸ (h.drop e).tail (hf _)
  case isFalse => exact h.drop e

theorem modDrops (h : Reported s t) {f : Drop → Drop} (hf : ∀ x, Report x (f x)) : Reported s (t.modDrops f) := by
  refine ⟨fun e => ?_⟩
  rw [State.modDrops_drop]
  exact (h.drop e).tail (hf _)

/-! #### The drop table -/

theorem endReport (h : Reported s t) (d : DropIx) (o : TxnOutcome) (b : Bool) : Reported s (t.endReport d o b) :=
  (h.modDrop d fun x => .ended x o b).same (postIfChanged_drops ..)

theorem observation (h : Reported s t) (d : DropIx) (l : Line) (b : Bool) : Reported s (t.observation d l b) :=
  (h.modDrop d fun x => .observed x l b).same (postIfChanged_drops ..)

theorem attemptReport (h : Reported s t) (d : DropIx) (o : TxnOutcome) (g a x : Bool) :
    Reported s (t.attemptReport d o g a x) := by
  have counted := h.modDrop d fun x => .noted x (x.stats.attempt o) x.attention
  unfold State.attemptReport
  dsimp only
  split
  case isFalse => exact counted
  case isTrue =>
    split
    · exact counted
    · exact counted.same (post_drops ..)
    · split
      · exact counted
      · exact counted.modDrop d fun x => .noted x x.stats true

theorem staleReport (h : Reported s t) (d : DropIx) : Reported s (t.staleReport d) := h.modDrop d fun x => .noted x _ x.attention

/-! #### Work selection and the end of a transaction -/

/-- The work selection clears an attention-pending flag where it starts the extra poll (R86), and no more. -/
theorem select (h : Reported s t) (l : Line) : Reported s (t.select l) := by
  unfold State.select
  split
  · exact h
  · split
    · exact h.same (startRequest_drops ..)
    · split
      · exact (h.modDrop _ fun x => .noted x x.stats false).same (startPoll_drops ..)
      · refine h.same ?_
        dsimp only
        split_ifs <;> simp

theorem reportEnd (h : Reported s t) (x : Txn) (o : TxnOutcome) : Reported s (t.reportEnd x o) := by
  unfold State.reportEnd
  split
  · exact h.endReport ..
  · exact h

theorem finishTxn (h : Reported s t) (l : Line) : Reported s (t.finishTxn l) := by
  unfold State.finishTxn
  split
  · exact h.same (by simp)
  · split
    · exact h.same (by simp)
    · next x _ _ o _ => exact ((h.same (countEntry_drops t l x o)).reportEnd x o).same (by simp)

theorem earlyEnd (h : Reported s t) (l : Line) : Reported s (t.earlyEnd l) := by
  unfold State.earlyEnd
  split
  iterate 3 exact h.finishTxn l
  all_goals exact h

theorem demote (h : Reported s t) (l : Line) : Reported s (t.demote l) :=
  (((finishTxn (h.same (by simp)) l).same (abandonCycle_drops ..)).same (abandonFrame_drops ..)).same (startStandby_drops ..)

theorem endYield (h : Reported s t) (l : Line) : Reported s (t.endYield l) := (h.earlyEnd l).same (by simp [State.endYield])

theorem endStop (h : Reported s t) (l : Line) : Reported s (t.endStop l) := (h.earlyEnd l).same (by simp [State.endStop])

theorem meetContention (h : Reported s t) (l : Line) : Reported s (t.meetContention l) := by
  have counted : Reported s (t.countContention l) := h.same (countContention_drops ..)
  unfold State.meetContention
  dsimp only
  split
  · exact counted.demote l
  · exact counted

theorem afterAttempt (h : Reported s t) (l : Line) (o : TxnOutcome) : Reported s (t.afterAttempt l o) := by
  unfold State.afterAttempt
  split
  · exact h
  · split
    · exact h.same (by split <;> simp)
    · exact (h.finishTxn l).select l

theorem reportAttempt (h : Reported s t) (x : Txn) (o : TxnOutcome) (a : Bool) : Reported s (t.reportAttempt x o a) := by
  refine same ?_ (reportToSlot_drops ..)
  unfold State.reportToDrop
  split
  · exact h.attemptReport ..
  · exact h

/-- The end of an attempt: its reports, contention, and what follows (R57, R58). -/
theorem endAttempt (h : Reported s t) (l : Line) (o : TxnOutcome) : Reported s (t.endAttempt l o) := by
  unfold State.endAttempt
  split
  · exact h
  · dsimp only
    have reports {u : State} (e : u.drops = t.drops) (x : Txn) (a : Bool) : Reported s (u.reportAttempt x o a) :=
      (h.same e).reportAttempt x o a
    split
    · split
      · exact ((reports (by simp) _ _).meetContention l).afterAttempt ..
      · exact (reports (by simp) _ _).meetContention l
    · exact (reports (by simp) _ _).afterAttempt ..

/-! #### Roles -/

theorem becomeMaster (h : Reported s t) (l : Line) (c : RoleCause) : Reported s (t.becomeMaster l c) :=
  (h.same (by simp)).select l

theorem beginYield (h : Reported s t) (l : Line) : Reported s (t.beginYield l) := by
  unfold State.beginYield
  dsimp only
  split
  · exact h.same (by simp)
  · exact (h.same (by simp)).endYield l

theorem beginStop (h : Reported s t) (l : Line) : Reported s (t.beginStop l) := by
  unfold State.beginStop
  dsimp only
  split
  · exact h.same (by simp)
  · exact (h.same (by simp)).endStop l

theorem takeSilence (h : Reported s t) (l : Line) : Reported s (t.takeSilence l) := by
  unfold State.takeSilence
  split
  · dsimp only
    split
    · exact (h.same (by simp)).becomeMaster ..
    · exact h.same (by simp)
  · exact h

/-- A line reset clears the attention-pending flags of the line's drops and no more (R40). -/
theorem resetLine (h : Reported s t) (l : Line) : Reported s (t.resetLine l) := by
  have cleared (x : Drop) : Report x (x.lineReset l) := by
    unfold Drop.lineReset
    split
    · exact .noted x x.stats false
    · exact .noted x x.stats x.attention
  refine ((h.same (u := (t.resetRequests l).freeAssembling l) (by simp)).modDrops cleared).same ?_
  unfold State.resetLine
  dsimp only
  split <;> simp

/-! #### The consumers of the frame reader -/

theorem quietReport (h : Reported s t) (l : Line) (r : ReaderReport) : Reported s (t.quietReport l r) := by
  unfold State.quietReport
  cases r with
  | start b =>
    dsimp only
    split
    · exact h.same (countUnsolicited_drops ..)
    · exact h.meetContention l
  | startFraming b => exact h.same (by dsimp only; split <;> simp)
  | stray => exact h.same (countUnsolicited_drops ..)
  | control | length | payload | complete | fault | closed => exact h

theorem awaitReport (h : Reported s t) (l : Line) (r : ReaderReport) : Reported s (t.awaitReport l r) := by
  unfold State.awaitReport
  cases r with
  | start b =>
    dsimp only
    split
    · exact h.endAttempt ..
    · exact h.same (by split <;> simp)
  | startFraming b => exact h.same (by dsimp only; split <;> simp)
  | stray => exact h.same (countUnsolicited_drops ..)
  | control | length | payload | complete | fault | closed => exact h

theorem receiveControl (h : Reported s t) (l : Line) (b : Byte) : Reported s (t.receiveControl l b) := by
  unfold State.receiveControl
  split
  · dsimp only
    refine same ?_ (discard_drops ..)
    have stale : Reported s (t.countStale l) := h.same (countStale_drops ..)
    split
    · exact stale.staleReport _
    · exact stale
  · refine h.same ?_
    dsimp only
    split
    · split <;> simp
    · simp

theorem receiveComplete (h : Reported s t) (l : Line) : Reported s (t.receiveComplete l) := by
  unfold State.receiveComplete
  dsimp only
  split
  · exact h
  · split
    · exact h.endAttempt ..
    · split
      · exact h.endAttempt ..
      · exact (h.same (handOver_drops ..)).endAttempt ..
      · exact (h.same (post_drops ..)).endAttempt ..

theorem receiveReport (h : Reported s t) (l : Line) (r : ReaderReport) : Reported s (t.receiveReport l r) := by
  cases r with
  | control b => exact h.receiveControl l b
  | length n => exact h.same (receiveLength_drops ..)
  | payload k b => exact h.same (by dsimp only [State.receiveReport]; split <;> simp)
  | complete => exact h.receiveComplete l
  | fault f =>
    cases f with
    | gap => exact h.endAttempt ..
    | framing | length | check => exact h.same (discard_drops ..)
  | start | startFraming | stray | closed => exact h

theorem discardEnd (h : Reported s t) (l : Line) : Reported s (t.discardEnd l) := by
  unfold State.discardEnd
  split
  · exact h.endAttempt ..
  · split
    · exact h.endAttempt ..
    · exact h.same (by simp)

theorem discardReport (h : Reported s t) (l : Line) (r : ReaderReport) : Reported s (t.discardReport l r) := by
  unfold State.discardReport
  split
  iterate 3 exact h.discardEnd l
  all_goals exact h

theorem controllerReport (h : Reported s t) (l : Line) (r : ReaderReport) : Reported s (t.controllerReport l r) := by
  unfold State.controllerReport
  split
  iterate 4 exact h.quietReport ..
  · exact h.awaitReport ..
  · exact h.receiveReport ..
  · exact h.discardReport ..
  · exact h.same (by simp)

theorem observeSuccess (h : Reported s t) (l : Line) (c : ObservedCall) (a : Bool) : Reported s (t.observeSuccess l c a) := by
  unfold State.observeSuccess
  refine (observation (h.same ?_) c.drop l c.toggle).same (forgetCall_drops ..)
  split <;> simp

theorem observeComplete (h : Reported s t) (l : Line) : Reported s (t.observeComplete l) := by
  unfold State.observeComplete
  dsimp only
  split
  · exact h.same (observeCall_drops ..)
  · split
    · exact h.observeSuccess ..
    · exact h.same (forgetCall_drops ..)
  all_goals exact h.same (by simp)

theorem observerReport (h : Reported s t) (l : Line) (r : ReaderReport) : Reported s (t.observerReport l r) := by
  cases r with
  | start b => exact h.same (observeStart_drops ..)
  | control b => exact h.same (observeControl_drops ..)
  | length n => exact h.same (observeLength_drops ..)
  | payload k b => exact h.same (observePayload_drops ..)
  | complete => exact h.observeComplete l
  | fault f =>
    cases f with
    | gap => exact h.same (observeGap_drops ..)
    | framing | length | check => exact h.same (observeFault_drops ..)
  | closed => exact h.same (observeClosed_drops ..)
  | startFraming | stray => exact h

theorem deliver (h : Reported s t) (l : Line) (r : ReaderReport) : Reported s (t.deliver l r) := by
  unfold State.deliver
  split
  iterate 3 exact h.controllerReport ..
  · exact h.observerReport ..
  · exact h

theorem passKept (h : Reported s t) (l : Line) : Reported s (t.passKept l) := by
  unfold State.passKept
  dsimp only
  split
  · exact foldl (fun s r => (refl s).controllerReport l r) _ (h.same (by simp))
  · exact h.same (by simp)

theorem readChar (h : Reported s t) (l : Line) (c : RxChar) : Reported s (t.readChar l c) := by
  unfold State.readChar
  dsimp only
  split
  · exact (h.same (by simp)).deliver ..
  · exact h.same (by simp)

/-! #### The character unit's rows -/

theorem settleWait (h : Reported s t) (l : Line) : Reported s (t.settleWait l) := by
  unfold State.settleWait
  dsimp only
  split
  · exact h.endAttempt ..
  · refine h.same ?_
    split
    · split <;> simp
    · rfl

theorem routeChar (h : Reported s t) (l : Line) (c : RxChar) : Reported s (t.routeChar l c) := by
  unfold State.routeChar
  dsimp only
  split
  · exact h.same (by simp)
  · exact (h.same (by simp)).readChar ..

theorem receiveChar (h : Reported s t) (l : Line) (c : RxChar) : Reported s (t.receiveChar l c) := by
  refine (routeChar (h.same ?_) l c).settleWait l
  dsimp only
  split_ifs <;> simp

theorem falseStart (h : Reported s t) (l : Line) (x : EdgeSamples) : Reported s (t.falseStart l x) :=
  (h.same (by simp)).settleWait l

theorem frameSent (h : Reported s t) (l : Line) : Reported s (t.frameSent l) := by
  unfold State.frameSent
  dsimp only
  split
  · exact ((h.same (by simp)).endAttempt l .ok).passKept l
  · exact (h.same (by simp)).passKept l

theorem endCall (h : Reported s t) (l : Line) (o : TxnOutcome) : Reported s (t.endCall l o) :=
  ((h.same (by simp)).endAttempt l o).passKept l

theorem windowElapsed (h : Reported s t) (l : Line) : Reported s (t.windowElapsed l) := by
  unfold State.windowElapsed
  dsimp only
  split
  · split
    · exact h.same (by simp)
    · exact (h.same (by simp)).endAttempt l .timeout
  · exact h.same (by simp)

/-! #### The clock unit's rows -/

theorem eachLine (h : Reported s t) {f : State → Line → State} (hf : ∀ s l, Reported s (f s l)) : Reported s (t.eachLine f) :=
  foldl hf bothLines h

theorem fallback (h : Reported s t) : Reported s t.fallback := by
  unfold State.fallback
  dsimp only
  have emptied (u : State) : (u.eachLine fun s l => if (s.line l).role = .standby then s.emptyObserver l else s).drops = u.drops :=
    foldl_drops u (fun s l => by split <;> simp) _
  refine eachLine (h.same (by simp [emptied])) fun s l => ?_
  split
  · exact (refl s).settleWait l
  · exact refl s

theorem loseXref (h : Reported s t) : Reported s t.loseXref := by
  unfold State.loseXref
  dsimp only
  split
  · exact (h.same (by simp)).fallback
  · exact h.same (by simp)

theorem takeExpiry (h : Reported s t) (l : Line) : Reported s (t.takeExpiry l) := by
  unfold State.takeExpiry State.expire
  split
  · dsimp only
    split
    · split
      · exact h.same (by simp)
      · exact (h.same (by simp)).select l
    · exact h.same (by simp)
  · exact h

theorem settleTick (h : Reported s t) (l : Line) : Reported s (t.settleTick l) :=
  ((h.takeExpiry l).same (takeBackoff_drops ..)).takeSilence l

theorem tick (h : Reported s t) : Reported s t.tick := by
  unfold State.tick
  dsimp only
  have stamped (u : State) (n : Nat) : (u.eachLine fun s l => s.tickStamp l n).drops = u.drops :=
    foldl_drops u (fun s l => tickStamp_drops s l n) _
  have settled : Reported s (t.eachLine State.settleTick) := h.eachLine fun s l => (refl s).settleTick l
  exact eachLine (settled.same (by simp [stamped])) fun s l => (refl s).select l

/-! #### Commands whose drops take reports alone -/

theorem runSubmit (h : Reported s t) : Reported s t.runSubmit := by
  unfold State.runSubmit
  split
  · exact h.same rfl
  · exact ((h.same (placeRequest_drops ..)).select _).same rfl

theorem endEarly (h : Reported s t) (l : Line) : Reported s (t.endEarly l) := by
  unfold State.endEarly
  split
  iterate 2 exact (h.finishTxn l).select l
  all_goals exact h

theorem abortActive (h : Reported s t) (i : Tag) : Reported s (t.abortActive i) := by
  unfold State.abortActive
  dsimp only
  split
  · exact (h.same (by simp)).endEarly _
  · exact h.same (by simp)

theorem withLine (h : Reported s t) (b : Byte) {f : Line → State} (hf : ∀ l, Reported s (f l)) :
    Reported s (t.withLine b f) := by
  unfold State.withLine
  split
  · exact hf _
  · exact h.same rfl

theorem withTag (h : Reported s t) (b : Byte) {f : Tag → State} (hf : ∀ i, Reported s (f i)) :
    Reported s (t.withTag b f) := by
  unfold State.withTag
  split
  · exact hf _
  · exact h.same rfl

theorem runRetire (h : Reported s t) : Reported s t.runRetire :=
  h.withTag _ fun _ => h.same (by split <;> rfl)

theorem runAbort (h : Reported s t) : Reported s t.runAbort := by
  refine h.withTag _ fun i => ?_
  split
  · exact h.same (completeQueued_drops ..)
  · exact (h.abortActive i).same rfl
  all_goals exact h.same rfl

theorem roleCommand (h : Reported s t) (r : Role) {f : State → Line → State} (hf : ∀ l, Reported s (f t l)) :
    Reported s (t.roleCommand r f) := by
  refine h.withLine _ fun l => ?_
  split
  · exact h.same rfl
  · exact (hf l).same rfl

theorem runLineStart (h : Reported s t) : Reported s t.runLineStart :=
  h.roleCommand _ fun l => h.becomeMaster l _

theorem runLineStandby (h : Reported s t) : Reported s t.runLineStandby := by
  refine h.roleCommand _ fun l => ?_
  split
  · exact h.same (becomeStandby_drops ..)
  · exact h.beginYield l

theorem runLineStop (h : Reported s t) : Reported s t.runLineStop := by
  refine h.roleCommand _ fun l => ?_
  split
  · exact h.same (stopStandby_drops ..)
  · exact h.beginStop l

theorem runLineReset (h : Reported s t) : Reported s t.runLineReset := by
  refine h.withLine _ fun l => ?_
  split
  · exact h.same (by simp)
  · exact (h.resetLine l).same rfl

theorem runSchedSwap (h : Reported s t) : Reported s t.runSchedSwap := by
  refine h.withLine _ fun l => h.same ?_
  dsimp only
  split_ifs
  · rfl
  · simp [State.done]
  · exact swapBanks_drops t l

theorem runTriggerCycle (h : Reported s t) : Reported s t.runTriggerCycle := by
  refine h.withLine _ fun l => ?_
  split
  · exact (select (h.same (by simp)) l).same rfl
  · exact h.same rfl

theorem runReadyOpen (h : Reported s t) : Reported s t.runReadyOpen := by
  refine h.same ?_
  unfold State.runReadyOpen
  split_ifs
  iterate 2 rfl
  exact openHead_drops t

theorem runReadyRelease (h : Reported s t) : Reported s t.runReadyRelease := by
  refine h.same ?_
  unfold State.runReadyRelease
  split
  · exact releaseHead_drops t
  · rfl

/-- CLEAR_COUNTERS moves statistics alone (R36). -/
theorem runClearCounters (h : Reported s t) : Reported s t.runClearCounters := by
  unfold State.runClearCounters
  split
  · unfold State.withDrop
    split
    · exact (h.modDrop _ fun x => .noted x .zero x.attention).same rfl
    · exact h.same rfl
  · exact h.withLine _ fun l => h.same (by simp [State.done])
  · exact (h.modDrops fun x => .noted x .zero x.attention).same rfl
  · exact h.same rfl

end Reported

/-! ### What a step can do to the drop table -/

/-- Every drop record has changed on the way from `s` to `t` in one of the ways of `Change`. -/
structure Changed (s t : State) : Prop where
  drop : ∀ d, Change (s.drop d) (t.drop d)

theorem Reported.changed {s t : State} (h : Reported s t) : Changed s t := ⟨fun d => .reported (h.drop d)⟩

theorem changed_of_drops {s t : State} (e : t.drops = s.drops) : Changed s t := ((Reported.refl s).same e).changed

theorem Changed.same {s t u : State} (h : Changed s t) (e : u.drops = t.drops) : Changed s u := by
  refine ⟨fun d => ?_⟩
  rw [show u.drop d = t.drop d by simp only [State.drop, e]]
  exact h.drop d

theorem Changed.of_same {s t u : State} (h : Changed t u) (e : t.drops = s.drops) : Changed s u := by
  refine ⟨fun d => ?_⟩
  rw [show s.drop d = t.drop d by simp only [State.drop, e]]
  exact h.drop d

theorem changed_setDrop {s : State} {d : DropIx} {x : Drop} (h : Change (s.drop d) x) : Changed s (s.setDrop d x) := by
  refine ⟨fun e => ?_⟩
  rw [State.setDrop_drop]
  split
  case isTrue same => exact same ▸ h
  case isFalse => exact .reported .refl

/-! #### Host writes -/

theorem writeDrop_changed {s t : State} {d : DropIx} {k : Nat} {v : Byte} (h : s.writeDrop d k v = .ok t) : Changed s t := by
  unfold State.writeDrop at h
  split at h
  · cases h
  · next disabled =>
    split at h
    · next x written =>
      cases h
      exact changed_setDrop (.written (by simpa [Drop.enabled] using disabled) written)
    · cases h

theorem writeBank_drops {s t : State} {l : Line} {n : Bool} {b : Option Bank} (h : s.writeBank l n b = .ok t) :
    t.drops = s.drops := by
  unfold State.writeBank at h
  split at h <;> cases h
  simp

theorem writeParam_drops {s t : State} {l : Line} {k : Nat} {p : Option LineParams} (h : s.writeParam l k p = .ok t) :
    t.drops = s.drops := by
  unfold State.writeParam at h
  split at h <;> cases h
  simp

theorem commitByte_changed {s t : State} {o : ObjectSel} {k : Nat} {v : Byte} (h : s.commitByte o k v = .ok t) :
    Changed s t := by
  unfold State.commitByte at h
  split at h
  · cases h
  · cases o with
    | drop d => exact writeDrop_changed h
    | sched l n => exact changed_of_drops (writeBank_drops h)
    | staging => cases h; exact changed_of_drops rfl
    | params l => exact changed_of_drops (writeParam_drops h)
    | slot | buffer | counters => cases h

theorem commitHalf_drops {s t : State} {o : ObjectSel} {k : Nat} {hi lo : Byte} (h : s.commitHalf o k hi lo = .ok t) :
    t.drops = s.drops := by
  unfold State.commitHalf at h
  split at h
  · cases h
  · cases o with
    | sched l n => exact writeBank_drops h
    | params l => exact writeParam_drops h
    | drop | staging | slot | buffer | counters => cases h

theorem settleWrite_changed {s : State} {k : Nat} {bytes : List Byte} {r : Except AccessStatus State}
    (h : ∀ t, r = .ok t → Changed s t) : Changed s (s.settleWrite k bytes r) := by
  unfold State.settleWrite
  split
  · next t => exact (h t rfl).same rfl
  · exact changed_of_drops rfl

theorem writeObject_changed (s : State) (o : ObjectSel) (k : Nat) (v : Byte) : Changed s (s.writeObject o k v) := by
  unfold State.writeObject
  split
  · exact changed_of_drops rfl
  · exact settleWrite_changed fun t h => commitByte_changed h
  · exact (settleWrite_changed fun t h => changed_of_drops (commitHalf_drops h)).of_same rfl

theorem writeData_changed (s : State) (v : Byte) : Changed s (s.writeData v) := by
  unfold State.writeData
  split
  · exact changed_of_drops rfl
  · split
    · exact changed_of_drops rfl
    · exact (writeObject_changed s ..).same rfl

theorem writeSelector_drops (s : State) (r : SelectReg) (v : Byte) : (s.writeSelector r v).drops = s.drops := by
  unfold State.writeSelector State.selectObject
  split <;> split <;> rfl

theorem commitDivider_drops (s : State) (c : Source) (v : Byte) : (s.commitDivider c v).drops = s.drops := by
  unfold State.commitDivider
  dsimp only
  split <;> rfl

theorem write_changed (s : State) (a : BitVec 6) (v : Byte) : Changed s (s.write a v) := by
  unfold State.write
  split
  · exact changed_of_drops rfl
  · unfold State.writeRegister
    split
    case h_6 => exact writeData_changed s v
    case h_3 | h_4 => exact changed_of_drops (writeSelector_drops ..)
    case h_16 | h_18 => exact changed_of_drops (commitDivider_drops ..)
    all_goals exact changed_of_drops rfl

/-! #### Commands -/

theorem withDrop_changed {s : State} (b : Byte) {f : DropIx → State} (hf : ∀ d, Changed s (f d)) : Changed s (s.withDrop b f) := by
  unfold State.withDrop
  split
  · exact hf _
  · exact changed_of_drops rfl

theorem runDropEnable_changed (s : State) : Changed s s.runDropEnable := by
  refine withDrop_changed _ fun d => ?_
  split
  · exact changed_of_drops rfl
  · exact (changed_setDrop (.enabled (s.drop d))).same rfl

/-- DROP_DISABLE clears the record first; the transaction that it ends early still reports to it (R31, R25). -/
theorem disableDrop_changed (s : State) (d : DropIx) : Changed s (s.disableDrop d) := by
  have reports : Reported (s.modDrop d Drop.disable) (s.disableDrop d) := by
    unfold State.disableDrop
    dsimp only
    split
    · exact Reported.endEarly ((Reported.refl _).same (by simp [State.postDropState])) _
    · exact (Reported.refl _).same (by simp [State.postDropState])
  refine ⟨fun e => ?_⟩
  have later := reports.drop e
  rw [State.modDrop_drop] at later
  split at later
  case isTrue same =>
    subst same
    exact .disabled later
  case isFalse => exact .reported later

theorem runDropDisable_changed (s : State) : Changed s s.runDropDisable := by
  refine withDrop_changed _ fun d => ?_
  split
  · exact (disableDrop_changed s d).same rfl
  · exact changed_of_drops rfl

theorem finishSoftReset_changed (s : State) : Changed s s.finishSoftReset := by
  have cleared : Changed s (s.modDrops Drop.softReset) := by
    refine ⟨fun d => ?_⟩
    rw [State.modDrops_drop]
    exact .softReset _
  exact cleared.same rfl

theorem runSoftReset_changed (s : State) : Changed s s.runSoftReset := by
  unfold State.runSoftReset
  dsimp only
  split
  · exact changed_of_drops rfl
  · exact (finishSoftReset_changed _).of_same rfl

theorem runCode_changed (code : Byte) (s : State) : Changed s (runCode code s) := by
  have h := Reported.refl s
  unfold runCode
  split
  · exact h.runSubmit.changed
  · exact h.runRetire.changed
  · exact h.runAbort.changed
  · exact runDropEnable_changed s
  · exact runDropDisable_changed s
  · exact h.runLineStart.changed
  · exact h.runLineStandby.changed
  · exact h.runLineStop.changed
  · exact h.runLineReset.changed
  · exact h.runSchedSwap.changed
  · exact h.runTriggerCycle.changed
  · exact h.runReadyOpen.changed
  · exact h.runReadyRelease.changed
  · exact h.runClearCounters.changed
  · exact runSoftReset_changed s
  · exact changed_of_drops rfl

theorem writeCmd_changed (s : State) (code : Byte) : Changed s (s.writeCmd code) := by
  unfold State.writeCmd State.startCommand
  split
  · exact changed_of_drops rfl
  · exact (runCode_changed code _).of_same rfl

/-! #### Rows -/

theorem Reported.when {s t : State} {p : Prop} [Decidable p] (h : Reported s t) : Reported s (if p then t else s) := by
  split
  · exact h
  · exact .refl s

theorem drop_reset (d : DropIx) : State.reset.drop d = Drop.reset d.val := by
  simp [State.drop, State.reset, resetDrops]

/-- The answer of every row is a state that the drop table has changed to, with nIRQ driven. -/
theorem exec_changed (c : Instr) (s : State) : ∃ t, exec c s = finish t ∧ Changed s t := by
  have h := Reported.refl s
  cases c with
  | deviceReset => exact ⟨_, rfl, ⟨fun d => (drop_reset d).symm ▸ .deviceReset _ d.val⟩⟩
  | submit => exact ⟨_, rfl, writeCmd_changed s 0x01⟩
  | retire => exact ⟨_, rfl, writeCmd_changed s 0x02⟩
  | abort => exact ⟨_, rfl, writeCmd_changed s 0x03⟩
  | dropEnable => exact ⟨_, rfl, writeCmd_changed s 0x10⟩
  | dropDisable => exact ⟨_, rfl, writeCmd_changed s 0x11⟩
  | lineStart => exact ⟨_, rfl, writeCmd_changed s 0x20⟩
  | lineStandby => exact ⟨_, rfl, writeCmd_changed s 0x21⟩
  | lineStop => exact ⟨_, rfl, writeCmd_changed s 0x22⟩
  | lineReset => exact ⟨_, rfl, writeCmd_changed s 0x23⟩
  | schedSwap => exact ⟨_, rfl, writeCmd_changed s 0x30⟩
  | triggerCycle => exact ⟨_, rfl, writeCmd_changed s 0x31⟩
  | readyOpen => exact ⟨_, rfl, writeCmd_changed s 0x40⟩
  | readyRelease => exact ⟨_, rfl, writeCmd_changed s 0x41⟩
  | clearCounters => exact ⟨_, rfl, writeCmd_changed s 0x50⟩
  | softReset => exact ⟨_, rfl, writeCmd_changed s 0x60⟩
  | badCommand code | cmdOverrun code => exact ⟨_, rfl, writeCmd_changed s code⟩
  | registerWrite a v =>
    refine ⟨_, rfl, ?_⟩
    split
    · exact writeCmd_changed s v
    · exact write_changed s a v
  | lineResetTakesEffect =>
    refine ⟨_, rfl, ?_⟩
    split
    · exact (h.resetLine _).changed.same rfl
    all_goals exact h.changed
  | softResetTakesEffect =>
    refine ⟨_, rfl, ?_⟩
    split
    · exact finishSoftReset_changed s
    all_goals exact h.changed
  | summaryClear | eventPop | accessSelect | accessOffsetWrite | accessDataWrite | clockControlWrite | tickDividerWrite
  | holdRegisterWrite => exact ⟨_, rfl, write_changed s _ _⟩
  | summaryRead | timestampRead | accessDataRead | eventAgeExpiry | xrefEdge | xrefPresent =>
    exact ⟨_, rfl, changed_of_drops rfl⟩
  | tick => exact ⟨_, rfl, h.tick.changed⟩
  | cycleTimerExpiry l => exact ⟨_, rfl, (h.takeExpiry l).changed⟩
  | backoffElapsed l => exact ⟨_, rfl, changed_of_drops (takeBackoff_drops s l)⟩
  | pauseElapsed l => exact ⟨_, rfl, (Reported.select (h.same (State.modLine_drops ..)) l).when.changed⟩
  | lineSilent l => exact ⟨_, rfl, (h.takeSilence l).changed⟩
  | characterReceived l x =>
    refine ⟨_, rfl, (Reported.when ?_).changed⟩
    split
    · exact h.falseStart ..
    · exact h.receiveChar ..
  | falseStart l x => exact ⟨_, rfl, (h.falseStart l x).when.changed⟩
  | guardSatisfied l => exact ⟨_, rfl, (h.same (beginCall_drops s l)).when.changed⟩
  | frameSent l => exact ⟨_, rfl, (h.frameSent l).when.changed⟩
  | echoMissing l => exact ⟨_, rfl, changed_of_drops (by simp)⟩
  | contentionReport l | clockFaultReport l => exact ⟨_, rfl, (h.endCall l _).when.changed⟩
  | gapFault l | quietEnd l => exact ⟨_, rfl, ((h.same (gapPassed_drops s l)).deliver l _).when.changed⟩
  | responseWindowElapsed l => exact ⟨_, rfl, (h.windowElapsed l).when.changed⟩
  | observerTimerElapsed l => exact ⟨_, rfl, (h.same (observerTimerElapsed_drops s l)).when.changed⟩
  | yieldEnd l => exact ⟨_, rfl, (h.endYield l).when.changed⟩
  | stopEnd l => exact ⟨_, rfl, (h.endStop l).when.changed⟩
  | xrefLost => exact ⟨_, rfl, h.loseXref.when.changed⟩
  | clockSwitch => exact ⟨_, rfl, (h.same (switchClock_drops s)).when.changed⟩
  | startBit l => exact ⟨_, rfl, (h.same (startBit_drops s l)).when.changed⟩
  | lineSeenHigh l => exact ⟨_, rfl, (h.same (State.modLine_drops ..)).when.changed⟩

/-- What any step does to a drop record, a command's or the passing of time. -/
theorem step_changed {s t : State} (h : step s = .next t) : Changed s t := by
  have row (c : Instr) (u : State) (e : exec c u = .next t) (same : u.drops = s.drops) : Changed s t := by
    obtain ⟨v, answer, changed⟩ := exec_changed c u
    rw [answer] at e
    cases e
    exact (changed.same (State.driveIrq_drops v)).of_same same
  unfold step at h
  split at h
  · exact row _ _ h rfl
  · split at h
    · exact row _ s h rfl
    · cases h
      exact changed_of_drops (period_drops s)

/-! ### The obligations -/

/-- Settles O5: a step changes each record in one of the ways of `Change`, and each of these keeps the agreement. -/
theorem failureCountsAgree : Obligations.FailureCountsAgree := by
  unfold Obligations.FailureCountsAgree
  refine ⟨fun d => drop_reset d ▸ agrees_reset d.val, fun s t agree taken => ?_⟩
  have changed := step_changed taken
  exact ⟨fun d => agrees_change (changed.drop d) (agree d), fun d => threshold_change (changed.drop d)⟩

/-- Settles O4: the records are those of reset, and no register shows the queue of waiting commands or nIRQ's pin. -/
theorem deviceResetDropRecords : Obligations.DeviceResetDropRecords := by
  unfold Obligations.DeviceResetDropRecords
  intro s
  have record : ∀ d, ({ State.reset with pending := s.pending, fresh := s.fresh }.driveIrq).drop d = Drop.reset d.val :=
    drop_reset
  refine ⟨_, rfl, fun d => ?_, rfl, rfl, fun a => rfl⟩
  have address : (Drop.reset d.val).address.toNat = d.val + 1 := Nat.mod_eq_of_lt (by omega)
  rw [record]
  exact ⟨rfl, address, rfl, rfl, rfl, rfl, rfl, rfl, rfl, rfl, rfl, rfl, rfl, rfl⟩

/-! ### CLEAR_COUNTERS (R36, R178) -/

theorem dropOf_eq_some {b : Byte} {d : DropIx} (h : b.toNat = d.val) : dropOf b = some d := by
  unfold dropOf
  rw [dif_pos (h ▸ d.isLt)]
  exact congrArg some (Fin.ext h)

theorem dropOf_eq_none {b : Byte} (h : 31 < b.toNat) : dropOf b = none :=
  dif_neg (by omega)

theorem lineOf_code (l : Line) : lineOf l.code = some l := by
  cases l <;> rfl

theorem lineOf_eq_none {b : Byte} (h : 1 < b.toNat) : lineOf b = none := by
  have ne_a : b ≠ 0 := by rintro rfl; cases h
  have ne_b : b ≠ 1 := by rintro rfl; exact absurd h (by decide)
  unfold lineOf
  rw [if_neg ne_a, if_neg ne_b]

/-- The state that an IDLE command unit runs CLEAR_COUNTERS on: the code is stored (R174). -/
def taken (s : State) : State :=
  s.modCommand fun c => { c with code := 0x50 }

theorem exec_clearCounters {s : State} (idle : s.idle) : exec .clearCounters s = finish (taken s).runClearCounters := by
  change finish (s.startCommand 0x50 State.runClearCounters) = _
  unfold State.startCommand
  rw [if_neg (by simp [idle]), taken]

theorem finish_refuse {s : State} (idle : s.idle) (why : CmdRefusal) :
    finish ((taken s).refuse why) = .next (refusedAs s 0x50 why) := by
  simp [finish, taken, refusedAs, State.refuse, State.modCommand, idle]

theorem runClearCounters_drop {s : State} {d : DropIx} (scope : s.bus.arg0 = 0) (named : s.bus.arg1.toNat = d.val) :
    s.runClearCounters = (s.modDrop d Drop.clearStats).done 0 := by
  unfold State.runClearCounters State.withDrop; rw [scope, dropOf_eq_some named]; rfl

theorem runClearCounters_badDrop {s : State} (scope : s.bus.arg0 = 0) (bad : 31 < s.bus.arg1.toNat) :
    s.runClearCounters = s.refuse .badDrop := by
  unfold State.runClearCounters State.withDrop; rw [scope, dropOf_eq_none bad]; rfl

theorem runClearCounters_line {s : State} {l : Line} (scope : s.bus.arg0 = 1) (named : s.bus.arg1 = l.code) :
    s.runClearCounters = (s.modCounters l fun _ => .zero).done 0 := by
  unfold State.runClearCounters State.withLine; rw [scope, named, lineOf_code]; rfl

theorem runClearCounters_badLine {s : State} (scope : s.bus.arg0 = 1) (bad : 1 < s.bus.arg1.toNat) :
    s.runClearCounters = s.refuse .badLine := by
  unfold State.runClearCounters State.withLine; rw [scope, lineOf_eq_none bad]; rfl

theorem runClearCounters_all {s : State} (scope : s.bus.arg0 = 2) :
    s.runClearCounters = ((s.modDrops Drop.clearStats).modLines fun _ e => { e with counters := .zero }).done 0 := by
  unfold State.runClearCounters; rw [scope]; rfl

theorem runClearCounters_badScope {s : State} (scope : 3 ≤ s.bus.arg0.toNat) : s.runClearCounters = s.refuse .badScope := by
  unfold State.runClearCounters
  split
  iterate 3 omega
  rfl

/-- Settles O30, scope by scope. -/
theorem clearCountersByScope : Obligations.ClearCountersByScope := by
  unfold Obligations.ClearCountersByScope
  intro s idle
  rw [exec_clearCounters idle]
  refine ⟨fun scope => ?badScope, fun scope bad => ?badDrop, fun scope bad => ?badLine, fun d scope named => ?drop,
    fun l scope named => ?line, fun scope => ?all⟩
  case badScope => rw [runClearCounters_badScope (s := taken s) scope, finish_refuse idle]
  case badDrop => rw [runClearCounters_badDrop (s := taken s) scope bad, finish_refuse idle]
  case badLine => rw [runClearCounters_badLine (s := taken s) scope bad, finish_refuse idle]
  case drop =>
    rw [runClearCounters_drop (s := taken s) scope named]
    rfl
  case line =>
    rw [runClearCounters_line (s := taken s) scope named]
    cases l <;> rfl
  case all =>
    rw [runClearCounters_all (s := taken s) scope]
    exact ⟨(s.modDrops Drop.clearStats).modLines fun _ e => { e with counters := .zero }, rfl, rfl,
      fun d => s.modDrops_drop Drop.clearStats d⟩

end Sys2Proof.Proofs.DropTable

/-! SCHED_SWAP and TRIGGER_CYCLE (R78, R71). A command runs with its code stored (R174), and the statement completes the whole
command unit after the effect: the effects do not read the command unit, so both orders give one state. -/

namespace Sys2Proof.Proofs.SwapAndTrigger

open Sys2Proof Sys2Proof.Machine Sys2Proof.Laws Sys2Proof.Proofs.DropTable

/-! ### The command unit around a command (R174) -/

section

variable {s : State}

/-- The state that an IDLE command unit runs a command on: the code is stored. -/
def coded (code : Byte) (s : State) : State :=
  withCommand { s.command with code } s

theorem startCommand_of_idle (idle : s.idle) (code : Byte) (run : State → State) :
    s.startCommand code run = run (coded code s) :=
  if_neg (by simp [idle])

theorem finish_done_withCommand (c : CommandUnit) (result : Byte) :
    finish ((withCommand c s).done result) = .next (doneAs s c.code result) := rfl

theorem finish_refuse_coded (idle : s.idle) (code : Byte) (why : CmdRefusal) :
    finish ((coded code s).refuse why) = .next (refusedAs s code why) := by
  simp [finish, coded, withCommand, refusedAs, State.refuse, State.modCommand, idle]

theorem coded_line (code : Byte) (l : Line) : (coded code s).line l = s.line l :=
  line_withCommand ..

theorem swapBanks_withCommand (c : CommandUnit) (l : Line) :
    (withCommand c s).swapBanks l = withCommand c (s.swapBanks l) := by cases l <;> rfl

theorem select_withCommand (c : CommandUnit) (l : Line) : (withCommand c s).select l = withCommand c (s.select l) :=
  select_command c s l

theorem withLine_of_code {b : Byte} {l : Line} (named : b = l.code) (f : Line → State) : s.withLine b f = f l := by
  unfold State.withLine
  rw [named, lineOf_code]

theorem withLine_of_bad {b : Byte} (bad : 1 < b.toNat) (f : Line → State) : s.withLine b f = s.refuse .badLine := by
  unfold State.withLine
  rw [lineOf_eq_none bad]

end

/-! ### SCHED_SWAP (R78) -/

section

variable {s : State} {l : Line}

theorem exec_schedSwap (idle : s.idle) : exec .schedSwap s = finish (coded 0x30 s).runSchedSwap :=
  congrArg finish (startCommand_of_idle idle ..)

theorem mastering_iff (r : Role) : r.mastering = true ↔ r = .master ∨ r = .yielding ∨ r = .stopping := by
  cases r <;> simp [Role.mastering]

theorem runSchedSwap_of_swapPending (named : s.bus.arg0 = l.code) (pending : (s.line l).sched.swapPending = true) :
    s.runSchedSwap = s.refuse .swapPending :=
  (withLine_of_code named _).trans (if_pos pending)

theorem runSchedSwap_of_no_swapPending (named : s.bus.arg0 = l.code) (free : (s.line l).sched.swapPending = false) :
    s.runSchedSwap =
      if (s.line l).role.mastering && (s.line l).cycle.inProgress then
        (s.modSched l fun x => { x with swapPending := true }).done 0
      else (s.swapBanks l).done 0 :=
  (withLine_of_code named _).trans (if_neg (by simp [free]))

theorem activeNumber_swapped (x : Schedule) :
    ({ x with active := !x.active, swapPending := false } : Schedule).activeNumber = if x.active then 0 else 1 := by
  cases active : x.active <;> simp [Schedule.activeNumber]

/-- With no swap pending the active bank alone changes on the line, and the record tells the bank active from then on. -/
theorem swapBanks_of_no_swapPending (free : (s.line l).sched.swapPending = false) :
    s.swapBanks l =
      { s.setLine l { s.line l with sched := { (s.line l).sched with active := !(s.line l).sched.active } } with
        events := s.events.post { kind := .scheduleSwapped, line := some l, drop := none, tag := none
                                  code := if (s.line l).sched.active then 0 else 1, detail := 0, stamp := s.clock.timestamp } } := by
  have flag_stays : ({ (s.line l).sched with active := !(s.line l).sched.active, swapPending := false } : Schedule) =
      { (s.line l).sched with active := !(s.line l).sched.active } := by rw [← free]
  unfold State.swapBanks State.post
  simp only [State.modSched_eq, State.modLine_line, if_pos, activeNumber_swapped]
  simp [State.modEvents, State.modLine, flag_stays]

theorem schedSwap_badLine (idle : s.idle) (bad : 1 < s.bus.arg0.toNat) :
    exec .schedSwap s = .next (refusedAs s 0x30 .badLine) := by
  have refused : (coded 0x30 s).runSchedSwap = (coded 0x30 s).refuse .badLine := withLine_of_bad bad _
  rw [exec_schedSwap idle, refused, finish_refuse_coded idle]

theorem schedSwap_swapPending (idle : s.idle) (named : s.bus.arg0 = l.code) (pending : (s.line l).sched.swapPending = true) :
    exec .schedSwap s = .next (refusedAs s 0x30 .swapPending) := by
  have refused : (coded 0x30 s).runSchedSwap = (coded 0x30 s).refuse .swapPending :=
    runSchedSwap_of_swapPending named (by rwa [coded_line])
  rw [exec_schedSwap idle, refused, finish_refuse_coded idle]

/-- The two accepted outcomes, by whether a mastering line has a cycle in progress. -/
theorem schedSwap_accepted (idle : s.idle) (named : s.bus.arg0 = l.code) (free : (s.line l).sched.swapPending = false) :
    exec .schedSwap s = .next (doneAs
      (if (s.line l).role.mastering && (s.line l).cycle.inProgress then s.modSched l fun x => { x with swapPending := true }
      else s.swapBanks l) 0x30 0) := by
  rw [exec_schedSwap idle, runSchedSwap_of_no_swapPending (s := coded 0x30 s) named (by rwa [coded_line]), coded_line]
  split
  · rw [coded, State.modSched_eq, modLine_withCommand, finish_done_withCommand, State.modSched_eq]
  · rw [coded, swapBanks_withCommand, finish_done_withCommand]

end

/-! ### TRIGGER_CYCLE (R71) -/

section

variable {s : State} {l : Line}

theorem exec_triggerCycle (idle : s.idle) : exec .triggerCycle s = finish (coded 0x31 s).runTriggerCycle :=
  congrArg finish (startCommand_of_idle idle ..)

theorem runTriggerCycle_of_master (named : s.bus.arg0 = l.code) (master : (s.line l).role = .master) :
    s.runTriggerCycle = ((s.modCycle l fun c => { c with owed := true }).select l).done 0 :=
  (withLine_of_code named _).trans (if_pos master)

theorem runTriggerCycle_of_not_master (named : s.bus.arg0 = l.code) (other : (s.line l).role ≠ .master) :
    s.runTriggerCycle = s.refuse .notMaster :=
  (withLine_of_code named _).trans (if_neg other)

/-- The work selection does nothing with work in hand (R84). -/
theorem select_of_not_idle (busy : (s.line l).ctl.state ≠ .idle) : s.select l = s :=
  if_pos (by simp [LineEngine.atBoundary, busy])

theorem triggerCycle_badLine (idle : s.idle) (bad : 1 < s.bus.arg0.toNat) :
    exec .triggerCycle s = .next (refusedAs s 0x31 .badLine) := by
  have refused : (coded 0x31 s).runTriggerCycle = (coded 0x31 s).refuse .badLine := withLine_of_bad bad _
  rw [exec_triggerCycle idle, refused, finish_refuse_coded idle]

theorem triggerCycle_notMaster (idle : s.idle) (named : s.bus.arg0 = l.code) (other : (s.line l).role ≠ .master) :
    exec .triggerCycle s = .next (refusedAs s 0x31 .notMaster) := by
  have refused : (coded 0x31 s).runTriggerCycle = (coded 0x31 s).refuse .notMaster :=
    runTriggerCycle_of_not_master named (by rwa [coded_line])
  rw [exec_triggerCycle idle, refused, finish_refuse_coded idle]

/-- An accepted TRIGGER_CYCLE: the pending flag, then the work selection. -/
theorem triggerCycle_master (idle : s.idle) (named : s.bus.arg0 = l.code) (master : (s.line l).role = .master) :
    exec .triggerCycle s = .next (doneAs
      ((s.setLine l { s.line l with cycle := { (s.line l).cycle with owed := true } }).select l) 0x31 0) := by
  rw [exec_triggerCycle idle, runTriggerCycle_of_master (s := coded 0x31 s) named (by rwa [coded_line]), coded,
    State.modCycle_eq, modLine_withCommand, select_withCommand, finish_done_withCommand, State.modLine]

end

/-- Settles O40: each command by its checks in order; TRIGGER_CYCLE with work in hand is the accepted case whose selection
does nothing. -/
theorem swapAndTrigger : Obligations.SwapAndTrigger := by
  unfold Obligations.SwapAndTrigger
  constructor
  case left =>
    intro s idle
    refine ⟨schedSwap_badLine idle, fun l named => ⟨schedSwap_swapPending idle named, fun free walking => ?_, fun free still => ?_⟩⟩
    · rw [← mastering_iff, ← Bool.and_eq_true] at walking
      rw [schedSwap_accepted idle named free, if_pos walking, State.modSched_eq, State.modLine]
    · rw [← mastering_iff, ← Bool.and_eq_true] at still
      rw [schedSwap_accepted idle named free, if_neg still, swapBanks_of_no_swapPending free]
  case right =>
    intro s idle
    refine ⟨triggerCycle_badLine idle, fun l named => ⟨triggerCycle_notMaster idle named, fun master busy => ?_,
      fun master _ => triggerCycle_master idle named master⟩⟩
    rw [triggerCycle_master idle named master, select_of_not_idle (by simpa using busy)]

end Sys2Proof.Proofs.SwapAndTrigger

/-! SUBMIT (R92). The judgement reads the staging area, the drop's record and line, the slots and the pool, never the command
unit: a SUBMIT is refused with what the judgement of the state answers, and accepted with the request it answers. -/

namespace Sys2Proof.Proofs.Submit

open Sys2Proof Sys2Proof.Machine Sys2Proof.Laws Sys2Proof.Proofs.DropTable Sys2Proof.Proofs.SwapAndTrigger

/-! ### Kind, priority and length as the staging area codes them (R91, R179) -/

theorem reqKindOf_code (kind : ReqKind) : reqKindOf kind.code = some kind := by
  cases kind <;> rfl

theorem priorityOf_code (priority : Priority) : priorityOf priority.code = some priority := by
  cases priority <;> rfl

theorem reqKindOf_eq_none {b : Byte} (unnamed : ¬ (b = 1 ∨ b = 2)) : reqKindOf b = none := by
  obtain ⟨not_poll, not_data⟩ := not_or.mp unnamed
  unfold reqKindOf
  rw [if_neg not_poll, if_neg not_data]

theorem priorityOf_eq_none {b : Byte} (unnamed : ¬ (b = 0 ∨ b = 1)) : priorityOf b = none := by
  obtain ⟨not_normal, not_urgent⟩ := not_or.mp unnamed
  unfold priorityOf
  rw [if_neg not_normal, if_neg not_urgent]

theorem exists_kind_code {b : Byte} (named : b = 1 ∨ b = 2) : ∃ kind : ReqKind, b = kind.code :=
  named.elim (fun poll => ⟨.poll, poll⟩) fun data => ⟨.data, data⟩

theorem exists_priority_code {b : Byte} (named : b = 0 ∨ b = 1) : ∃ priority : Priority, b = priority.code :=
  named.elim (fun normal => ⟨.normal, normal⟩) fun urgent => ⟨.urgent, urgent⟩

theorem toNat_eq_zero_iff (n : Byte) : n.toNat = 0 ↔ n = 0 :=
  BitVec.toNat_inj (y := 0)

theorem lengthFits_iff (kind : ReqKind) (n : Byte) :
    lengthFits kind n.toNat = true ↔ (kind.code = 1 → n = 0) ∧ (kind.code = 2 → n.toNat ≤ 32) := by
  cases kind with
  | poll => simp [lengthFits, ReqKind.code, toNat_eq_zero_iff]
  | data => simp [lengthFits, ReqKind.code]

theorem needsBuffer_iff (kind : ReqKind) (n : Byte) :
    needsBuffer kind n.toNat = true ↔ kind.code = 2 ∧ n ≠ 0 := by
  cases kind with
  | poll => simp [needsBuffer, ReqKind.code]
  | data => simp [needsBuffer, ReqKind.code, toNat_eq_zero_iff]

/-! ### The slot a SUBMIT takes (R93) -/

theorem freeSlot_eq_none {s : State} : s.freeSlot = none ↔ ∀ t, (s.slot t).state ≠ .free := by
  simp [State.freeSlot, allTags]

theorem exists_freeSlot {s : State} (free : ∃ t, (s.slot t).state = .free) : ∃ tag, s.freeSlot = some tag := by
  obtain ⟨t, free⟩ := free
  exact Option.ne_none_iff_exists'.mp fun none => freeSlot_eq_none.mp none t free

/-! ### The judgement, check by check -/

section

variable {s : State} {kind : ReqKind} {priority : Priority} {d : DropIx} {tag : Tag}

/-- The staging area passes check 1: its kind and its priority are named. -/
structure Named (s : State) (kind : ReqKind) (priority : Priority) : Prop where
  kind_named : reqKindOf s.staging.kind = some kind
  priority_named : priorityOf s.staging.priority = some priority

/-- The staging area passes checks 1 to 3 and names the drop `d`. -/
structure Addressed (s : State) (kind : ReqKind) (priority : Priority) (d : DropIx) : Prop
    extends Named s kind priority where
  length_fits : lengthFits kind s.staging.length.toNat = true
  drop_named : dropOf s.staging.drop = some d

/-- Checks 4 and 5 pass too: the drop is enabled, and its line takes requests. -/
structure Admitted (s : State) (kind : ReqKind) (priority : Priority) (d : DropIx) : Prop
    extends Addressed s kind priority d where
  enabled : (s.drop d).state ≠ .disabled
  role : (s.line (s.drop d).line).role = .master ∨ (s.line (s.drop d).line).role = .standby

theorem judgeSubmit_badKind (unnamed : reqKindOf s.staging.kind = none ∨ priorityOf s.staging.priority = none) :
    s.judgeSubmit = .error .badKind := by
  unfold State.judgeSubmit
  split
  case h_1 kind_named priority_named => simp [kind_named, priority_named] at unnamed
  case h_2 => rfl

theorem Named.badLength (named : Named s kind priority) (misfit : lengthFits kind s.staging.length.toNat = false) :
    s.judgeSubmit = .error .badLength := by
  simp [State.judgeSubmit, named.kind_named, named.priority_named, misfit]

theorem Named.badDrop (named : Named s kind priority) (fits : lengthFits kind s.staging.length.toNat = true)
    (bad : dropOf s.staging.drop = none) : s.judgeSubmit = .error .badDrop := by
  simp [State.judgeSubmit, named.kind_named, named.priority_named, fits, bad]

/-- Checks 4 to 7, once the staging area has passed its own. -/
theorem Addressed.judge (addressed : Addressed s kind priority d) : s.judgeSubmit =
    if (s.drop d).state = .disabled then .error .dropDisabled
    else if (s.line (s.drop d).line).role ≠ .master ∧ (s.line (s.drop d).line).role ≠ .standby then .error .lineOff
    else s.freeSlot.elim (.error .noSlot) fun tag =>
      if needsBuffer kind s.staging.length.toNat = true ∧ s.freeCount ≤ Config.reserve then .error .poolLow
      else .ok { drop := d, line := (s.drop d).line, kind, priority, length := s.staging.length.toNat, tag } := by
  cases slot : s.freeSlot <;>
    simp [State.judgeSubmit, addressed.kind_named, addressed.priority_named, addressed.length_fits, addressed.drop_named,
      Drop.enabled, slot]

theorem Addressed.dropDisabled (addressed : Addressed s kind priority d) (disabled : (s.drop d).state = .disabled) :
    s.judgeSubmit = .error .dropDisabled := by
  rw [addressed.judge, if_pos disabled]

theorem Addressed.lineOff (addressed : Addressed s kind priority d) (enabled : (s.drop d).state ≠ .disabled)
    (takes_none : (s.line (s.drop d).line).role ≠ .master ∧ (s.line (s.drop d).line).role ≠ .standby) :
    s.judgeSubmit = .error .lineOff := by
  rw [addressed.judge, if_neg enabled, if_pos takes_none]

/-- Checks 6 and 7, once the drop and its line have passed theirs. -/
theorem Admitted.judge (admitted : Admitted s kind priority d) : s.judgeSubmit =
    s.freeSlot.elim (.error .noSlot) fun tag =>
      if needsBuffer kind s.staging.length.toNat = true ∧ s.freeCount ≤ Config.reserve then .error .poolLow
      else .ok { drop := d, line := (s.drop d).line, kind, priority, length := s.staging.length.toNat, tag } := by
  rw [admitted.toAddressed.judge, if_neg admitted.enabled,
    if_neg fun takes_none => admitted.role.elim takes_none.1 takes_none.2]

theorem Admitted.noSlot (admitted : Admitted s kind priority d) (full : s.freeSlot = none) :
    s.judgeSubmit = .error .noSlot := by
  rw [admitted.judge, full, Option.elim_none]

theorem Admitted.poolLow (admitted : Admitted s kind priority d) (slot : s.freeSlot = some tag)
    (buffer : needsBuffer kind s.staging.length.toNat = true) (low : s.freeCount ≤ Config.reserve) :
    s.judgeSubmit = .error .poolLow := by
  rw [admitted.judge, slot, Option.elim_some, if_pos ⟨buffer, low⟩]

theorem Admitted.accepted (admitted : Admitted s kind priority d) (slot : s.freeSlot = some tag)
    (pool : needsBuffer kind s.staging.length.toNat = true → Config.reserve < s.freeCount) :
    s.judgeSubmit = .ok { drop := d, line := (s.drop d).line, kind, priority, length := s.staging.length.toNat, tag } := by
  rw [admitted.judge, slot, Option.elim_some, if_neg fun ⟨buffer, low⟩ => (pool buffer).not_ge low]

end

/-! ### SUBMIT by its judgement (R92, R93, R174) -/

section

variable {s : State}

theorem judgeSubmit_coded (code : Byte) : (coded code s).judgeSubmit = s.judgeSubmit := rfl

theorem claimPayload_withCommand (c : CommandUnit) (t : Tag) (n : Nat) :
    (withCommand c s).claimPayload t n = withCommand c (s.claimPayload t n) := by
  unfold State.claimPayload
  rw [show (withCommand c s).freeBuffer = s.freeBuffer from rfl]
  split <;> rfl

theorem placeRequest_withCommand (c : CommandUnit) (r : Request) :
    (withCommand c s).placeRequest r = withCommand c (s.placeRequest r) := by
  simp only [State.placeRequest]
  split
  case isTrue => rw [← modLine_withCommand, ← claimPayload_withCommand]; rfl
  case isFalse => rw [← modLine_withCommand]; rfl

theorem exec_submit (idle : s.idle) : exec .submit s = finish (coded 0x01 s).runSubmit :=
  congrArg finish (startCommand_of_idle idle ..)

theorem submit_refused (idle : s.idle) {why : CmdRefusal} (judged : s.judgeSubmit = .error why) :
    exec .submit s = .next (refusedAs s 0x01 why) := by
  have refused : (coded 0x01 s).runSubmit = (coded 0x01 s).refuse why := by
    unfold State.runSubmit
    rw [judgeSubmit_coded, judged]
  rw [exec_submit idle, refused, finish_refuse_coded idle]

/-- An accepted SUBMIT: the request is placed, and the work selection of its line runs (R93, R88). -/
theorem submit_accepted (idle : s.idle) {r : Request} (judged : s.judgeSubmit = .ok r) :
    exec .submit s = .next (doneAs ((s.placeRequest r).select r.line) 0x01 (byteOf r.tag.val)) := by
  have accepted : (coded 0x01 s).runSubmit = (((coded 0x01 s).placeRequest r).select r.line).done (byteOf r.tag.val) := by
    unfold State.runSubmit
    rw [judgeSubmit_coded, judged]
  rw [exec_submit idle, accepted, coded, placeRequest_withCommand, select_withCommand, finish_done_withCommand]

end

/-! ### The checks of R92, as the staging area and the part are read -/

/-- Check 1 passed, the codes of kind and priority are those of a kind and a priority. -/
theorem exists_named {s : State} (kind_fits : s.staging.kind = 1 ∨ s.staging.kind = 2)
    (priority_fits : s.staging.priority = 0 ∨ s.staging.priority = 1) :
    ∃ kind priority, s.staging.kind = ReqKind.code kind ∧ Named s kind priority := by
  obtain ⟨kind, kind_code⟩ := exists_kind_code kind_fits
  obtain ⟨priority, priority_code⟩ := exists_priority_code priority_fits
  exact ⟨kind, priority, kind_code, by rw [kind_code, reqKindOf_code], by rw [priority_code, priorityOf_code]⟩

/-- Check 5: the roles on which a line takes no requests. -/
theorem not_master_nor_standby {r : Role} (off : r = .off ∨ r = .stopping ∨ r = .yielding) : r ≠ .master ∧ r ≠ .standby := by
  rcases off with rfl | rfl | rfl <;> decide

/-- Settles O32: each clause is one answer of the judgement. -/
theorem submitRefusals : Obligations.SubmitRefusals := by
  unfold Obligations.SubmitRefusals
  intro s idle g kindFits fits
  have fits_iff {kind : ReqKind} (code : s.staging.kind = kind.code) :
      lengthFits kind s.staging.length.toNat = true ↔ fits := by
    rw [lengthFits_iff, ← code]
  refine ⟨fun unnamed => submit_refused idle (judgeSubmit_badKind ?badKind), ?badLength, ?badDrop, ?addressed⟩
  case badKind => exact (not_and_or.mp unnamed).imp reqKindOf_eq_none priorityOf_eq_none
  case badLength =>
    rintro ⟨kind_fits, priority_fits⟩ misfit
    obtain ⟨kind, priority, code, named⟩ := exists_named kind_fits priority_fits
    exact submit_refused idle (named.badLength (Bool.eq_false_iff.mpr (misfit ∘ (fits_iff code).mp)))
  case badDrop =>
    rintro ⟨kind_fits, priority_fits⟩ fit bad
    obtain ⟨kind, priority, code, named⟩ := exists_named kind_fits priority_fits
    exact submit_refused idle (named.badDrop ((fits_iff code).mpr fit) (dropOf_eq_none bad))
  case addressed =>
    rintro d ⟨kind_fits, priority_fits⟩ fit drop_is
    obtain ⟨kind, priority, code, named⟩ := exists_named kind_fits priority_fits
    have addressed : Addressed s kind priority d :=
      { named with length_fits := (fits_iff code).mpr fit, drop_named := dropOf_eq_some drop_is }
    refine ⟨fun disabled => submit_refused idle (addressed.dropDisabled disabled), fun enabled off => ?lineOff,
      fun enabled role full => ?noSlot, fun enabled role free data length low => ?poolLow,
      fun enabled role free pool => ?accepted⟩
    case lineOff => exact submit_refused idle (addressed.lineOff enabled (not_master_nor_standby off))
    case noSlot =>
      exact submit_refused idle (Admitted.noSlot { addressed with enabled, role } (freeSlot_eq_none.mpr full))
    case poolLow =>
      obtain ⟨tag, slot⟩ := exists_freeSlot free
      exact submit_refused idle (Admitted.poolLow { addressed with enabled, role } slot
        ((needsBuffer_iff ..).mpr ⟨code ▸ data, length⟩) low)
    case accepted =>
      obtain ⟨tag, slot⟩ := exists_freeSlot free
      refine ⟨_, submit_accepted idle (Admitted.accepted { addressed with enabled, role } slot fun buffer => ?_), rfl, rfl⟩
      obtain ⟨data, length⟩ := (needsBuffer_iff ..).mp buffer
      rcases pool with poll | empty | enough
      · exact absurd (poll.symm.trans (code.trans data)) (by decide)
      · exact absurd empty length
      · exact enough

end Sys2Proof.Proofs.Submit

/-! The registers of the clock unit: the commit of a tick divider (R151, R152), a write to CLOCK_CONTROL (R143), and what the
resets leave of the dividers and the prescaler. -/

namespace Sys2Proof.Proofs.ClockRegisters

open Sys2Proof Sys2Proof.Machine

/-! ### 16-bit values and their bytes (R169) -/

theorem toNat_msb (h : Half) : (msb h).toNat = h.toNat / 256 := by
  have upper_fits : h.toNat / 256 < 256 := by omega
  rw [msb, BitVec.toNat_setWidth, BitVec.toNat_ushiftRight, Nat.shiftRight_eq_div_pow]
  exact Nat.mod_eq_of_lt upper_fits

theorem toNat_halfOf (hi lo : Byte) : (halfOf hi lo).toNat = wide hi lo := by
  have upper : (hi.setWidth 16 <<< 8).toNat = hi.toNat <<< 8 := by
    rw [BitVec.toNat_shiftLeft, BitVec.toNat_setWidth_of_le (by decide), Nat.shiftLeft_eq]
    exact Nat.mod_eq_of_lt (by omega)
  rw [halfOf, BitVec.toNat_or, upper, BitVec.toNat_setWidth_of_le (by decide), ← Nat.shiftLeft_add_eq_or_of_lt lo.isLt,
    Nat.shiftLeft_eq, wide]

theorem halfOf_eq_zero_iff (hi lo : Byte) : halfOf hi lo = 0 ↔ wide hi lo = 0 := by
  rw [← toNat_halfOf, ← BitVec.toNat_inj]
  rfl

/-! ### Register writes while no SOFT_RESET waits (R176) -/

theorem write_of_writable {s : State} (writable : s.writable) (a : BitVec 6) (v : Byte) :
    s.write a v = s.writeRegister a v :=
  if_neg writable

/-! ### The tick dividers (R151, R152) -/

section

variable {s : State} {src : Source} {v hi : Byte}

/-- The hold register holds `hi` for the divider of a source, or nothing for it, and `hi` is the divider's own upper half. -/
abbrev UpperOfDivider (s : State) (src : Source) (hi : Byte) : Prop :=
  s.bus.hold = some (.reg (dividerReg src), hi) ∨
    ((∀ b, s.bus.hold ≠ some (.reg (dividerReg src), b)) ∧ hi.toNat = (s.clock.dividerOf src).toNat / 256)

theorem upperHalf_of_held {id : HoldId} {current : Byte} (held : s.bus.hold = some (id, hi)) :
    s.upperHalf id current = hi := by
  simp [State.upperHalf, held]

theorem upperHalf_of_not_held {id : HoldId} {current : Byte} (not_held : ∀ b, s.bus.hold ≠ some (id, b)) :
    s.upperHalf id current = current := by
  unfold State.upperHalf
  split
  case h_1 other b held =>
    exact if_neg fun same => not_held b (held.trans (by rw [same]))
  case h_2 => rfl

theorem UpperOfDivider.upperHalf_eq (upper : UpperOfDivider s src hi) :
    s.upperHalf (.reg (dividerReg src)) (msb (s.clock.dividerOf src)) = hi := by
  rcases upper with held | ⟨not_held, current⟩
  · exact upperHalf_of_held held
  · rw [upperHalf_of_not_held not_held]
    exact BitVec.eq_of_toNat_eq ((toNat_msb _).trans current.symm)

theorem setDivider_eq (c : ClockUnit) (src : Source) (h : Half) : c.setDivider src h =
    { c with prescaler := 0, divIosc := (c.setDivider src h).divIosc, divXref := (c.setDivider src h).divXref } := by
  cases src <;> rfl

theorem dividerOf_setDivider_same (c : ClockUnit) (src : Source) (h : Half) : (c.setDivider src h).dividerOf src = h := by
  cases src <;> rfl

theorem dividerOf_setDivider_other (c : ClockUnit) {src o : Source} (h : Half) (other : o ≠ src) :
    (c.setDivider src h).dividerOf o = c.dividerOf o :=
  match src, o, other with
  | .iosc, .xref, _ | .xref, .iosc, _ => rfl
  | .iosc, .iosc, other | .xref, .xref, other => absurd rfl other

theorem commitDivider_of_zero (upper : UpperOfDivider s src hi) (zero : wide hi v = 0) :
    s.commitDivider src v = s.emptyHold := by
  unfold State.commitDivider
  rw [upper.upperHalf_eq]
  exact if_pos ((halfOf_eq_zero_iff hi v).mpr zero)

theorem commitDivider_of_ne_zero (upper : UpperOfDivider s src hi) (nonzero : wide hi v ≠ 0) :
    s.commitDivider src v = s.emptyHold.modClock (·.setDivider src (halfOf hi v)) := by
  unfold State.commitDivider
  rw [upper.upperHalf_eq]
  exact if_neg (mt (halfOf_eq_zero_iff hi v).mp nonzero)

theorem exec_tickDividerWrite (writable : s.writable) (src : Source) (v : Byte) :
    exec (.tickDividerWrite src v) s = finish (s.commitDivider src v) := by
  cases src
  case iosc => exact congrArg finish (write_of_writable writable 0x29 v)
  case xref => exact congrArg finish (write_of_writable writable 0x2B v)

/-- 0 is refused: the hold register empties, and nothing restarts (R151, R169). -/
theorem tickDividerWrite_zero (writable : s.writable) (upper : UpperOfDivider s src hi) (zero : wide hi v = 0) :
    exec (.tickDividerWrite src v) s = .next s.emptyHold.driveIrq := by
  rw [exec_tickDividerWrite writable, commitDivider_of_zero upper zero, finish]

/-- A value other than 0 is committed, and the prescaler restarts (R151, R152). -/
theorem tickDividerWrite_nonzero (writable : s.writable) (upper : UpperOfDivider s src hi) (nonzero : wide hi v ≠ 0) :
    exec (.tickDividerWrite src v) s = .next (s.emptyHold.modClock (·.setDivider src (halfOf hi v))).driveIrq := by
  rw [exec_tickDividerWrite writable, commitDivider_of_ne_zero upper nonzero, finish]

end

/-! ### The resets leave dividers and prescaler -/

/-- The tick dividers and the prescaler of a clock unit. -/
def tickCounts (c : ClockUnit) : Half × Half × Nat :=
  (c.divIosc, c.divXref, c.prescaler)

theorem tickCounts_softReset (c : ClockUnit) : tickCounts c.softReset = tickCounts c := rfl

section

variable (s : State)

theorem finishLineReset_clock (l : Line) : (s.finishLineReset l).clock = s.clock :=
  ((Untouched.refl s).resetLine l).clock

theorem runLineReset_clock : s.runLineReset.clock = s.clock := by
  unfold State.runLineReset State.withLine
  split
  case h_1 l named =>
    dsimp only
    split
    case isTrue sending => cases l <;> rfl
    case isFalse => exact finishLineReset_clock s l
  case h_2 => rfl

theorem finishSoftReset_clock : s.finishSoftReset.clock = s.clock := rfl

theorem runSoftReset_clock : s.runSoftReset.clock = s.clock.softReset := by
  unfold State.runSoftReset
  dsimp only
  split <;> rfl

theorem startCommand_tickCounts (code : Byte) {run : State → State}
    (kept : ∀ u : State, tickCounts (run u).clock = tickCounts u.clock) :
    tickCounts (s.startCommand code run).clock = tickCounts s.clock := by
  unfold State.startCommand
  split
  · rfl
  · exact kept _

end

/-- SOFT_RESET and LINE_RESET, each when it is taken and when it takes effect (R139, R154, R177). -/
theorem reset_keeps_tickCounts {s t : State} {c : Instr}
    (reset : c = .softReset ∨ c = .softResetTakesEffect ∨ c = .lineReset ∨ c = .lineResetTakesEffect)
    (taken : exec c s = .next t) : tickCounts t.clock = tickCounts s.clock := by
  rcases reset with rfl | rfl | rfl | rfl <;> cases taken
  case inl =>
    exact startCommand_tickCounts s 0x60 fun u => by rw [runSoftReset_clock, tickCounts_softReset]
  case inr.inl =>
    rw [State.driveIrq_clock]
    split
    case h_1 => rw [finishSoftReset_clock]
    case h_2 | h_3 => rfl
  case inr.inr.inl =>
    exact startCommand_tickCounts s 0x23 fun u => by rw [runLineReset_clock]
  case inr.inr.inr =>
    rw [State.driveIrq_clock]
    split
    case h_1 => rw [finishLineReset_clock]
    case h_2 | h_3 => rfl

/-! ### CLOCK_CONTROL (R143) -/

section

variable (c : ClockUnit) (v : Byte)

/-- The requested source and XREF_ENABLE take what the value gives them; the monitor is another matter. -/
def takesControl : ClockUnit :=
  { c with requested := if v.getLsbD 0 then .xref else .iosc
           xrefEnable := v.getLsbD 1 || v.getLsbD 0 || (c.xrefEnable && decide (c.effective = .xref)) }

/-- The monitor runs on where XREF_ENABLE was set and stays set; elsewhere it is left in ABSENT. -/
theorem control_eq : c.control v =
    if (takesControl c v).xrefEnable && c.xrefEnable then takesControl c v else (takesControl c v).monitorAbsent := by
  have requests_xref : decide ((if v.getLsbD 0 then Source.xref else .iosc) = .xref) = v.getLsbD 0 := by
    cases v.getLsbD 0 <;> rfl
  unfold ClockUnit.control
  dsimp only
  rw [requests_xref]
  rfl

theorem control_frame : c.control v =
    { c with requested := if v.getLsbD 0 then .xref else .iosc
             xrefEnable := (c.control v).xrefEnable, monitor := (c.control v).monitor
             edges := (c.control v).edges, quiet := (c.control v).quiet } := by
  rw [control_eq]
  split <;> rfl

theorem control_xrefEnable : (c.control v).xrefEnable = (takesControl c v).xrefEnable := by
  rw [control_eq]
  split <;> rfl

variable {c v}

theorem control_keeps_monitor (was_set : c.xrefEnable = true) (stays_set : (c.control v).xrefEnable = true) :
    (c.control v).monitor = c.monitor ∧ (c.control v).edges = c.edges ∧ (c.control v).quiet = c.quiet := by
  rw [control_xrefEnable] at stays_set
  rw [control_eq, if_pos (Bool.and_eq_true_iff.mpr ⟨stays_set, was_set⟩)]
  exact ⟨rfl, rfl, rfl⟩

theorem control_leaves_absent (clear : c.xrefEnable = false ∨ (c.control v).xrefEnable = false) :
    (c.control v).monitor = .absent ∧ (c.control v).edges = 0 := by
  rw [control_xrefEnable] at clear
  rw [control_eq, if_neg (Bool.eq_false_iff.mp (Bool.and_eq_false_iff.mpr clear.symm))]
  exact ⟨rfl, rfl⟩

end

theorem exec_clockControlWrite {s : State} {v : Byte} (writable : s.writable) (named : v &&& 0xFC = 0) :
    exec (.clockControlWrite v) s = .next (s.modClock (·.control v)).driveIrq := by
  have control : s.clock.writeControl v = s.clock.control v := if_pos named
  have written : s.writeRegister 0x26 v = s.modClock (·.control v) := congrArg (fun c => { s with clock := c }) control
  exact congrArg finish ((write_of_writable writable 0x26 v).trans written)

/-! ### The obligation -/

/-- Settles O26: the writes to the dividers and to CLOCK_CONTROL by the equations of `setDivider` and `control`, the soft and
line resets by what they leave of the clock unit. -/
theorem clockRegisterWrites : Obligations.ClockRegisterWrites := by
  unfold Obligations.ClockRegisterWrites
  refine ⟨⟨fun s src v hi writable upper => ⟨tickDividerWrite_zero writable upper, fun nonzero => ?committed⟩,
    fun s => ?deviceReset, fun s t c reset taken => ?resets⟩, fun s v writable named => ?control, fun s => ?deviceResetControl⟩
  case committed =>
    refine ⟨_, tickDividerWrite_nonzero writable upper nonzero, ?frame, ?divider,
      fun o other => dividerOf_setDivider_other s.clock _ other⟩
    case frame =>
      exact congrArg (fun c => State.driveIrq { s with bus := { s.bus with hold := none }, clock := c }) (setDivider_eq ..)
    case divider => exact (congrArg BitVec.toNat (dividerOf_setDivider_same ..)).trans (toNat_halfOf hi v)
  case deviceReset => exact ⟨_, rfl, rfl, rfl, rfl⟩
  case resets => simpa [tickCounts] using reset_keeps_tickCounts reset taken
  case control =>
    refine ⟨_, exec_clockControlWrite writable named, ?frame, control_xrefEnable ..,
      fun cleared => (control_leaves_absent (.inr cleared)).1, fun was_clear _ => control_leaves_absent (.inl was_clear),
      control_keeps_monitor⟩
    case frame => exact congrArg (fun c => State.driveIrq { s with clock := c }) (control_frame s.clock v)
  case deviceResetControl => exact ⟨_, rfl, rfl, rfl⟩

end Sys2Proof.Proofs.ClockRegisters

/-! The error summary and the interrupt (chapter 9): the summary, the snapshot and the renewal marks bit by bit (R164 to R166),
and nIRQ against the sources and their enables (R162). -/

namespace Sys2Proof.Proofs.ErrorSummary

open Sys2Proof Sys2Proof.Machine

/-! ### Flags and masks, bit by bit -/

theorem getLsbD_byteOf_two_pow (j : Nat) {k : Nat} (bit : k < 8) : (byteOf (2 ^ j)).getLsbD k = decide (k = j) := by
  rw [byteOf, BitVec.getLsbD_ofNat, Nat.testBit_two_pow, decide_eq_true bit, Bool.true_and]
  exact decide_eq_decide.mpr eq_comm

theorem getLsbD_flagBit (b : Bool) (j : Nat) {k : Nat} (bit : k < 8) : (flagBit b j).getLsbD k = (b && decide (k = j)) := by
  cases b
  case false => simp [flagBit]
  case true => rw [flagBit, if_pos rfl, getLsbD_byteOf_two_pow j bit, Bool.true_and]

theorem and_ne_zero_iff (x y : Byte) : x &&& y ≠ 0 ↔ ∃ k < 8, x.getLsbD k = true ∧ y.getLsbD k = true := by
  constructor
  case mp =>
    intro nonzero
    by_contra none
    refine nonzero (BitVec.eq_of_getLsbD_eq fun k bit => ?_)
    rw [BitVec.getLsbD_and, show (0 : Byte).getLsbD k = false from BitVec.getLsbD_zero]
    exact Bool.eq_false_iff.mpr fun both => none ⟨k, bit, Bool.and_eq_true_iff.mp both⟩
  case mpr =>
    rintro ⟨k, -, left, right⟩ zero
    have clear : (x &&& y).getLsbD k = false := by rw [zero]; exact BitVec.getLsbD_zero
    simp [left, right] at clear

theorem index_lt (b : SummaryBit) : b.index < 8 := by
  cases b <;> decide

theorem getLsbD_mask (b : SummaryBit) {k : Nat} (bit : k < 8) : b.mask.getLsbD k = decide (k = b.index) :=
  getLsbD_byteOf_two_pow b.index bit

/-! ### Occurrences, reads and clears, bit by bit (R164 to R166) -/

section

variable (u : EventUnit) (b : SummaryBit) (m : Byte) {k : Nat}

theorem raise_snapshot : (u.raise b).snapshot = u.snapshot := by
  unfold EventUnit.raise; split <;> rfl

/-- An occurrence sets its bit, or finds it set (R164). -/
theorem raise_summary_index : (u.raise b).summary.getLsbD b.index = true := by
  unfold EventUnit.raise
  split
  case isTrue shown => exact shown
  case isFalse => simp [getLsbD_mask b (index_lt b)]

theorem raise_renewed_of_set (shown : u.summary.getLsbD b.index = true) : (u.raise b).renewed.getLsbD b.index = true := by
  unfold EventUnit.raise
  rw [if_pos shown]
  simp [getLsbD_mask b (index_lt b)]

theorem raise_renewed_of_clear (hidden : u.summary.getLsbD b.index = false) : (u.raise b).renewed = u.renewed := by
  unfold EventUnit.raise
  rw [if_neg (Bool.eq_false_iff.mp hidden)]

variable {u b m}

theorem getLsbD_clearable (bit : k < 8) : (u.clearable m).getLsbD k = true ↔
    m.getLsbD k = true ∧ u.snapshot.getLsbD k = true ∧ u.renewed.getLsbD k = false := by
  simp [EventUnit.clearable, bit, and_assoc]

/-- A bit that may be cleared leaves the summary and the snapshot (R166). -/
theorem clearSummary_of_clearable (bit : k < 8) (clears : (u.clearable m).getLsbD k = true) :
    (u.clearSummary m).summary.getLsbD k = false ∧ (u.clearSummary m).snapshot.getLsbD k = false := by
  simp [EventUnit.clearSummary, bit, clears]

/-- Every other bit stays as it was in both (R166). -/
theorem clearSummary_of_not_clearable (bit : k < 8) (spares : (u.clearable m).getLsbD k = false) :
    (u.clearSummary m).summary.getLsbD k = u.summary.getLsbD k ∧
      (u.clearSummary m).snapshot.getLsbD k = u.snapshot.getLsbD k := by
  simp only [EventUnit.clearSummary, BitVec.getLsbD_and, BitVec.getLsbD_not, bit, spares, decide_true, Bool.not_false,
    Bool.and_self, Bool.and_true, and_self]

/-- The losses counted go with EVENT_LOST, exactly when the clear takes that bit away (R161, R166). -/
theorem clearSummary_lost : (u.clearSummary m).lost =
    if u.summary.getLsbD 0 = true ∧ (u.clearSummary m).summary.getLsbD 0 = false then 0 else u.lost := by
  have leaves : (u.summary.getLsbD 0 = true ∧ (u.clearSummary m).summary.getLsbD 0 = false) ↔
      (u.clearable m &&& u.summary).getLsbD SummaryBit.eventLost.index = true := by
    simp only [EventUnit.clearSummary, SummaryBit.index, BitVec.getLsbD_and, BitVec.getLsbD_not]
    cases u.summary.getLsbD 0 <;> simp
  exact (if_congr leaves rfl rfl).symm

/-- No clear takes bit `k` of the summary: it is not in the snapshot, or it is renewed (R166). -/
def Spared (u : EventUnit) (k : Nat) : Prop :=
  u.snapshot.getLsbD k = true → u.renewed.getLsbD k = true

theorem clearSummary_of_spared (bit : k < 8) (spared : Spared u k) :
    (u.clearSummary m).summary.getLsbD k = u.summary.getLsbD k := by
  refine (clearSummary_of_not_clearable bit (Bool.eq_false_iff.mpr fun clears => ?_)).1
  obtain ⟨-, copied, unmarked⟩ := (getLsbD_clearable bit).mp clears
  exact Bool.eq_false_iff.mp unmarked (spared copied)

/-- An occurrence spares its bit where the snapshot holds set bits alone: a set bit is renewed, a clear one is not in the
snapshot (R164, R165). -/
theorem spared_raise (copied_set : u.snapshot.getLsbD b.index = true → u.summary.getLsbD b.index = true) :
    Spared (u.raise b) b.index := by
  intro copied
  rw [raise_snapshot] at copied
  exact raise_renewed_of_set u b (copied_set copied)

/-- What recurs while the snapshot holds set bits alone survives a clear (R166). -/
theorem clearSummary_raise (copied_set : u.snapshot.getLsbD b.index = true → u.summary.getLsbD b.index = true) :
    ((u.raise b).clearSummary m).summary.getLsbD b.index = true := by
  rw [clearSummary_of_spared (index_lt b) (spared_raise copied_set), raise_summary_index]

/-- Right after a read summary and snapshot are alike, and a clear leaves them so (R165, R166). -/
theorem clearSummary_readSummary_alike : (u.readSummary.clearSummary m).snapshot = (u.readSummary.clearSummary m).summary :=
  rfl

end

/-! ### The rows -/

theorem exec_summaryClear {s : State} (writable : s.writable) (m : Byte) :
    exec (.summaryClear m) s = .next (s.modEvents (·.clearSummary m)).driveIrq :=
  congrArg finish (ClockRegisters.write_of_writable writable 0x25 m)

/-- Settles O18: the row by its meaning, the order of a read and an occurrence by the cases of `raise`, and the registers
because none of them reads the snapshot or the marks. -/
theorem summaryReadTakesSnapshot : Obligations.SummaryReadTakesSnapshot := by
  unfold Obligations.SummaryReadTakesSnapshot
  refine ⟨fun s => rfl, fun u b => ⟨raise_summary_index _ b, fun hidden => ⟨?copied, ?unmarked⟩,
    raise_renewed_of_set u.readSummary b, raise_summary_index u b, rfl⟩, fun s a x y => rfl⟩
  case copied =>
    rw [raise_snapshot]
    exact hidden
  case unmarked =>
    rw [raise_renewed_of_clear u.readSummary b hidden]
    exact BitVec.getLsbD_zero

/-- Settles O19: the row bit by bit; a bit that recurred is spared by any later clear. -/
theorem summaryClearSparesRecurrence : Obligations.SummaryClearSparesRecurrence := by
  unfold Obligations.SummaryClearSparesRecurrence
  refine ⟨fun s m writable => ⟨_, exec_summaryClear writable m, rfl, fun k bit => ?bits, clearSummary_lost⟩,
    fun u b m n _ => ⟨clearSummary_raise id, raise_summary_index _ b, clearSummary_raise ?alike⟩⟩
  case bits =>
    split
    case isTrue clears => exact clearSummary_of_clearable bit ((getLsbD_clearable bit).mpr clears)
    case isFalse spares =>
      exact clearSummary_of_not_clearable bit (Bool.eq_false_iff.mpr (mt (getLsbD_clearable bit).mp spares))
  case alike =>
    rw [clearSummary_readSummary_alike]
    exact id

end Sys2Proof.Proofs.ErrorSummary

/-! nIRQ (R162). Every row drives the pin last, and so does a period: what holds of a state just driven holds after every step. -/

namespace Sys2Proof.Proofs.Interrupt

open Sys2Proof Sys2Proof.Machine Sys2Proof.Proofs.DropTable Sys2Proof.Proofs.ErrorSummary

section

variable (s : State)

/-! ### The sources as IRQ_STATUS shows them -/

theorem eventsActive_iff : s.events.eventsActive = true ↔ s.EventsActive := by
  simp [EventUnit.eventsActive, State.EventsActive, and_assoc]

theorem readyActive_iff : s.readyActive = true ↔ s.ReadyActive := by
  simp [State.readyActive, State.ReadyActive]

theorem summaryActive_iff : s.events.summaryActive = true ↔ s.SummaryActive := by
  simp [EventUnit.summaryActive, State.SummaryActive]

theorem getLsbD_irqStatus {k : Nat} (bit : k < 8) : s.irqStatus.getLsbD k = true ↔
    (s.EventsActive ∧ k = 0) ∨ (s.ReadyActive ∧ k = 1) ∨ (s.SummaryActive ∧ k = 2) := by
  simp only [State.irqStatus, BitVec.getLsbD_or, getLsbD_flagBit _ _ bit, Bool.or_eq_true, Bool.and_eq_true,
    decide_eq_true_iff, eventsActive_iff, readyActive_iff, summaryActive_iff, or_assoc]

/-- IRQ_STATUS shows the sources whatever the enables. -/
theorem irqStatus_shows_sources : (s.irqStatus.getLsbD 0 = true ↔ s.EventsActive) ∧
    (s.irqStatus.getLsbD 1 = true ↔ s.ReadyActive) ∧ (s.irqStatus.getLsbD 2 = true ↔ s.SummaryActive) := by
  rw [getLsbD_irqStatus s (by decide), getLsbD_irqStatus s (by decide), getLsbD_irqStatus s (by decide)]
  simp

/-! ### nIRQ -/

theorem irqWanted_iff : s.irqWanted = true ↔
    (s.EventsActive ∧ s.events.irqEnable.getLsbD 0 = true) ∨ (s.ReadyActive ∧ s.events.irqEnable.getLsbD 1 = true) ∨
      (s.SummaryActive ∧ s.events.irqEnable.getLsbD 2 = true) := by
  rw [State.irqWanted, decide_eq_true_iff, and_ne_zero_iff]
  constructor
  case mp =>
    rintro ⟨k, bit, shown, enabled⟩
    rcases (getLsbD_irqStatus s bit).mp shown with ⟨active, rfl⟩ | ⟨active, rfl⟩ | ⟨active, rfl⟩
    · exact .inl ⟨active, enabled⟩
    · exact .inr (.inl ⟨active, enabled⟩)
    · exact .inr (.inr ⟨active, enabled⟩)
  case mpr =>
    obtain ⟨events, ready, summary⟩ := irqStatus_shows_sources s
    rintro (⟨active, enabled⟩ | ⟨active, enabled⟩ | ⟨active, enabled⟩)
    · exact ⟨0, by decide, events.mpr active, enabled⟩
    · exact ⟨1, by decide, ready.mpr active, enabled⟩
    · exact ⟨2, by decide, summary.mpr active, enabled⟩

/-- The pin is driven by the very state it stands in: neither the sources nor the enables read the pin. -/
theorem driveIrq_pinAgrees : s.driveIrq.PinAgrees := by
  have low : s.driveIrq.irqPin = false ↔ s.irqWanted = true := by simp
  exact low.trans (irqWanted_iff s)

end

theorem exec_pinAgrees {c : Instr} {s t : State} (taken : exec c s = .next t) : t.PinAgrees := by
  obtain ⟨u, answer, -⟩ := exec_changed c s
  rw [answer] at taken
  cases taken
  exact driveIrq_pinAgrees u

theorem step_pinAgrees {s t : State} (taken : step s = .next t) : t.PinAgrees := by
  unfold step at taken
  split at taken
  · exact exec_pinAgrees taken
  · split at taken
    · exact exec_pinAgrees taken
    · cases taken
      exact driveIrq_pinAgrees _

/-- IRQ_STATUS is read-only (R168). -/
theorem write_irqStatus (s : State) (v : Byte) : s.write 0x23 v = s :=
  ite_self s

/-- Settles O13: every step ends with the pin driven, and the two rows do nothing else. -/
theorem interruptFollowsSources : Obligations.InterruptFollowsSources := by
  unfold Obligations.InterruptFollowsSources
  refine ⟨fun s t => step_pinAgrees, irqStatus_shows_sources, fun s v => ⟨s.driveIrq, ?readOnly, rfl, driveIrq_pinAgrees s⟩,
    fun s => ⟨s.driveIrq, rfl, rfl, driveIrq_pinAgrees s⟩⟩
  case readOnly => exact congrArg finish (write_irqStatus s v)

end Sys2Proof.Proofs.Interrupt

/-! The event queue (R158, R159): what a post and EVENT_POP do to it, and that every other row lets records join it and takes
none away. The rows of a line leave the host's side alone (`Untouched`); of the others only the queue is followed. -/

namespace Sys2Proof.Proofs.EventQueue

open Sys2Proof Sys2Proof.Machine Sys2Proof.Proofs.ErrorSummary

/-! ### A post (R157, R158, R160, R161) -/

section

variable (u : EventUnit) (r : EventRecord)

theorem or_mask_of_set {x : Byte} {b : SummaryBit} (shown : x.getLsbD b.index = true) : x ||| b.mask = x := by
  refine BitVec.eq_of_getLsbD_eq fun k bit => ?_
  rw [BitVec.getLsbD_or, getLsbD_mask b bit]
  by_cases named : k = b.index
  · rw [named, shown, Bool.true_or]
  · rw [decide_eq_false named, Bool.or_false]

/-- Both cases of an occurrence in one: the bit stands in the summary, and is renewed if it stood there (R164). -/
theorem raise_eq (b : SummaryBit) : u.raise b =
    { u with summary := u.summary ||| b.mask
             renewed := if u.summary.getLsbD b.index then u.renewed ||| b.mask else u.renewed } := by
  unfold EventUnit.raise
  split
  case isTrue shown => rw [or_mask_of_set shown]
  case isFalse => rfl

variable {u r}

theorem post_of_masked (masked : u.mask.getLsbD r.kind.code = false) : u.post r = u := by
  simp [EventUnit.post, masked]

theorem post_of_room (enabled : u.mask.getLsbD r.kind.code = true) (room : u.queue.length < 32) :
    u.post r = { u with queue := u.queue ++ [r], headAge := if u.queue = [] then 0 else u.headAge } := by
  simp [EventUnit.post, enabled, Config.queueDepth, room]

theorem post_of_full (enabled : u.mask.getLsbD r.kind.code = true) (full : u.queue.length = 32) :
    u.post r = { u with lost := min 255 (u.lost + 1), summary := u.summary ||| 0x01
                        renewed := if u.summary.getLsbD 0 then u.renewed ||| 0x01 else u.renewed } := by
  have lost : u.post r = { u with lost := min 255 (u.lost + 1) }.raise .eventLost := by
    simp [EventUnit.post, enabled, Config.queueDepth, full]
  exact lost.trans (raise_eq _ .eventLost)

end

theorem exec_eventPop {s : State} (writable : s.writable) (v : Byte) :
    exec (.eventPop v) s = .next (s.modEvents (·.pop s.clock.timestamp)).driveIrq :=
  congrArg finish (ClockRegisters.write_of_writable writable 0x1C v)

/-! ### Rows of a line that `Laws/Frame.lean` does not speak of -/

section

variable {s t : State} (h : Untouched s t) (l : Line)

include h

theorem untouched_takeBackoff : Untouched s (t.takeBackoff l) := by
  unfold State.takeBackoff
  split
  · split
    · exact h.enterGuard ..
    · exact h
  · exact h

theorem untouched_falseStart (x : EdgeSamples) : Untouched s (t.falseStart l x) :=
  (Untouched.modLine (h.counters l _) l _ (by intro; rfl)).settleWait l

theorem untouched_enterAwait (n : BitTimer) : Untouched s (t.enterAwait l n) :=
  h.modLine l _ fun _ => rfl

theorem untouched_frameSent : Untouched s (t.frameSent l) := by
  have ended := h.modLine l (fun e => { e with tx := e.tx.ended, contention := 0 }) fun _ => rfl
  unfold State.frameSent
  dsimp only
  split
  · exact (ended.endAttempt l .ok).passKept l
  · exact (untouched_enterAwait ended l _).passKept l

theorem untouched_endCall (o : TxnOutcome) : Untouched s (t.endCall l o) :=
  ((h.txUpdate l Transmitter.ended).endAttempt l o).passKept l

theorem untouched_reloadDivisor : Untouched s (t.reloadDivisor l) :=
  h.modLine l _ fun _ => rfl

theorem untouched_beginCall : Untouched s (t.beginCall l) := by
  unfold State.beginCall
  dsimp only
  split
  · exact ((untouched_reloadDivisor h l).modLine l _ (by intro; rfl)).countPerformed l
  · exact (untouched_reloadDivisor h l).modLine l _ (by intro; rfl)

theorem untouched_startBit : Untouched s (t.startBit l) := by
  have stamped := h.modLine l (fun e => { e with stamping := e.stampAtSample }) fun _ => rfl
  unfold State.startBit
  dsimp only
  refine Untouched.modLine ?_ l _ (by intro; rfl)
  split
  · exact untouched_reloadDivisor stamped l
  · exact stamped

theorem untouched_gapPassed : Untouched s (t.gapPassed l) :=
  h.modLine l _ fun _ => rfl

theorem untouched_windowElapsed : Untouched s (t.windowElapsed l) := by
  have elapsed := h.ctlUpdate l fun c =>
    { c with window := .elapsed, windowTimer := { c.windowTimer with bits := c.windowLength } }
  unfold State.windowElapsed
  dsimp only
  split
  · split
    · exact elapsed.ctlUpdate ..
    · exact elapsed.endAttempt l .timeout
  · exact elapsed

theorem untouched_observerTimerElapsed : Untouched s (t.observerTimerElapsed l) := by
  have elapsed := h.observerUpdate l fun o => { o with elapsed := true, timer := { o.timer with bits := o.window } }
  unfold State.observerTimerElapsed
  dsimp only
  split
  · exact elapsed
  · split
    · exact elapsed.observerUpdate ..
    · exact elapsed.forgetCall l

theorem untouched_overrun : Untouched s (t.overrun l) := by
  have counted : Untouched s (t.countOverrun l) := h.counters l _
  unfold State.overrun
  dsimp only
  split
  · exact counted
  · exact ((counted.modLine l (fun e => { e with cycle := { e.cycle with owed := true } }) fun _ => rfl).post ..).raise _

theorem untouched_expire : Untouched s (t.expire l) := by
  unfold State.expire
  dsimp only
  split
  · split
    · exact untouched_overrun h l
    · exact (h.modLine l (fun e => { e with cycle := { e.cycle with owed := true } }) fun _ => rfl).select l
  · exact h

theorem untouched_takeExpiry : Untouched s (t.takeExpiry l) := by
  unfold State.takeExpiry
  split
  · exact untouched_expire (h.modLine l (fun e => { e with cycle := { e.cycle with expiryDue := false } }) fun _ => rfl) l
  · exact h

theorem untouched_settleTick : Untouched s (t.settleTick l) :=
  (untouched_takeBackoff (untouched_takeExpiry h l) l).takeSilence l

theorem untouched_endEarly : Untouched s (t.endEarly l) := by
  unfold State.endEarly
  split
  iterate 2 exact (h.finishTxn l).select l
  all_goals exact h

end

/-! ### Records only join -/

/-- On the way from `s` to `t` records joined the event queue at its tail, and none left it (R158). -/
structure Joins (s t : State) : Prop where
  queue : s.events.queue <+: t.events.queue

theorem untouched_joins {s t : State} (h : Untouched s t) : Joins s t := ⟨h.events⟩

namespace Joins

variable {s t u : State}

theorem refl (s : State) : Joins s s := ⟨List.prefix_refl _⟩

theorem trans (h : Joins s t) (k : Joins t u) : Joins s u := ⟨h.queue.trans k.queue⟩

theorem untouched (h : Joins s t) (k : Untouched t u) : Joins s u := h.trans (untouched_joins k)

theorem same (h : Joins s t) (e : u.events.queue = t.events.queue) : Joins s u := ⟨e ▸ h.queue⟩

theorem of_same (e : u.events.queue = s.events.queue) : Joins s u := (refl s).same e

theorem after (h : Joins t u) (e : t.events.queue = s.events.queue) : Joins s u := (of_same e).trans h

theorem when {p : Prop} [Decidable p] (h : Joins s t) : Joins s (if p then t else s) := by
  split
  · exact h
  · exact refl s

theorem eachLine (h : Joins s t) {f : State → Line → State} (hf : ∀ u l, Joins u (f u l)) : Joins s (t.eachLine f) :=
  (h.trans (hf t .a)).trans (hf _ .b)

end Joins

/-! #### The clock unit's rows and ticks -/

section

variable (s : State)

theorem tickStamp_queue (l : Line) (n : Nat) : (s.tickStamp l n).events.queue = s.events.queue := by
  rw [State.tickStamp_eq]
  simp

theorem tick_queue (u : EventUnit) : u.tick.queue = u.queue := by
  unfold EventUnit.tick
  split <;> rfl

theorem tick_joins : Joins s s.tick := by
  have settled : Joins s (s.eachLine State.settleTick) :=
    (Joins.refl s).eachLine fun u l => untouched_joins (untouched_settleTick (.refl u) l)
  have counted := settled.same (u := (s.eachLine State.settleTick).modClock fun c =>
    { c with timestamp := c.timestamp + 1, prescaler := 0 }) rfl
  have stamped := counted.eachLine (f := fun u l => u.tickStamp l (s.eachLine State.settleTick).clock.toTick)
    fun u l => .of_same (tickStamp_queue u l _)
  exact Joins.eachLine (stamped.same (tick_queue _)) fun u l => untouched_joins (.select (.refl u) l)

theorem switchClock_joins : Joins s s.switchClock :=
  ⟨EventUnit.post_queue s.events _⟩

theorem fallback_joins : Joins s s.fallback := by
  have fallen : Joins s ((s.modClock fun c => { c with effective := .iosc, requested := .iosc }).modLines
      fun _ e => e.fallenBack) := .of_same rfl
  have emptied := fallen.eachLine (f := fun u l => if (u.line l).role = .standby then u.emptyObserver l else u)
    fun u l => Joins.when (untouched_joins (((Untouched.refl u).freeAssembling l).observerUpdate l _))
  exact (emptied.untouched (((Untouched.refl _).post ..).raise _)).eachLine
    fun u l => Joins.when (untouched_joins (.settleWait (.refl u) l))

theorem loseXref_joins : Joins s s.loseXref := by
  unfold State.loseXref
  dsimp only
  split
  · exact (fallback_joins _).after rfl
  · exact .of_same rfl

/-! #### Register writes -/

theorem writeDrop_events {t : State} {d : DropIx} {k : Nat} {v : Byte} (h : s.writeDrop d k v = .ok t) :
    t.events = s.events := by
  unfold State.writeDrop at h
  split at h
  · cases h
  · split at h <;> cases h
    rfl

theorem writeBank_events {t : State} {l : Line} {n : Bool} {b : Option Bank} (h : s.writeBank l n b = .ok t) :
    t.events = s.events := by
  unfold State.writeBank at h
  split at h <;> cases h
  simp

theorem writeParam_events {t : State} {l : Line} {k : Nat} {p : Option LineParams} (h : s.writeParam l k p = .ok t) :
    t.events = s.events := by
  unfold State.writeParam at h
  split at h <;> cases h
  simp

theorem commitByte_events {t : State} {o : ObjectSel} {k : Nat} {v : Byte} (h : s.commitByte o k v = .ok t) :
    t.events = s.events := by
  unfold State.commitByte at h
  split at h
  · cases h
  · cases o with
    | drop d => exact writeDrop_events s h
    | sched l n => exact writeBank_events s h
    | staging => cases h; rfl
    | params l => exact writeParam_events s h
    | slot | buffer | counters => cases h

theorem commitHalf_events {t : State} {o : ObjectSel} {k : Nat} {hi lo : Byte} (h : s.commitHalf o k hi lo = .ok t) :
    t.events = s.events := by
  unfold State.commitHalf at h
  split at h
  · cases h
  · cases o with
    | sched l n => exact writeBank_events s h
    | params l => exact writeParam_events s h
    | drop | staging | slot | buffer | counters => cases h

theorem settleWrite_events (k : Nat) (bytes : List Byte) {r : Except AccessStatus State}
    (accepted : ∀ t, r = .ok t → t.events = s.events) : (s.settleWrite k bytes r).events = s.events := by
  cases r with
  | ok t => exact accepted t rfl
  | error why => rfl

/-- No object of the access port holds anything of the event unit (10.2). -/
theorem writeObject_events (o : ObjectSel) (k : Nat) (v : Byte) : (s.writeObject o k v).events = s.events := by
  unfold State.writeObject
  split
  · rfl
  · exact settleWrite_events s _ _ fun t h => commitByte_events s h
  · exact settleWrite_events s.emptyHold _ _ fun t h => commitHalf_events s.emptyHold h

theorem writeData_events (v : Byte) : (s.writeData v).events = s.events := by
  unfold State.writeData
  split
  · rfl
  · split
    · rfl
    · exact writeObject_events ..

theorem writeSelector_events (r : SelectReg) (v : Byte) : (s.writeSelector r v).events = s.events := by
  unfold State.writeSelector State.selectObject
  split <;> split <;> rfl

theorem commitDivider_events (c : Source) (v : Byte) : (s.commitDivider c v).events = s.events := by
  unfold State.commitDivider
  dsimp only
  split <;> rfl

theorem setThreshold_queue (u : EventUnit) (v : Byte) : (u.setThreshold v).queue = u.queue := by
  unfold EventUnit.setThreshold
  split <;> rfl

/-- No register but EVENT_POP moves the queue. -/
theorem writeRegister_queue {a : BitVec 6} (other : a ≠ 0x1C) (v : Byte) :
    (s.writeRegister a v).events.queue = s.events.queue := by
  unfold State.writeRegister
  split
  case h_3 | h_4 => rw [writeSelector_events]
  case h_6 => rw [writeData_events]
  case h_7 pop => exact absurd (BitVec.eq_of_toNat_eq pop) other
  case h_10 => exact setThreshold_queue ..
  case h_16 | h_18 => rw [commitDivider_events]
  all_goals rfl

theorem write_queue {a : BitVec 6} (other : a ≠ 0x1C) (v : Byte) : (s.write a v).events.queue = s.events.queue := by
  unfold State.write
  split
  · rfl
  · exact writeRegister_queue s other v

/-! #### Commands -/

theorem withLine_joins (b : Byte) {f : Line → State} (hf : ∀ l, Joins s (f l)) : Joins s (s.withLine b f) := by
  unfold State.withLine
  split
  · exact hf _
  · exact .of_same rfl

theorem withDrop_joins (b : Byte) {f : DropIx → State} (hf : ∀ d, Joins s (f d)) : Joins s (s.withDrop b f) := by
  unfold State.withDrop
  split
  · exact hf _
  · exact .of_same rfl

theorem withTag_joins (b : Byte) {f : Tag → State} (hf : ∀ i, Joins s (f i)) : Joins s (s.withTag b f) := by
  unfold State.withTag
  split
  · exact hf _
  · exact .of_same rfl

theorem placeRequest_events (r : Request) : (s.placeRequest r).events = s.events := by
  unfold State.placeRequest State.claimPayload
  dsimp only
  rw [State.modLine_events]
  split
  · split <;> rfl
  · rfl

theorem runSubmit_joins : Joins s s.runSubmit := by
  unfold State.runSubmit
  split
  case h_1 => exact .of_same rfl
  case h_2 r _ =>
    have placed : Joins s (s.placeRequest r) := .of_same (by rw [placeRequest_events])
    exact (placed.untouched (.select (.refl _) _)).same rfl

theorem runRetire_joins : Joins s s.runRetire :=
  withTag_joins s _ fun _ => .of_same (by split <;> rfl)

theorem abortActive_untouched (i : Tag) : Untouched s (s.abortActive i) := by
  have marked := (Untouched.refl s).modSlot i fun x => { x with abortPending := true }
  unfold State.abortActive
  dsimp only
  split
  · exact untouched_endEarly marked _
  · exact marked

theorem runAbort_joins : Joins s s.runAbort := by
  refine withTag_joins s _ fun i => ?_
  split
  · exact (untouched_joins (.completeQueued (.refl s) i .aborted)).same rfl
  · exact (untouched_joins (abortActive_untouched s i)).same rfl
  all_goals exact .of_same rfl

theorem runDropEnable_joins : Joins s s.runDropEnable := by
  refine withDrop_joins s _ fun d => ?_
  split
  · exact .of_same rfl
  · exact (untouched_joins (((Untouched.refl s).modDrop d Drop.enable fun _ => rfl).postDropState ..)).same rfl

theorem disableDrop_untouched (d : DropIx) : Untouched s (s.disableDrop d) := by
  have completed := (((Untouched.refl s).modDrop d Drop.disable fun _ => rfl).postDropState d .disabled
    (s.drop d).state).completeAll (s.drop d).line (fun x => x.drop = d) .dropDisabled
  unfold State.disableDrop
  dsimp only
  split
  · exact untouched_endEarly completed _
  · exact completed

theorem runDropDisable_joins : Joins s s.runDropDisable := by
  refine withDrop_joins s _ fun d => ?_
  split
  · exact (untouched_joins (disableDrop_untouched s d)).same rfl
  · exact .of_same rfl

theorem roleCommand_joins (r : Role) {f : State → Line → State} (hf : ∀ l, Untouched s (f s l)) :
    Joins s (s.roleCommand r f) := by
  refine withLine_joins s _ fun l => ?_
  split
  · exact .of_same rfl
  · exact (untouched_joins (hf l)).same rfl

theorem runLineStart_joins : Joins s s.runLineStart :=
  roleCommand_joins s _ fun l => .becomeMaster (.refl s) l .command

theorem runLineStandby_joins : Joins s s.runLineStandby := by
  refine roleCommand_joins s _ fun l => ?_
  split
  · exact .becomeStandby (.refl s) l
  · exact .beginYield (.refl s) l

theorem runLineStop_joins : Joins s s.runLineStop := by
  refine roleCommand_joins s _ fun l => ?_
  split
  · exact .stopStandby (.refl s) l
  · exact .beginStop (.refl s) l

theorem finishLineReset_joins (l : Line) : Joins s (s.finishLineReset l) :=
  (untouched_joins (.resetLine (.refl s) l)).same rfl

theorem runLineReset_joins : Joins s s.runLineReset := by
  refine withLine_joins s _ fun l => ?_
  split
  · exact .of_same (by simp)
  · exact finishLineReset_joins s l

theorem runSchedSwap_joins : Joins s s.runSchedSwap := by
  refine withLine_joins s _ fun l => ?_
  dsimp only
  split_ifs
  · exact .of_same rfl
  · exact .of_same (by simp [State.done])
  · exact (untouched_joins (.swapBanks (.refl s) l)).same rfl

theorem runTriggerCycle_joins : Joins s s.runTriggerCycle := by
  refine withLine_joins s _ fun l => ?_
  split
  · exact (untouched_joins (.select (.modLine (.refl s) l _ (by intro; rfl)) l)).same rfl
  · exact .of_same rfl

theorem openHead_events : s.openHead.events = s.events := by
  unfold State.openHead
  split
  · rfl
  · next b _ _ =>
    obtain ⟨f, settled⟩ := s.settleStamp_eq b
    rw [settled]
    simp

theorem releaseHead_events : s.releaseHead.events = s.events := by
  unfold State.releaseHead
  split <;> rfl

theorem runReadyOpen_joins : Joins s s.runReadyOpen := by
  unfold State.runReadyOpen
  split_ifs
  iterate 2 exact .of_same rfl
  exact .of_same (congrArg EventUnit.queue (openHead_events s))

theorem runReadyRelease_joins : Joins s s.runReadyRelease := by
  unfold State.runReadyRelease
  split
  · exact .of_same (congrArg EventUnit.queue (releaseHead_events s))
  · exact .of_same rfl

theorem runClearCounters_joins : Joins s s.runClearCounters := by
  unfold State.runClearCounters
  split
  · exact withDrop_joins s _ fun _ => .of_same rfl
  · exact withLine_joins s _ fun _ => .of_same (by simp [State.done])
  all_goals exact .of_same rfl

/-- Of the commands SOFT_RESET alone takes records away (R158). -/
theorem runCode_joins {code : Byte} (other : code ≠ 0x60) : Joins s (runCode code s) := by
  unfold runCode
  split
  · exact runSubmit_joins s
  · exact runRetire_joins s
  · exact runAbort_joins s
  · exact runDropEnable_joins s
  · exact runDropDisable_joins s
  · exact runLineStart_joins s
  · exact runLineStandby_joins s
  · exact runLineStop_joins s
  · exact runLineReset_joins s
  · exact runSchedSwap_joins s
  · exact runTriggerCycle_joins s
  · exact runReadyOpen_joins s
  · exact runReadyRelease_joins s
  · exact runClearCounters_joins s
  · next softReset => exact absurd (BitVec.eq_of_toNat_eq softReset) other
  · exact .of_same rfl

theorem writeCmd_joins {code : Byte} (other : code ≠ 0x60) : Joins s (s.writeCmd code) := by
  unfold State.writeCmd State.startCommand
  split
  · exact untouched_joins (.raise (.refl s) .cmdOverrun)
  · exact (runCode_joins _ other).after rfl

end

/-! ### Rows -/

/-- A row that writes a code to CMD is that write (R174, log 20). -/
theorem exec_of_cmdCode {c : Instr} {code : Byte} (s : State) (writes : cmdCode c = some code) :
    exec c s = finish (s.writeCmd code) := by
  cases c
  case registerWrite a v =>
    change (if a = 0x02 then some v else none) = some code at writes
    split at writes <;> cases writes
    next cmd => exact congrArg finish (if_pos cmd)
  all_goals cases writes
  all_goals rfl

theorem takesRecords_of_softReset {c : Instr} (soft : cmdCode c = some 0x60) : takesRecords c = true := by
  unfold takesRecords
  split
  iterate 3 rfl
  · rw [decide_eq_true soft, Bool.or_true]
  · exact decide_eq_true soft

/-- The answer of every row but those of `takesRecords` is a state into whose queue records have joined, with nIRQ driven. -/
theorem exec_joins {c : Instr} (keeping : takesRecords c = false) (s : State) : ∃ t, exec c s = finish t ∧ Joins s t := by
  have command {code : Byte} (writes : cmdCode c = some code) : ∃ t, exec c s = finish t ∧ Joins s t :=
    ⟨_, exec_of_cmdCode s writes, writeCmd_joins s fun soft =>
      Bool.eq_false_iff.mp keeping (takesRecords_of_softReset (writes.trans (congrArg some soft)))⟩
  have h := Untouched.refl s
  cases c with
  | deviceReset | softReset | softResetTakesEffect | eventPop => cases keeping
  | submit | retire | abort | dropEnable | dropDisable | lineStart | lineStandby | lineStop | lineReset | schedSwap
  | triggerCycle | readyOpen | readyRelease | clearCounters | badCommand | cmdOverrun => exact command rfl
  | registerWrite a v =>
    have other : a ≠ 0x1C := fun pop => by simp [takesRecords, pop] at keeping
    by_cases cmd : a = 0x02
    · exact command (if_pos cmd)
    · exact ⟨_, congrArg finish (if_neg cmd), .of_same (write_queue s other v)⟩
  | lineResetTakesEffect =>
    refine ⟨_, rfl, ?_⟩
    split
    · exact finishLineReset_joins s _
    all_goals exact .refl s
  | summaryClear | accessOffsetWrite | accessDataWrite | clockControlWrite =>
    exact ⟨_, rfl, .of_same (write_queue s (by decide) _)⟩
  | accessSelect r | tickDividerWrite r | holdRegisterWrite r =>
    exact ⟨_, rfl, .of_same (write_queue s (by cases r <;> decide) _)⟩
  | summaryRead | timestampRead | accessDataRead | eventAgeExpiry | xrefEdge | xrefPresent => exact ⟨_, rfl, .of_same rfl⟩
  | tick => exact ⟨_, rfl, tick_joins s⟩
  | xrefLost => exact ⟨_, rfl, (loseXref_joins s).when⟩
  | clockSwitch => exact ⟨_, rfl, (switchClock_joins s).when⟩
  | cycleTimerExpiry l => exact ⟨_, rfl, untouched_joins (untouched_takeExpiry h l)⟩
  | backoffElapsed l => exact ⟨_, rfl, untouched_joins (untouched_takeBackoff h l)⟩
  | pauseElapsed l => exact ⟨_, rfl, (untouched_joins (.select (h.modLine l _ (by intro; rfl)) l)).when⟩
  | lineSilent l => exact ⟨_, rfl, untouched_joins (h.takeSilence l)⟩
  | characterReceived l x =>
    refine ⟨_, rfl, (untouched_joins ?_).when⟩
    split
    · exact untouched_falseStart h l _
    · exact h.receiveChar l _
  | falseStart l x => exact ⟨_, rfl, (untouched_joins (untouched_falseStart h l x)).when⟩
  | guardSatisfied l => exact ⟨_, rfl, (untouched_joins (untouched_beginCall h l)).when⟩
  | frameSent l => exact ⟨_, rfl, (untouched_joins (untouched_frameSent h l)).when⟩
  | echoMissing l => exact ⟨_, rfl, untouched_joins (h.txUpdate l _)⟩
  | contentionReport l | clockFaultReport l => exact ⟨_, rfl, (untouched_joins (untouched_endCall h l _)).when⟩
  | gapFault l | quietEnd l => exact ⟨_, rfl, (untouched_joins ((untouched_gapPassed h l).deliver l _)).when⟩
  | responseWindowElapsed l => exact ⟨_, rfl, (untouched_joins (untouched_windowElapsed h l)).when⟩
  | observerTimerElapsed l => exact ⟨_, rfl, (untouched_joins (untouched_observerTimerElapsed h l)).when⟩
  | yieldEnd l => exact ⟨_, rfl, (untouched_joins (h.endYield l)).when⟩
  | stopEnd l => exact ⟨_, rfl, (untouched_joins (h.endStop l)).when⟩
  | startBit l => exact ⟨_, rfl, (untouched_joins (untouched_startBit h l)).when⟩
  | lineSeenHigh l => exact ⟨_, rfl, (untouched_joins (h.modLine l _ (by intro; rfl))).when⟩

theorem exec_keeps_records {c : Instr} {s t : State} (keeping : takesRecords c = false) (taken : exec c s = .next t) :
    s.events.queue <+: t.events.queue := by
  obtain ⟨u, answer, joins⟩ := exec_joins keeping s
  rw [answer] at taken
  cases taken
  exact joins.queue

/-- The row is the soft reset that the command unit is BUSY with (R176, R177). -/
theorem exec_softResetTakesEffect {s : State} (waits : s.command.busy = some .softReset) :
    exec .softResetTakesEffect s = finish s.finishSoftReset := by
  refine congrArg finish ?_
  rw [waits]

/-- Settles O17: a post by its cases, EVENT_POP by its equation, and every row but those that take records away by what can
join the queue. -/
theorem eventQueueKeepsOrder : Obligations.EventQueueKeepsOrder := by
  unfold Obligations.EventQueueKeepsOrder
  refine ⟨fun u r => post_of_masked, fun u r enabled => ⟨post_of_room enabled, post_of_full enabled⟩,
    fun s v writable => ?pop, fun c s t => exec_keeps_records, fun s => ⟨_, rfl, rfl⟩,
    fun s waits => ⟨_, exec_softResetTakesEffect waits, rfl⟩, fun s => rfl⟩
  case pop =>
    rw [exec_eventPop writable]
    rfl

end Sys2Proof.Proofs.EventQueue

/-! Reads of the register window that move the bus interface unit: the timestamp latch (R170) and the offset of the access port
(R172). The rows of a line leave the whole unit alone (`Untouched`), and so does every command but the soft reset; of a register
write and the soft reset only the latch is followed. -/

namespace Sys2Proof.Proofs.WindowReads

open Sys2Proof Sys2Proof.Machine Sys2Proof.Proofs.EventQueue

/-! ### ACCESS_DATA and ACCESS_OFFSET (R172) -/

theorem exec_accessOffsetWrite {s : State} (writable : s.writable) (v : Byte) :
    exec (.accessOffsetWrite v) s = .next (s.modBus (·.writeOffset v)).driveIrq :=
  congrArg finish (ClockRegisters.write_of_writable writable 0x0A v)

theorem size_of_not_selected {u : BusUnit} (none_selected : u.selected = none) : u.size = 0 := by
  rw [BusUnit.size, none_selected]

theorem size_of_selected {u : BusUnit} {o : ObjectSel} (selected : u.selected = some o) : u.size = o.size := by
  rw [BusUnit.size, selected]

/-- Settles O22: both rows by their meaning, the size by the selection. -/
theorem accessDataReadAdvances : Obligations.AccessDataReadAdvances := by
  unfold Obligations.AccessDataReadAdvances
  exact ⟨fun s => rfl, fun s v writable => exec_accessOffsetWrite writable v, fun s => size_of_not_selected,
    fun s o => size_of_selected⟩

/-! ### The rows of a line -/

theorem untouched_when {s t : State} {p : Prop} [Decidable p] (h : Untouched s t) : Untouched s (if p then t else s) := by
  split
  · exact h
  · exact .refl s

/-- The answer of every row of a line is a state that only the engines of the part have moved to, with nIRQ driven. -/
theorem exec_lineRow {c : Instr} {l : Line} (row : eventLine c = some l) (s : State) :
    ∃ t, exec c s = finish t ∧ Untouched s t := by
  have h := Untouched.refl s
  cases c
  case cycleTimerExpiry l => exact ⟨_, rfl, untouched_takeExpiry h l⟩
  case backoffElapsed l => exact ⟨_, rfl, untouched_takeBackoff h l⟩
  case pauseElapsed l => exact ⟨_, rfl, untouched_when (.select (h.modLine l _ (by intro; rfl)) l)⟩
  case lineSilent l => exact ⟨_, rfl, h.takeSilence l⟩
  case characterReceived l x =>
    refine ⟨_, rfl, untouched_when ?_⟩
    split
    · exact untouched_falseStart h l _
    · exact h.receiveChar l _
  case falseStart l x => exact ⟨_, rfl, untouched_when (untouched_falseStart h l x)⟩
  case guardSatisfied l => exact ⟨_, rfl, untouched_when (untouched_beginCall h l)⟩
  case frameSent l => exact ⟨_, rfl, untouched_when (untouched_frameSent h l)⟩
  case echoMissing l => exact ⟨_, rfl, h.txUpdate l _⟩
  case contentionReport l => exact ⟨_, rfl, untouched_when (untouched_endCall h l _)⟩
  case clockFaultReport l => exact ⟨_, rfl, untouched_when (untouched_endCall h l _)⟩
  case gapFault l => exact ⟨_, rfl, untouched_when ((untouched_gapPassed h l).deliver l _)⟩
  case quietEnd l => exact ⟨_, rfl, untouched_when ((untouched_gapPassed h l).deliver l _)⟩
  case responseWindowElapsed l => exact ⟨_, rfl, untouched_when (untouched_windowElapsed h l)⟩
  case observerTimerElapsed l => exact ⟨_, rfl, untouched_when (untouched_observerTimerElapsed h l)⟩
  case yieldEnd l => exact ⟨_, rfl, untouched_when (h.endYield l)⟩
  case stopEnd l => exact ⟨_, rfl, untouched_when (h.endStop l)⟩
  case startBit l => exact ⟨_, rfl, untouched_when (untouched_startBit h l)⟩
  case lineSeenHigh l => exact ⟨_, rfl, untouched_when (h.modLine l _ (by intro; rfl))⟩
  all_goals cases row

/-! ### Ticks and clocks leave the bus interface unit alone -/

section

variable (s : State)

theorem eachLine_bus {f : State → Line → State} (hf : ∀ u l, (f u l).bus = u.bus) : (s.eachLine f).bus = s.bus :=
  (hf _ .b).trans (hf s .a)

theorem tickStamp_bus (l : Line) (n : Nat) : (s.tickStamp l n).bus = s.bus := by
  rw [State.tickStamp_eq]
  exact s.modLine_bus l _

theorem tick_bus : s.tick.bus = s.bus := by
  have settled : (s.eachLine State.settleTick).bus = s.bus :=
    eachLine_bus s fun u l => (untouched_settleTick (.refl u) l).bus
  unfold State.tick
  dsimp only
  rw [eachLine_bus _ fun u l => (Untouched.select (.refl u) l).bus, State.modEvents_bus, State.modLines_bus,
    eachLine_bus _ fun u l => tickStamp_bus u l _, State.modClock_bus, settled]

theorem fallback_bus : s.fallback.bus = s.bus := by
  unfold State.fallback
  dsimp only
  rw [eachLine_bus _ fun u l => (untouched_when (.settleWait (.refl u) l)).bus]
  exact eachLine_bus _ fun u l => (untouched_when (((Untouched.refl u).freeAssembling l).observerUpdate l _)).bus

theorem loseXref_bus : s.loseXref.bus = s.bus := by
  unfold State.loseXref
  dsimp only
  split
  · exact fallback_bus _
  · rfl

end

/-! ### Commands leave the bus interface unit alone (R174) -/

section

variable (s : State)

theorem withLine_bus (b : Byte) {f : Line → State} (hf : ∀ l, (f l).bus = s.bus) : (s.withLine b f).bus = s.bus := by
  unfold State.withLine
  split
  · exact hf _
  · rfl

theorem withDrop_bus (b : Byte) {f : DropIx → State} (hf : ∀ d, (f d).bus = s.bus) : (s.withDrop b f).bus = s.bus := by
  unfold State.withDrop
  split
  · exact hf _
  · rfl

theorem withTag_bus (b : Byte) {f : Tag → State} (hf : ∀ i, (f i).bus = s.bus) : (s.withTag b f).bus = s.bus := by
  unfold State.withTag
  split
  · exact hf _
  · rfl

theorem placeRequest_bus (r : Request) : (s.placeRequest r).bus = s.bus := by
  unfold State.placeRequest State.claimPayload
  dsimp only
  rw [State.modLine_bus]
  split
  · split <;> rfl
  · rfl

theorem runSubmit_bus : s.runSubmit.bus = s.bus := by
  unfold State.runSubmit
  split
  case h_1 => rfl
  case h_2 r _ => exact (Untouched.select (.refl _) _).bus.trans (placeRequest_bus s r)

theorem runRetire_bus : s.runRetire.bus = s.bus :=
  withTag_bus s _ fun _ => by split <;> rfl

theorem runAbort_bus : s.runAbort.bus = s.bus := by
  refine withTag_bus s _ fun i => ?_
  split
  · exact (Untouched.completeQueued (.refl s) i .aborted).bus
  · exact (abortActive_untouched s i).bus
  all_goals rfl

theorem runDropEnable_bus : s.runDropEnable.bus = s.bus :=
  withDrop_bus s _ fun _ => by split <;> rfl

theorem runDropDisable_bus : s.runDropDisable.bus = s.bus := by
  refine withDrop_bus s _ fun d => ?_
  split
  · exact (disableDrop_untouched s d).bus
  · rfl

theorem roleCommand_bus (r : Role) {f : State → Line → State} (hf : ∀ l, Untouched s (f s l)) :
    (s.roleCommand r f).bus = s.bus := by
  refine withLine_bus s _ fun l => ?_
  split
  · rfl
  · exact (hf l).bus

theorem runLineStart_bus : s.runLineStart.bus = s.bus :=
  roleCommand_bus s _ fun l => .becomeMaster (.refl s) l .command

theorem runLineStandby_bus : s.runLineStandby.bus = s.bus := by
  refine roleCommand_bus s _ fun l => ?_
  split
  · exact .becomeStandby (.refl s) l
  · exact .beginYield (.refl s) l

theorem runLineStop_bus : s.runLineStop.bus = s.bus := by
  refine roleCommand_bus s _ fun l => ?_
  split
  · exact .stopStandby (.refl s) l
  · exact .beginStop (.refl s) l

theorem finishLineReset_bus (l : Line) : (s.finishLineReset l).bus = s.bus :=
  (Untouched.resetLine (.refl s) l).bus

theorem runLineReset_bus : s.runLineReset.bus = s.bus := by
  refine withLine_bus s _ fun l => ?_
  split
  · exact s.modLine_bus l _
  · exact finishLineReset_bus s l

theorem runSchedSwap_bus : s.runSchedSwap.bus = s.bus := by
  refine withLine_bus s _ fun l => ?_
  dsimp only
  split_ifs
  · rfl
  · exact s.modLine_bus l _
  · exact (Untouched.swapBanks (.refl s) l).bus

theorem runTriggerCycle_bus : s.runTriggerCycle.bus = s.bus := by
  refine withLine_bus s _ fun l => ?_
  split
  · exact (Untouched.select (.modLine (.refl s) l _ (by intro; rfl)) l).bus
  · rfl

theorem openHead_bus : s.openHead.bus = s.bus := by
  unfold State.openHead
  split
  · rfl
  · next b _ _ =>
    obtain ⟨f, settled⟩ := s.settleStamp_eq b
    rw [settled]
    exact s.modLine_bus _ _

theorem runReadyOpen_bus : s.runReadyOpen.bus = s.bus := by
  unfold State.runReadyOpen
  split_ifs
  iterate 2 rfl
  exact openHead_bus s

theorem releaseHead_bus : s.releaseHead.bus = s.bus := by
  unfold State.releaseHead
  split <;> rfl

theorem runReadyRelease_bus : s.runReadyRelease.bus = s.bus := by
  unfold State.runReadyRelease
  split
  · exact releaseHead_bus s
  · rfl

theorem runClearCounters_bus : s.runClearCounters.bus = s.bus := by
  unfold State.runClearCounters
  split
  · exact withDrop_bus s _ fun _ => rfl
  · exact withLine_bus s _ fun l => s.modLine_bus l _
  all_goals rfl

end

/-! ### What keeps the timestamp latch (R170) -/

theorem latch_of_bus {s t : State} (same : t.bus = s.bus) : t.bus.latch = s.bus.latch :=
  congrArg BusUnit.latch same

theorem latch_when {s t : State} {p : Prop} [Decidable p] (same : t.bus.latch = s.bus.latch) :
    (if p then t else s).bus.latch = s.bus.latch := by
  split
  · exact same
  · rfl

section

variable (s : State)

/-- The soft reset empties the access port and the hold register, and no more of the unit (R169, R171, R177). -/
theorem finishSoftReset_latch : s.finishSoftReset.bus.latch = s.bus.latch := rfl

theorem runSoftReset_latch : s.runSoftReset.bus.latch = s.bus.latch := by
  unfold State.runSoftReset
  dsimp only
  split
  · rfl
  · exact finishSoftReset_latch _

theorem runCode_latch (code : Byte) : (runCode code s).bus.latch = s.bus.latch := by
  unfold runCode
  split
  · exact latch_of_bus (runSubmit_bus s)
  · exact latch_of_bus (runRetire_bus s)
  · exact latch_of_bus (runAbort_bus s)
  · exact latch_of_bus (runDropEnable_bus s)
  · exact latch_of_bus (runDropDisable_bus s)
  · exact latch_of_bus (runLineStart_bus s)
  · exact latch_of_bus (runLineStandby_bus s)
  · exact latch_of_bus (runLineStop_bus s)
  · exact latch_of_bus (runLineReset_bus s)
  · exact latch_of_bus (runSchedSwap_bus s)
  · exact latch_of_bus (runTriggerCycle_bus s)
  · exact latch_of_bus (runReadyOpen_bus s)
  · exact latch_of_bus (runReadyRelease_bus s)
  · exact latch_of_bus (runClearCounters_bus s)
  · exact runSoftReset_latch s
  · rfl

theorem writeCmd_latch (code : Byte) : (s.writeCmd code).bus.latch = s.bus.latch := by
  unfold State.writeCmd State.startCommand
  split
  · rfl
  · exact runCode_latch _ code

/-! #### Register writes -/

variable {s}

theorem writeDrop_bus {t : State} {d : DropIx} {k : Nat} {v : Byte} (h : s.writeDrop d k v = .ok t) : t.bus = s.bus := by
  unfold State.writeDrop at h
  split at h
  · cases h
  · split at h <;> cases h
    rfl

theorem writeBank_bus {t : State} {l : Line} {n : Bool} {b : Option Bank} (h : s.writeBank l n b = .ok t) :
    t.bus = s.bus := by
  unfold State.writeBank at h
  split at h <;> cases h
  exact s.modLine_bus l _

theorem writeParam_bus {t : State} {l : Line} {k : Nat} {p : Option LineParams} (h : s.writeParam l k p = .ok t) :
    t.bus = s.bus := by
  unfold State.writeParam at h
  split at h <;> cases h
  exact s.modLine_bus l _

theorem commitByte_bus {t : State} {o : ObjectSel} {k : Nat} {v : Byte} (h : s.commitByte o k v = .ok t) :
    t.bus = s.bus := by
  unfold State.commitByte at h
  split at h
  · cases h
  · cases o with
    | drop d => exact writeDrop_bus h
    | sched l n => exact writeBank_bus h
    | staging => cases h; rfl
    | params l => exact writeParam_bus h
    | slot | buffer | counters => cases h

theorem commitHalf_bus {t : State} {o : ObjectSel} {k : Nat} {hi lo : Byte} (h : s.commitHalf o k hi lo = .ok t) :
    t.bus = s.bus := by
  unfold State.commitHalf at h
  split at h
  · cases h
  · cases o with
    | sched l n => exact writeBank_bus h
    | params l => exact writeParam_bus h
    | drop | staging | slot | buffer | counters => cases h

theorem settleWrite_latch (k : Nat) (bytes : List Byte) {r : Except AccessStatus State}
    (accepted : ∀ t, r = .ok t → t.bus = s.bus) : (s.settleWrite k bytes r).bus.latch = s.bus.latch := by
  cases r with
  | ok t =>
    have same : t.bus.latch = s.bus.latch := latch_of_bus (accepted t rfl)
    exact same
  | error why => rfl

variable (s)

theorem writeObject_latch (o : ObjectSel) (k : Nat) (v : Byte) : (s.writeObject o k v).bus.latch = s.bus.latch := by
  unfold State.writeObject
  split
  · rfl
  · exact settleWrite_latch _ _ fun t h => commitByte_bus h
  · exact settleWrite_latch (s := s.emptyHold) _ _ fun t h => commitHalf_bus h

theorem writeData_latch (v : Byte) : (s.writeData v).bus.latch = s.bus.latch := by
  unfold State.writeData
  split
  · rfl
  · split
    · rfl
    · exact writeObject_latch ..

theorem writeSelector_latch (r : SelectReg) (v : Byte) : (s.writeSelector r v).bus.latch = s.bus.latch := by
  unfold State.writeSelector State.selectObject
  split <;> split <;> rfl

theorem writeOffset_latch (u : BusUnit) (v : Byte) : (u.writeOffset v).latch = u.latch := by
  unfold BusUnit.writeOffset
  split <;> rfl

theorem commitDivider_latch (c : Source) (v : Byte) : (s.commitDivider c v).bus.latch = s.bus.latch := by
  unfold State.commitDivider
  dsimp only
  split <;> rfl

/-- TIMESTAMP1 to 3 are read-only, and no other register writes the latch (R168, R170). -/
theorem write_latch (a : BitVec 6) (v : Byte) : (s.write a v).bus.latch = s.bus.latch := by
  unfold State.write
  split
  · rfl
  · unfold State.writeRegister
    split
    case h_3 | h_4 => exact writeSelector_latch ..
    case h_5 => exact writeOffset_latch ..
    case h_6 => exact writeData_latch ..
    case h_16 | h_18 => exact commitDivider_latch ..
    all_goals rfl

end

/-! ### Rows -/

/-- The answer of every row but TIMESTAMP_READ and DEVICE_RESET is a state with the same latch, with nIRQ driven. -/
theorem exec_latch {c : Instr} (not_read : c ≠ .timestampRead) (not_reset : c ≠ .deviceReset) (s : State) :
    ∃ t, exec c s = finish t ∧ t.bus.latch = s.bus.latch := by
  cases row : eventLine c with
  | some l =>
    obtain ⟨t, answer, untouched⟩ := exec_lineRow row s
    exact ⟨t, answer, latch_of_bus untouched.bus⟩
  | none =>
  cases command : cmdCode c with
  | some code => exact ⟨_, exec_of_cmdCode s command, writeCmd_latch s code⟩
  | none =>
    cases c
    case timestampRead => exact absurd rfl not_read
    case deviceReset => exact absurd rfl not_reset
    case registerWrite a v =>
      have other : a ≠ 0x02 := fun cmd => by simp [cmdCode, cmd] at command
      exact ⟨_, congrArg finish (if_neg other), write_latch s a v⟩
    case summaryClear | eventPop | accessSelect | accessOffsetWrite | accessDataWrite | clockControlWrite | tickDividerWrite
        | holdRegisterWrite =>
      exact ⟨_, rfl, write_latch s _ _⟩
    case lineResetTakesEffect =>
      refine ⟨_, rfl, ?_⟩
      split
      · exact latch_of_bus (finishLineReset_bus s _)
      all_goals rfl
    case softResetTakesEffect =>
      refine ⟨_, rfl, ?_⟩
      split
      · exact finishSoftReset_latch s
      all_goals rfl
    case tick => exact ⟨_, rfl, latch_of_bus (tick_bus s)⟩
    case xrefLost => exact ⟨_, rfl, latch_when (latch_of_bus (loseXref_bus s))⟩
    case clockSwitch => exact ⟨_, rfl, latch_when rfl⟩
    case summaryRead | accessDataRead | eventAgeExpiry | xrefEdge | xrefPresent => exact ⟨_, rfl, rfl⟩
    all_goals contradiction

theorem exec_keeps_latch {c : Instr} {s t : State} (not_read : c ≠ .timestampRead) (not_reset : c ≠ .deviceReset)
    (taken : exec c s = .next t) : t.bus.latch = s.bus.latch := by
  obtain ⟨u, answer, same⟩ := exec_latch not_read not_reset s
  rw [answer] at taken
  cases taken
  exact same

/-- The stamp bytes of the event window are those of the head record (R159). -/
theorem eventStamp_of_latch (s : State) {k : BitVec 6} (low : 0x18 ≤ k.toNat) (high : k.toNat ≤ 0x1B) (x : BitVec 24) :
    (s.modBus fun u => { u with latch := x }).readRegister k = s.readRegister k := by
  have address : k.toNat = 0x18 ∨ k.toNat = 0x19 ∨ k.toNat = 0x1A ∨ k.toNat = 0x1B := by omega
  unfold State.readRegister
  rcases address with stamp0 | stamp1 | stamp2 | stamp3
  · rw [stamp0]; rfl
  · rw [stamp1]; rfl
  · rw [stamp2]; rfl
  · rw [stamp3]; rfl

/-- Settles O20: the row and the registers by their meaning, every other row by what it leaves of the bus interface unit. -/
theorem timestampReadLatches : Obligations.TimestampReadLatches := by
  unfold Obligations.TimestampReadLatches
  exact ⟨fun s => rfl, fun s => ⟨rfl, rfl, rfl⟩, fun c s t => exec_keeps_latch, fun s => ⟨_, rfl, rfl⟩,
    fun s k low high => eventStamp_of_latch s low high⟩

end Sys2Proof.Proofs.WindowReads

/-! Rows that do one thing: the queue of commands, the XREF monitor, the cycle timer's expiry, the start of a call, and what the
command unit and the register window refuse or ignore. -/

namespace Sys2Proof.Proofs.Rows

open Sys2Proof Sys2Proof.Machine Sys2Proof.Laws Sys2Proof.Proofs.DropTable Sys2Proof.Proofs.SwapAndTrigger
open Sys2Proof.Proofs.EventQueue Sys2Proof.Proofs.WindowReads Sys2Proof.Proofs.ClockRegisters

/-! ### The machine as a whole -/

/-- Settles O1: the command at the front is the first case of a step. -/
theorem stepRunsFront : Obligations.StepRunsFront := by
  unfold Obligations.StepRunsFront
  intro c rest s waiting
  unfold step
  rw [waiting]

theorem untouched_driveIrq {s t : State} (h : Untouched s t) : Untouched s t.driveIrq :=
  ⟨h.events, h.settings, h.clock, h.bus, h.command, h.staging, h.sequence, h.opened, h.pending,
    fun l => by rw [State.driveIrq_line]; exact h.lines l, h.config⟩

/-- Settles O15: every row of a line is the engines' doing, and nIRQ is outside the frame. -/
theorem lineRowsLeaveHostSide : Obligations.LineRowsLeaveHostSide := by
  unfold Obligations.LineRowsLeaveHostSide
  intro s t c l row answer
  obtain ⟨u, answers, untouched⟩ := exec_lineRow row s
  rw [answers] at answer
  cases answer
  exact untouched_driveIrq untouched

/-! ### The XREF monitor (R142) -/

section

variable {s : State} {c : ClockUnit}

theorem exec_xrefEdge {rising : Bool} (edge : s.clock.edge rising = c) :
    exec (.xrefEdge rising) s = .next (State.driveIrq { s with clock := c }) := by
  subst edge
  rfl

theorem edge_of_disabled (rising : Bool) (off : c.xrefEnable = false) : c.edge rising = c :=
  if_pos (by simp [off])

theorem edge_of_absent (rising : Bool) (on : c.xrefEnable = true) (absent : c.monitor = .absent) :
    c.edge rising = { c with monitor := .starting, edges := if rising then 1 else 0, quiet := 0 } := by
  simp [ClockUnit.edge, on, absent]

theorem edge_of_starting (rising : Bool) (on : c.xrefEnable = true) (starting : c.monitor = .starting) :
    c.edge rising = { c with edges := c.edges + (if rising then 1 else 0), quiet := 0
                             monitor := if 4096 ≤ c.edges + (if rising then 1 else 0) then .present else .starting } := by
  cases rising <;> simp [ClockUnit.edge, on, starting, Config.xrefEdges]

theorem edge_of_present (rising : Bool) (on : c.xrefEnable = true) (present : c.monitor = .present) :
    c.edge rising = { c with quiet := 0 } := by
  simp [ClockUnit.edge, on, present]

theorem edgesDone_of_starting (on : c.xrefEnable = true) (starting : c.monitor = .starting) :
    c.edgesDone = { c with monitor := .present, edges := 4096, quiet := 0 } :=
  if_pos (by simp [on, starting])

/-- A loss of XREF while IOSC is effective moves the monitor alone. -/
theorem loseXref_of_iosc (iosc : s.clock.effective = .iosc) :
    s.loseXref = { s with clock := { s.clock with monitor := .absent, edges := 0, quiet := 0 } } :=
  if_neg (by simp [iosc])

end

/-- Settles O59, monitor state by monitor state. -/
theorem xrefMonitor : Obligations.XrefMonitor := by
  unfold Obligations.XrefMonitor
  intro s rising
  refine ⟨fun off => ?disabled, fun on absent => exec_xrefEdge (edge_of_absent rising on absent),
    fun on starting => exec_xrefEdge (edge_of_starting rising on starting),
    fun on present => exec_xrefEdge (edge_of_present rising on present), fun on starting => ?done, fun on heard iosc => ?lost⟩
  case disabled => exact exec_xrefEdge (edge_of_disabled rising off)
  case done =>
    change finish { s with clock := s.clock.edgesDone } = _
    rw [edgesDone_of_starting on starting]
    rfl
  case lost =>
    change finish (if _ then s.loseXref else s) = _
    rw [if_pos (by simp [on, heard]), loseXref_of_iosc iosc]
    rfl

/-! ### The cycle timer's expiry (R69, R70) -/

section

variable {s : State} {l : Line}

/-- A line whose expiry has been taken. -/
def expiryTaken (e : LineEngine) : LineEngine :=
  { e with cycle := { e.cycle with expiryDue := false } }

/-- The row that takes an expiry, once it is taken: what the cycle mode and the role make of it. -/
theorem exec_cycleTimerExpiry (due : (s.line l).cycle.expiryDue = true) :
    exec (.cycleTimerExpiry l) s =
      finish ((s.setLine l (expiryTaken (s.line l))).expire l) := by
  change finish (s.takeExpiry l) = _
  unfold State.takeExpiry
  rw [if_pos due, State.modCycle_eq]
  rfl

theorem setLine_setLine (s : State) (l : Line) (e f : LineEngine) : (s.setLine l e).setLine l f = s.setLine l f := by
  cases l <;> rfl

theorem setLine_self (s : State) (l : Line) : s.setLine l (s.line l) = s := by
  cases l <;> rfl

theorem line_setLine_self (s : State) (l : Line) (e : LineEngine) : (s.setLine l e).line l = e := by
  rw [State.setLine_line, if_pos rfl]

theorem modLine_setLine (s : State) (l : Line) (e : LineEngine) (f : LineEngine → LineEngine) :
    (s.setLine l e).modLine l f = s.setLine l (f e) := by
  unfold State.modLine
  rw [line_setLine_self, setLine_setLine]

variable {e : LineEngine}

theorem expire_of_not_timed (other : ¬ (e.params.mode = .timed ∧ e.role.mastering = true)) :
    (s.setLine l e).expire l = s.setLine l e := by
  unfold State.expire
  rw [line_setLine_self]
  exact if_neg (by simpa using other)

/-- An expiry in a cycle is an overrun, reported once until the pending flag is taken (R70). -/
theorem expire_in_cycle (timed : e.params.mode = .timed) (mastering : e.role.mastering = true)
    (walking : e.cycle.inProgress = true) :
    (s.setLine l e).expire l =
      if e.cycle.owed then
        s.setLine l { e with counters := { e.counters with overruns := satInc e.counters.overruns } }
      else
        (s.setLine l { e with counters := { e.counters with overruns := satInc e.counters.overruns }
                              cycle := { e.cycle with owed := true } }).reportOverrun l := by
  unfold State.expire
  rw [line_setLine_self, if_pos (by simp [timed, mastering]), if_pos walking]
  unfold State.overrun State.countOverrun
  simp only [State.modCounters_eq, State.modCycle_eq, modLine_setLine, line_setLine_self]

theorem expire_between_cycles (timed : e.params.mode = .timed) (mastering : e.role.mastering = true)
    (resting : e.cycle.inProgress = false) :
    (s.setLine l e).expire l = (s.setLine l { e with cycle := { e.cycle with owed := true } }).select l := by
  unfold State.expire
  rw [line_setLine_self, if_pos (by simp [timed, mastering]), if_neg (by simp [resting])]
  simp only [State.modCycle_eq, modLine_setLine]

/-- The event and the summary bit of an overrun. -/
theorem reportOverrun_setLine : (s.setLine l e).reportOverrun l =
    { s.setLine l e with
      events := (s.events.post { kind := .cycleOverrun, line := some l, drop := none, tag := none, code := 0
                                 detail := e.cycle.number.setWidth 8, stamp := s.clock.timestamp }).raise
                  (match l with | .a => .overrunA | .b => .overrunB) } := by
  cases l <;> rfl

theorem select_off_boundary (off : (s.line l).role ≠ .master ∨ (s.line l).ctl.state ≠ .idle) : s.select l = s :=
  if_pos (by simpa [LineEngine.atBoundary, or_iff_not_imp_left] using off)

end

/-- Settles O42, by mode and role, then by the cycle in progress and the pending flag. -/
theorem expiryOwesCycleOrOverruns : Obligations.ExpiryOwesCycleOrOverruns := by
  unfold Obligations.ExpiryOwesCycleOrOverruns
  intro s l due
  simp only [← mastering_iff]
  refine ⟨fun other => ?untimed, fun timed walking owed => ?counted, fun timed walking fresh => ?reported,
    fun timed resting off => ?owes, fun timed resting master idle => ?selects⟩
  all_goals rw [exec_cycleTimerExpiry due]
  case untimed => rw [expire_of_not_timed (e := expiryTaken (s.line l)) other]; rfl
  case counted => rw [expire_in_cycle (e := expiryTaken (s.line l)) timed.1 timed.2 walking, if_pos (by simpa [expiryTaken] using owed)]; rfl
  case reported =>
    rw [expire_in_cycle (e := expiryTaken (s.line l)) timed.1 timed.2 walking, if_neg (by simp [expiryTaken, fresh]), reportOverrun_setLine]
    rfl
  case owes =>
    rw [expire_between_cycles (e := expiryTaken (s.line l)) timed.1 timed.2 resting, select_off_boundary (by simpa [expiryTaken] using off)]
    rfl
  case selects => rw [expire_between_cycles (e := expiryTaken (s.line l)) timed.1 timed.2 resting]; rfl

/-! ### The start of a call (R43, R64, R150) -/

section

variable {s : State} {l : Line} {x : Txn}

theorem callKind_of_txn {c : Controller} (inHand : c.txn = some x) : c.callKind = x.kind := by
  rw [Controller.callKind, inHand]

theorem stampBytesLE_eq (n : Stamp) :
    stampBytesLE n = [n.setWidth 8, (n >>> 8).setWidth 8, (n >>> 16).setWidth 8, (n >>> 24).setWidth 8] := by
  simp [stampBytesLE, stampByte]

/-- The call on the wire carries the payload of its attempt, a SYNC the timestamp of this moment. -/
theorem wireCall_eq (inHand : (s.line l).ctl.txn = some x) : s.wireCall l = { (s.line l).ctl.call with
    payload := if x.kind = .sync then [s.clock.timestamp.setWidth 8, (s.clock.timestamp >>> 8).setWidth 8,
      (s.clock.timestamp >>> 16).setWidth 8, (s.clock.timestamp >>> 24).setWidth 8] else (s.line l).ctl.call.payload } := by
  unfold State.wireCall
  dsimp only
  rw [callKind_of_txn inHand, stampBytesLE_eq]
  split <;> rfl

/-- The line after the first start bit of a call. -/
theorem beginCall_eq (inHand : (s.line l).ctl.txn = some x) : s.beginCall l = s.setLine l { s.line l with
    divisor := (s.line l).params.divisorFor s.clock.effective
    rx := idleAtLeast (s.line l).rx (s.line l).ctl.guard, stamping := stampIdle (s.line l) (s.line l).ctl.guard
    tx := (s.line l).tx.start (s.wireCall l).chars
    ctl := { (s.line l).ctl with state := .send, call := s.wireCall l
                                 txn := some { x with attempts := x.attempts + 1 } }
    cycle := if x.kind = .sync then { (s.line l).cycle with performed := (s.line l).cycle.performed + 1 }
             else (s.line l).cycle } := by
  have kind : (((s.reloadDivisor l).modLine l fun e =>
      { e.idleFor e.ctl.guard with
        tx := e.tx.start (s.wireCall l).chars
        ctl := { e.ctl with state := .send, call := s.wireCall l
                            txn := e.ctl.txn.map fun t => { t with attempts := t.attempts + 1 } } }).line l).ctl.callKind = x.kind := by
    simp [State.reloadDivisor, Controller.callKind, LineEngine.idleFor, inHand]
  unfold State.beginCall
  dsimp only
  rw [kind]
  split
  · simp only [State.countPerformed, State.modCycle_eq, State.reloadDivisor]
    simp only [State.modLine, line_setLine_self, setLine_setLine, inHand, Option.map_some, LineEngine.idleFor]
    rfl
  · simp only [State.reloadDivisor]
    simp only [State.modLine, line_setLine_self, setLine_setLine, inHand, Option.map_some, LineEngine.idleFor]
    rfl

/-- The transmitter once a call has begun: the address character is in transmission, the rest follows in order (R10, R13). -/
theorem start_chars (x : Transmitter) (c : Call) :
    let body := c.address :: c.control :: BitVec.ofNat 8 c.payload.length :: c.payload
    (x.start c.chars).enable = true ∧ (x.start c.chars).pin = false ∧
      (x.start c.chars).sending = some ⟨c.address, true⟩ ∧
      (x.start c.chars).toSend = ((body ++ [checkByte body]).drop 1).map (⟨·, false⟩) ∧
      (x.start c.chars).echoes.map (·.char) = [⟨c.address, true⟩] := by
  refine ⟨rfl, rfl, rfl, ?_, rfl⟩
  change c.body.tail.map _ ++ [_] = (c.body ++ [checkByte c.body]).tail.map _
  simp [Call.body]

end

/-- Settles O53: the row takes place, and then its parts are those of the call on the wire. -/
theorem guardSatisfiedBeginsCall : Obligations.GuardSatisfiedBeginsCall := by
  unfold Obligations.GuardSatisfiedBeginsCall
  intro s l x master guard inHand hunting released noSoftReset noReset
  have may : s.mayCall l = true := by
    simp [State.mayCall, State.resetWaits, master, guard, inHand, hunting, released, noSoftReset, noReset]
  refine ⟨(s.beginCall l).driveIrq, congrArg finish (if_pos may), ?_⟩
  dsimp only
  rw [State.driveIrq_line, beginCall_eq inHand, line_setLine_self, wireCall_eq inHand]
  exact ⟨by cases l <;> rfl, rfl, start_chars ..⟩

/-! ### The command unit (R174, R175) -/

theorem writeCmd_of_idle {s : State} (idle : s.idle) (code : Byte) : s.writeCmd code = runCode code (coded code s) :=
  startCommand_of_idle idle ..

theorem writeCmd_of_busy {s : State} (busy : s.command.busy ≠ none) (code : Byte) : s.writeCmd code = s.raise .cmdOverrun :=
  if_pos (Option.isSome_iff_ne_none.mpr busy)

theorem raise_cmdOverrun (s : State) : s.raise .cmdOverrun =
    { s with events := if s.events.summary.getLsbD 2 then { s.events with renewed := s.events.renewed ||| 0x04 }
                       else { s.events with summary := s.events.summary ||| 0x04 } } := rfl

/-! ### DROP_ENABLE (R30) -/

section

variable {s : State} {d : DropIx}

theorem exec_dropEnable (idle : s.idle) : exec .dropEnable s = finish (coded 0x10 s).runDropEnable :=
  congrArg finish (startCommand_of_idle idle ..)

theorem judgeEnable_withCommand (c : CommandUnit) : (withCommand c s).judgeEnable d = s.judgeEnable d := rfl

theorem dropEnable_badDrop (idle : s.idle) (bad : 31 < s.bus.arg0.toNat) :
    exec .dropEnable s = .next (refusedAs s 0x10 .badDrop) := by
  have refused : (coded 0x10 s).runDropEnable = (coded 0x10 s).refuse .badDrop := by
    unfold State.runDropEnable State.withDrop
    rw [dropOf_eq_none (b := (coded 0x10 s).bus.arg0) bad]
  rw [exec_dropEnable idle, refused, finish_refuse_coded idle]

/-- A drop that exists is enabled unless a check of R30 names a refusal. -/
theorem dropEnable_eq (idle : s.idle) (named : s.bus.arg0.toNat = d.val) : exec .dropEnable s =
    match s.judgeEnable d with
    | some why => .next (refusedAs s 0x10 why)
    | none => .next (doneAs ((s.modDrop d Drop.enable).postDropState d .unknown .disabled) 0x10 0) := by
  have found : dropOf (coded 0x10 s).bus.arg0 = some d := dropOf_eq_some named
  rw [exec_dropEnable idle]
  unfold State.runDropEnable State.withDrop
  simp only [found]
  rw [coded, judgeEnable_withCommand, ← coded]
  cases s.judgeEnable d with
  | some why => exact finish_refuse_coded idle ..
  | none => rfl

theorem inUse_iff : s.inUse d = true ↔ s.txnDrop .a = some d ∨ s.txnDrop .b = some d := by
  simp [State.inUse, bothLines]

theorem duplicate_iff : s.duplicate d = true ↔
    ∃ e, (s.drop e).state ≠ .disabled ∧ (s.drop e).line = (s.drop d).line ∧ (s.drop e).address = (s.drop d).address := by
  simp [State.duplicate, Drop.enabled, allDrops, and_assoc]

theorem enabled_iff {x : Drop} : x.enabled = true ↔ x.state ≠ .disabled := by
  simp [Drop.enabled]

end

/-- Settles O35: the checks of R30 in their order, and the record that passing them all writes. -/
theorem dropEnableStartsAfresh : Obligations.DropEnableStartsAfresh := by
  unfold Obligations.DropEnableStartsAfresh
  intro s idle
  refine ⟨dropEnable_badDrop idle, fun d named => ?_⟩
  dsimp only
  rw [← inUse_iff, ← duplicate_iff, dropEnable_eq idle named]
  unfold State.judgeEnable
  refine ⟨fun enabled => ?_, fun off used => ?_, fun off free bad => ?_, fun off free low high twice => ?_,
    fun off free low high once => ?_⟩
  · rw [if_pos (enabled_iff.mpr enabled)]
  all_goals rw [if_neg (mt enabled_iff.mp (not_not.mpr off))]
  · rw [if_pos used]
  all_goals rw [if_neg free]
  · rw [if_pos bad]
  all_goals rw [if_neg (not_or.mpr ⟨low, high⟩)]
  · rw [if_pos twice]
  · rw [if_neg once]
    unfold State.postDropState State.post
    rw [State.modDrop_drop, if_pos rfl]
    rfl

/-! ### Register writes without a row of their own (R168, R169, R176) -/

section

variable {s : State}

theorem exec_registerWrite {a : BitVec 6} (other : a ≠ 0x02) (v : Byte) : exec (.registerWrite a v) s = finish (s.write a v) :=
  congrArg finish (if_neg other)

/-- A write that is taken is the write of the register. -/
theorem exec_registerWrite_of_writable (writable : s.writable) {a : BitVec 6} (other : a ≠ 0x02) (v : Byte) :
    exec (.registerWrite a v) s = finish (s.writeRegister a v) := by
  rw [exec_registerWrite other, write_of_writable writable]

theorem setThreshold_eq (u : EventUnit) (v : Byte) :
    u.setThreshold v = if 1 ≤ v.toNat ∧ v.toNat ≤ 32 then { u with threshold := v.toNat } else u := by
  unfold EventUnit.setThreshold inRange
  split_ifs <;> rfl

theorem exec_holdRegisterWrite (writable : s.writable) (r : WideReg) (v : Byte) :
    exec (.holdRegisterWrite r v) s = finish (s.holdByte (.reg r) v) := by
  cases r
  case eventMask => exact congrArg finish (write_of_writable writable 0x1E v)
  case tickDivIosc => exact congrArg finish (write_of_writable writable 0x28 v)
  case tickDivXref => exact congrArg finish (write_of_writable writable 0x2A v)

theorem halfOf_eq_ofNat (hi lo : Byte) : halfOf hi lo = BitVec.ofNat 16 (wide hi lo) :=
  BitVec.eq_of_toNat_eq (by rw [toNat_halfOf, BitVec.toNat_ofNat, wide]; omega)

/-- The half that a commit of the event mask takes is the one held for it, else the mask's own (R169). -/
theorem upperHalf_mask {hi : Byte} (upper : s.bus.hold = some (.reg .eventMask, hi) ∨
    ((∀ b, s.bus.hold ≠ some (.reg .eventMask, b)) ∧ hi.toNat = s.events.mask.toNat / 256)) :
    s.upperHalf (.reg .eventMask) (msb s.events.mask) = hi := by
  rcases upper with held | ⟨free, current⟩
  · exact upperHalf_of_held held
  · rw [upperHalf_of_not_held free]
    exact BitVec.eq_of_toNat_eq (by rw [toNat_msb, current])

theorem commitMask_eq {v hi : Byte} (upper : s.bus.hold = some (.reg .eventMask, hi) ∨
    ((∀ b, s.bus.hold ≠ some (.reg .eventMask, b)) ∧ hi.toNat = s.events.mask.toNat / 256)) :
    s.commitMask v = { s with bus := { s.bus with hold := none }
                              events := { s.events with mask := BitVec.ofNat 16 (wide hi v) &&& 0x0FFE } } := by
  unfold State.commitMask
  rw [upperHalf_mask upper, halfOf_eq_ofNat]
  rfl

/-- The addresses that the map gives no write (R168). -/
theorem writeRegister_readOnly {a : BitVec 6} (readOnly : a.toNat ∈ [0x00, 0x01, 0x05, 0x06, 0x07, 0x0C, 0x0D, 0x0E, 0x0F,
    0x10, 0x11, 0x12, 0x13, 0x14, 0x15, 0x16, 0x17, 0x18, 0x19, 0x1A, 0x1B, 0x1D, 0x23, 0x24, 0x27, 0x2C, 0x2D, 0x2E, 0x2F] ∨
      0x30 ≤ a.toNat) (v : Byte) : s.writeRegister a v = s := by
  unfold State.writeRegister
  split
  iterate 18 (next named => rw [named] at readOnly; exact absurd readOnly (by decide))
  rfl

theorem write_of_softReset (waits : s.command.busy = some .softReset) (a : BitVec 6) (v : Byte) : s.write a v = s :=
  if_pos waits

theorem runCode_of_unknown {code : Byte} (unknown : code ∉ commandCodes) (s : State) : runCode code s = s.refuse .badCommand := by
  have other (n : Nat) (listed : BitVec.ofNat 8 n ∈ commandCodes) : code.toNat ≠ n := by
    rintro rfl
    exact unknown (by rwa [BitVec.ofNat_toNat, BitVec.setWidth_eq] at listed)
  unfold runCode
  split
  iterate 15 (next named => exact absurd named (other _ (by decide)))
  rfl

end

/-- Settles O27: each register by its own write, and what waits for SOFT_RESET by `State.write` itself. -/
theorem plainAndIgnoredWrites : Obligations.PlainAndIgnoredWrites := by
  unfold Obligations.PlainAndIgnoredWrites
  refine ⟨fun s v hi writable => ?taken, fun s v r w src a waits other c ignored => ?ignored, fun s code idle unknown => ?bad⟩
  case taken =>
    have write {a : BitVec 6} (other : a ≠ 0x02) := exec_registerWrite_of_writable writable other v
    refine ⟨write (by decide), write (by decide), ?threshold, write (by decide), write (by decide),
      fun r => exec_holdRegisterWrite writable r v, fun upper => ?mask, fun a readOnly => ?readOnly⟩
    case threshold =>
      rw [write (by decide), ← setThreshold_eq]
      rfl
    case mask =>
      rw [write (by decide)]
      exact congrArg finish (commitMask_eq upper)
    case readOnly =>
      have other : a ≠ 0x02 := by
        rintro rfl
        exact absurd readOnly (by decide)
      rw [write other, writeRegister_readOnly readOnly]
      rfl
  case ignored =>
    have kept := write_of_softReset (s := s) waits
    simp only [List.mem_cons, List.not_mem_nil, or_false] at ignored
    rcases ignored with rfl | rfl | rfl | rfl | rfl | rfl | rfl | rfl | rfl
    case inr.inr.inr.inr.inr.inr.inr.inr => rw [exec_registerWrite other, kept]; rfl
    all_goals exact congrArg finish (kept ..)
  case bad =>
    change finish (s.writeCmd code) = _
    rw [writeCmd_of_idle idle, runCode_of_unknown unknown, finish_refuse_coded idle]

end Sys2Proof.Proofs.Rows

/-! What rows are made of. Every row of the part is a chain of elementary moves: a record of a line engine moves without a change of
role or queue, the event unit is told something, drop records take reports, a buffer changes its place, a request is started, closed
or put back. An invariant is kept by every step when each elementary move keeps it, so the rows are walked through here once and
each invariant is then a short case analysis of the moves. -/

namespace Sys2Proof.Proofs.Work

open Sys2Proof Sys2Proof.Machine

/-! ### Operations that leave the line engines alone -/

section

variable (s : State) (l k : Line)

@[simp] theorem raise_line (b : SummaryBit) : (s.raise b).line k = s.line k := by cases k <;> rfl

@[simp] theorem post_line (x : EventKind) (o : Option Line) (d : Option DropIx) (t : Option Tag) (c e : Byte) :
    (s.post x o d t c e).line k = s.line k := by cases k <;> rfl

@[simp] theorem postRole_line (c : RoleCause) : (s.postRole l c).line k = s.line k := post_line ..

@[simp] theorem postIfChanged_line (d : DropIx) (old : DropState) : (s.postIfChanged d old).line k = s.line k := by
  unfold State.postIfChanged State.postDropState; split <;> simp

@[simp] theorem freeAssembling_line : (s.freeAssembling l).line k = s.line k := by
  rw [State.freeAssembling_eq]; cases k <;> rfl

@[simp] theorem freeHeld_line (t : Tag) : (s.freeHeld t).line k = s.line k := by
  rw [State.freeHeld_eq]; cases k <;> rfl

@[simp] theorem complete_line (t : Tag) (o : TxnOutcome) (n : Nat) (b : Bool) : (s.complete t o n b).line k = s.line k := by
  simp [State.complete]

@[simp] theorem writePayload_line (n : Nat) (b : Byte) : (s.writePayload l n b).line k = s.line k := by
  unfold State.writePayload; split <;> simp

@[simp] theorem storeReady_line (b : BufIx) : (s.storeReady b).line k = s.line k := by
  unfold State.storeReady State.freeAt
  dsimp only
  split <;> cases k <;> rfl

@[simp] theorem endReport_line (d : DropIx) (o : TxnOutcome) (b : Bool) : (s.endReport d o b).line k = s.line k := by
  simp [State.endReport]

@[simp] theorem reportEnd_line (x : Txn) (o : TxnOutcome) : (s.reportEnd x o).line k = s.line k := by
  unfold State.reportEnd; split <;> simp

@[simp] theorem completeTxn_line (x : Txn) (o : TxnOutcome) : (s.completeTxn x o).line k = s.line k := by
  unfold State.completeTxn; split <;> simp

@[simp] theorem postCycleDone_line (b : Bool) : (s.postCycleDone l b).line k = s.line k := by
  unfold State.postCycleDone; dsimp only; split <;> simp

@[simp] theorem staleReport_line (d : DropIx) : (s.staleReport d).line k = s.line k := by simp [State.staleReport]

@[simp] theorem attemptReport_line (d : DropIx) (o : TxnOutcome) (g a x : Bool) :
    (s.attemptReport d o g a x).line k = s.line k := by
  unfold State.attemptReport; dsimp only; split_ifs <;> (try split) <;> simp

@[simp] theorem reportAttempt_line (x : Txn) (o : TxnOutcome) (a : Bool) : (s.reportAttempt x o a).line k = s.line k := by
  unfold State.reportAttempt State.reportToSlot State.slotAttempt State.reportToDrop
  split <;> split <;> simp

@[simp] theorem observation_line (d : DropIx) (b : Bool) : (s.observation d l b).line k = s.line k := by
  simp [State.observation]

end

/-! ### Operations that move one field of a line engine -/

section

variable (s : State) (l k : Line)

/-- A claim moves nothing of an engine but the count of lost replies. -/
theorem claimAssembly_line (n : Nat) (m : StoreMode) : ∃ c, (s.claimAssembly l n m).1.line k =
    if k = l then { s.line l with counters := c } else s.line k := by
  unfold State.claimAssembly
  dsimp only
  split
  · refine ⟨(s.line l).counters, ?_⟩
    rw [State.modBuffer_line]
    have h := freeAssembling_line s l k
    split
    · next same => subst same; exact h
    · exact h
  · exact ⟨_, by simp [State.countReplyLost]; rfl⟩

/-- The hand-over moves nothing of an engine but the stop bit noted. -/
theorem handOver_line (o : Origin) (g : Option Tag) (d : DropIx) (a x : Bool) : ∃ c, (s.handOver l o g d a x).line k =
    if k = l then { s.line l with stamping := c } else s.line k := by
  unfold State.handOver
  split
  · refine ⟨(s.line l).stamping, ?_⟩
    split
    · next same => subst same; rfl
    · rfl
  · exact ⟨_, by simp; rfl⟩

theorem modQueue_eq (e : LineEngine) (p : Priority) (f : List Tag → List Tag) :
    e.modQueue p f = { e with urgent := (e.modQueue p f).urgent, normal := (e.modQueue p f).normal } := by cases p <;> rfl

/-- A change of a queue of line `q` moves nothing of an engine but its queues. -/
theorem modQueue_line (q : Line) (p : Priority) (f : List Tag → List Tag) : ∃ u n, (s.modLine q fun e => e.modQueue p f).line k =
    { s.line k with urgent := u, normal := n } := by
  rw [State.modLine_line]
  split
  · next same => subst same; exact ⟨_, _, modQueue_eq ..⟩
  · exact ⟨_, _, rfl⟩

/-- Entering GUARD moves nothing of an engine but its controller, which has the transaction in hand (R43). -/
theorem enterGuard_line (x : Txn) : ∃ c : Controller, c.state = .guard ∧ c.txn = some x ∧
    (s.enterGuard l x).line k = if k = l then { s.line l with ctl := c } else s.line k := by
  unfold State.enterGuard
  rw [State.modLine_line]
  exact ⟨_, rfl, rfl, rfl⟩

/-- A request starts: it leaves its queue, its slot becomes ACTIVE, and the controller enters GUARD with it (R97, R43). -/
theorem startRequest_eq (t : Tag) : ∃ retry x, x.source = .request t ∧ s.startRequest l t =
    ((s.unqueue t).modSlot t fun y => { y with state := .active, retry }).enterGuard l x :=
  ⟨_, _, rfl, rfl⟩

/-- The start of a request moves nothing of an engine but its queues, and of its own line the controller. -/
theorem startRequest_line (t : Tag) : ∃ u n c, (s.startRequest l t).line k =
    { s.line k with urgent := u, normal := n, ctl := if k = l then c else (s.line k).ctl } := by
  obtain ⟨u, n, queues⟩ := modQueue_line s k (s.slot t).line (s.slot t).priority (·.filter (· ≠ t))
  obtain ⟨retry, x, -, start⟩ := startRequest_eq s l t
  obtain ⟨c, -, -, guard⟩ := enterGuard_line ((s.unqueue t).modSlot t fun y => { y with state := .active, retry }) l k x
  rw [start, guard, State.modSlot_line, State.modSlot_line]
  refine ⟨u, n, c, ?_⟩
  change (if k = l then { (s.unqueue t).line l with ctl := c } else (s.unqueue t).line k) = _
  split
  · next same => subst same; unfold State.unqueue; rw [queues]
  · unfold State.unqueue; rw [queues]

/-- A request put back moves nothing of an engine but its queues. -/
theorem putBack_line (t : Tag) (n : Nat) : ∃ u v, (s.putBack t n).line k = { s.line k with urgent := u, normal := v } := by
  unfold State.putBack
  dsimp only
  rw [← State.modSlot_line s t _ k]
  exact modQueue_line ..

end

/-! ### The role a line is judged in -/

/-- The state with the role of a line put at `r`. -/
def asRole (r : Role) (l : Line) (s : State) : State :=
  s.modLine l fun e => { e with role := r }

section

variable (r : Role) (l : Line) (s : State)

theorem asRole_line (k : Line) : (asRole r l s).line k = if k = l then { s.line l with role := r } else s.line k := by
  simp [asRole]

theorem asRole_self {r : Role} {l : Line} {s : State} (h : (s.line l).role = r) : asRole r l s = s := by
  subst h; cases l <;> rfl

theorem asRole_asRole (q : Role) : asRole r l (asRole q l s) = asRole r l s := by cases l <;> rfl

theorem modCtl_asRole (f : Controller → Controller) : (asRole r l s).modCtl l f = asRole r l (s.modCtl l f) := by
  cases l <;> rfl

theorem slot_asRole (t : Tag) : (asRole r l s).slot t = s.slot t := by cases l <;> rfl

theorem modSlot_asRole (t : Tag) (f : Slot → Slot) : (asRole r l s).modSlot t f = asRole r l (s.modSlot t f) := by
  cases l <;> rfl

theorem modQueue_asRole (q : Line) (p : Priority) (f : List Tag → List Tag) :
    ((asRole r l s).modLine q fun e => e.modQueue p f) = asRole r l (s.modLine q fun e => e.modQueue p f) := by
  cases l <;> cases q <;> cases p <;> rfl

theorem freeHeld_asRole (t : Tag) : (asRole r l s).freeHeld t = asRole r l (s.freeHeld t) := by
  have same : (asRole r l s).heldBy t = s.heldBy t := by cases l <;> rfl
  unfold State.freeHeld
  rw [same]
  split <;> cases l <;> rfl

theorem complete_asRole (t : Tag) (o : TxnOutcome) (n : Nat) (b : Bool) :
    (asRole r l s).complete t o n b = asRole r l (s.complete t o n b) := by
  unfold State.complete
  dsimp only
  rw [modSlot_asRole, freeHeld_asRole]
  cases l <;> rfl

theorem putBack_asRole (t : Tag) (n : Nat) : (asRole r l s).putBack t n = asRole r l (s.putBack t n) := by
  unfold State.putBack
  dsimp only
  rw [modSlot_asRole, slot_asRole, modQueue_asRole]

theorem countEntry_asRole (x : Txn) (o : TxnOutcome) : (asRole r l s).countEntry l x o = asRole r l (s.countEntry l x o) := by
  unfold State.countEntry
  split_ifs <;> cases l <;> rfl

theorem reportEnd_asRole (x : Txn) (o : TxnOutcome) : (asRole r l s).reportEnd x o = asRole r l (s.reportEnd x o) := by
  unfold State.reportEnd State.endReport State.postIfChanged
  split
  · next d _ =>
    have drop : ((asRole r l s).modDrop d (·.endReport o (0 < x.attempts))).drop d =
        (s.modDrop d (·.endReport o (0 < x.attempts))).drop d := by cases l <;> rfl
    have before : (asRole r l s).drop d = s.drop d := by cases l <;> rfl
    rw [drop, before]
    split <;> cases l <;> rfl
  · rfl

theorem completeTxn_asRole (x : Txn) (o : TxnOutcome) : (asRole r l s).completeTxn x o = asRole r l (s.completeTxn x o) := by
  unfold State.completeTxn
  split
  · exact complete_asRole ..
  all_goals rfl

/-- The end of the transaction in hand: put back where it carries a request, or over with an outcome (R59). -/
theorem finishTxn_cases : ((s.line l).ctl.txn = none ∧ s.finishTxn l = s.modCtl l Controller.toIdle) ∨
    ∃ x, (s.line l).ctl.txn = some x ∧
      ((∃ t, x.source = .request t ∧ s.finishTxn l = (s.modCtl l Controller.toIdle).putBack t x.lastLength) ∨
        ∃ o, s.finishTxn l = (((s.countEntry l x o).reportEnd x o).completeTxn x o).modCtl l Controller.toIdle) := by
  unfold State.finishTxn
  split
  · next none => exact .inl ⟨none, rfl⟩
  · next x some =>
    refine .inr ⟨x, some, ?_⟩
    split
    · next t back =>
      refine .inl ⟨t, ?_, rfl⟩
      unfold State.ending at back
      dsimp only at back
      split_ifs at back
      split at back <;> cases back
      assumption
    · next o _ => exact .inr ⟨o, rfl⟩

/-- An entry's count moves nothing of an engine but counts of its cycle and line counters (R82). -/
theorem countEntry_eq (x : Txn) (o : TxnOutcome) : ∃ p q n, s.countEntry l x o = s.modLine l fun e =>
    { e with cycle := { e.cycle with performed := p, skipped := q }, counters := n } := by
  have same : s = s.modLine l fun e => { e with
      cycle := { e.cycle with performed := (s.line l).cycle.performed, skipped := (s.line l).cycle.skipped }
      counters := (s.line l).counters } := by cases l <;> rfl
  unfold State.countEntry
  split_ifs
  · exact ⟨(s.line l).cycle.performed + 1, (s.line l).cycle.skipped, (s.line l).counters, rfl⟩
  · exact ⟨(s.line l).cycle.performed, (s.line l).cycle.skipped + 1, _, rfl⟩
  all_goals exact ⟨_, _, _, same⟩

/-- The end of the transaction in hand with the ending judged as under the role `r`. -/
def finishAs (r : Role) : State :=
  asRole (s.line l).role l ((asRole r l s).finishTxn l)

theorem finishTxn_role : ((s.finishTxn l).line l).role = (s.line l).role := by
  obtain ⟨-, same⟩ | ⟨x, -, ⟨t, -, same⟩ | ⟨o, same⟩⟩ := finishTxn_cases l s
  · simp [same]
  · obtain ⟨u, v, queues⟩ := putBack_line (s.modCtl l Controller.toIdle) l t x.lastLength
    rw [same, queues]
    simp
  · obtain ⟨p, q, n, counted⟩ := countEntry_eq l s x o
    simp [same, counted]

theorem finishTxn_asRole : (asRole r l s).finishTxn l = asRole r l (finishAs l s r) := by
  have kept : (((asRole r l s).finishTxn l).line l).role = r := by rw [finishTxn_role, asRole_line, if_pos rfl]
  unfold finishAs
  rw [asRole_asRole, asRole_self kept]

theorem asRole_undone : asRole (s.line l).role l (asRole r l s) = s := by
  rw [asRole_asRole, asRole_self rfl]

/-- Whatever the role it is judged as under, the transaction is put back or over with an outcome. -/
theorem finishAs_cases : ((s.line l).ctl.txn = none ∧ finishAs l s r = s.modCtl l Controller.toIdle) ∨
    ∃ x, (s.line l).ctl.txn = some x ∧
      ((∃ t, x.source = .request t ∧ finishAs l s r = (s.modCtl l Controller.toIdle).putBack t x.lastLength) ∨
        ∃ o, finishAs l s r = (((s.countEntry l x o).reportEnd x o).completeTxn x o).modCtl l Controller.toIdle) := by
  have ctl : ((asRole r l s).line l).ctl = (s.line l).ctl := by simp [asRole_line]
  have back {t : State} (same : (t.line l).role = (s.line l).role) : asRole (s.line l).role l (asRole r l t) = t := by
    rw [← same, asRole_undone]
  unfold finishAs
  obtain ⟨none, same⟩ | ⟨x, some, ⟨t, source, same⟩ | ⟨o, same⟩⟩ := finishTxn_cases l (asRole r l s)
  · refine .inl ⟨ctl ▸ none, ?_⟩
    rw [same, modCtl_asRole, back (by simp)]
  · refine .inr ⟨x, ctl ▸ some, .inl ⟨t, source, ?_⟩⟩
    rw [same, modCtl_asRole, putBack_asRole, back]
    obtain ⟨u, v, queues⟩ := putBack_line (s.modCtl l Controller.toIdle) l t x.lastLength
    rw [queues]
    simp
  · refine .inr ⟨x, ctl ▸ some, .inr ⟨o, ?_⟩⟩
    rw [same, countEntry_asRole, reportEnd_asRole, completeTxn_asRole, modCtl_asRole, back]
    obtain ⟨p, q, n, counted⟩ := countEntry_eq l s x o
    simp [counted]

theorem finishAs_state : ((finishAs l s r).line l).ctl.state = .idle := by
  obtain ⟨-, same⟩ | ⟨x, -, ⟨t, -, same⟩ | ⟨o, same⟩⟩ := finishAs_cases r l s
  · simp [same, Controller.toIdle]
  · obtain ⟨u, v, queues⟩ := putBack_line (s.modCtl l Controller.toIdle) l t x.lastLength
    rw [same, queues]
    simp [Controller.toIdle]
  · simp [same, Controller.toIdle]

theorem finishAs_self : finishAs l s (s.line l).role = s.finishTxn l := by
  unfold finishAs
  rw [asRole_self (s := s) rfl, asRole_self (finishTxn_role l s)]

theorem finishTxn_state : ((s.finishTxn l).line l).ctl.state = .idle := by
  rw [← finishAs_self]
  exact finishAs_state ..

/-- With no attempt in flight what is in hand comes to its end, and the controller is IDLE (R60, R83). -/
theorem earlyEnd_state (quiet : (s.line l).ctl.state.inFlight = false) : ((s.earlyEnd l).line l).ctl.state = .idle := by
  unfold State.earlyEnd
  split
  case h_4 idle => exact idle
  case h_5 h | h_6 h | h_7 h | h_8 h => rw [h] at quiet; cases quiet
  all_goals exact finishTxn_state ..

end

/-! ### Elementary moves of a line -/

/-- What can happen to the event unit while the engines work: posts and occurrences (R155, R164). -/
inductive Told : EventUnit → EventUnit → Prop where
  | posted (u : EventUnit) (r : EventRecord) : Told u (u.post r)
  | raised (u : EventUnit) (b : SummaryBit) : Told u (u.raise b)

/-- A drop record is enabled only if it was, with the address and line it had. -/
def Mild (x y : Drop) : Prop :=
  y.enabled = true → x.enabled = true ∧ y.address = x.address ∧ y.line = x.line

/-- A line engine moves without touching its queues or turning its line OFF; a request stays in hand or leaves it, and the
engine's agreement with its role is kept. -/
structure Steady (e e' : LineEngine) : Prop where
  urgent : e'.urgent = e.urgent
  normal : e'.normal = e.normal
  request : e'.ctl.txn.bind Txn.request = e.ctl.txn.bind Txn.request ∨ e'.ctl.txn.bind Txn.request = none
  off : e'.role = .off → e.role = .off
  sound : e.RoleSound → e'.RoleSound

/-- A transaction may be in hand: the line is mastering, or its controller is not IDLE. -/
def Running (e : LineEngine) : Prop :=
  e.role.mastering = true ∨ e.ctl.state ≠ .idle

/-- One elementary move of the engine of line `l`. -/
inductive Move (l : Line) : State → State → Prop where
  | engine {s : State} {e : LineEngine} (h : Steady (s.line l) e) : Move l s (s.setLine l e)
  | told {s : State} {u : EventUnit} (h : Told s.events u) : Move l s { s with events := u }
  | drops {s : State} {ds : Vector Drop 32} (h : ∀ d, Mild (s.drop d) ({ s with drops := ds }.drop d)) :
      Move l s { s with drops := ds }
  | freed (s : State) : Move l s (s.freeAssembling l)
  | claimed {s : State} (n : Nat) (m : StoreMode) (h : (s.line l).role ≠ .off) : Move l s (s.claimAssembly l n m).1
  | written (s : State) (b : BufIx) (payload : Vector Byte 32) (stamp : Stamp) :
      Move l s (s.setBuffer b { s.buffer b with payload, stamp })
  | handed (s : State) (o : Origin) (g : Option Tag) (d : DropIx) (a x : Bool) : Move l s (s.handOver l o g d a x)
  | started {s : State} {t : Tag} (running : (s.line l).role = .master)
      (queued : t ∈ (s.line l).urgent ∨ t ∈ (s.line l).normal) : Move l s (s.startRequest l t)
  | closed {s : State} {t : Tag} (o : TxnOutcome) (n : Nat) (b : Bool) (inHand : s.txnTag l = some t) :
      Move l s ((s.complete t o n b).modCtl l Controller.toIdle)
  | putBack {s : State} {t : Tag} (n : Nat) (inHand : s.txnTag l = some t) :
      Move l s ((s.modCtl l Controller.toIdle).putBack t n)
  | noted (s : State) (t : Tag) (attempts : Nat) (o : TxnOutcome) (abort : Bool) :
      Move l s (s.setSlot t { s.slot t with attempts, outcome := o, abortPending := abort })

/-- A chain of moves of line `l`. -/
def Moves (l : Line) (s t : State) : Prop :=
  Relation.ReflTransGen (Move l) s t

/-! ### Agreement with the role -/

theorem running_mastering {e : LineEngine} (h : e.RoleSound) (running : Running e) : e.role.mastering = true := by
  by_contra not
  have idle := h.2.1 (by simpa using not)
  exact running.elim not fun busy => busy idle

theorem role_ne_off_of_mastering {r : Role} (h : r.mastering = true) : r ≠ .off := by
  rintro rfl; cases h

theorem running_of_master {e : LineEngine} (h : e.role = .master) : Running e := .inl (h ▸ rfl)

/-- A line that is not OFF has nothing to rest. -/
theorem sound_of_on {e e' : LineEngine} (on : e.role ≠ .off) (role : e'.role = e.role) (silence : e'.silence = e.silence)
    (state : e'.ctl.state = e.ctl.state) (h : e.RoleSound) : e'.RoleSound :=
  ⟨fun k => silence ▸ h.1 (role ▸ k), fun k => state ▸ h.2.1 (role ▸ k), fun k => absurd (role ▸ k) on⟩

/-- The controller of a line that may have a transaction in hand takes any state. -/
theorem sound_of_running {e e' : LineEngine} (running : Running e) (role : e'.role = e.role) (silence : e'.silence = e.silence)
    (h : e.RoleSound) : e'.RoleSound := by
  have mastering := running_mastering h running
  refine ⟨fun k => silence ▸ h.1 (role ▸ k), fun k => ?_, fun k => absurd (role ▸ k) (role_ne_off_of_mastering mastering)⟩
  rw [role, mastering] at k
  cases k

theorem sound_stopped {e : LineEngine} (h : e.RoleSound) : e.stopped.RoleSound :=
  ⟨fun _ => ⟨rfl, rfl⟩, h.2.1, fun _ => ⟨rfl, rfl, rfl, rfl, rfl, rfl⟩⟩

theorem txnTag_eq (s : State) (l : Line) : s.txnTag l = (s.line l).ctl.txn.bind Txn.request := by
  unfold State.txnTag Txn.request
  cases (s.line l).ctl.txn with
  | none => rfl
  | some x => cases h : x.source <;> simp [h]

/-! ### Records that reports leave as enabled as they were -/

theorem Mild.refl (x : Drop) : Mild x x := fun h => ⟨h, rfl, rfl⟩

theorem Mild.trans {x y z : Drop} (h : Mild x y) (k : Mild y z) : Mild x z := fun e =>
  have ⟨ey, address, line⟩ := k e
  have ⟨ex, address', line'⟩ := h ey
  ⟨ex, address.trans address', line.trans line'⟩

theorem mild_of_config {x y : Drop} (config : y.config = x.config) (enabled : y.enabled = true → x.enabled = true) :
    Mild x y := fun h =>
  ⟨enabled h, congrArg (·.1) config, congrArg (·.2.1) config⟩

theorem mild_endReport (x : Drop) (o : TxnOutcome) (began : Bool) : Mild x (x.endReport o began) := by
  refine mild_of_config (x.endReport_config o began) fun h => ?_
  by_contra off
  simp [Drop.endReport, Drop.classify, Drop.enabled] at h off
  simp [off] at h

theorem mild_observe (x : Drop) (l : Line) (toggle : Bool) : Mild x (x.observe l toggle) := by
  refine mild_of_config (x.observe_config l toggle) fun h => ?_
  by_contra off
  simp [Drop.observe, Drop.enabled] at h off
  simp [off] at h

/-! ### The walk -/

namespace Moves

variable {l : Line} {s t : State}

theorem refl (s : State) : Moves l s s := Relation.ReflTransGen.refl

theorem trans {s t u : State} (h : Moves l s t) (k : Moves l t u) : Moves l s u := Relation.ReflTransGen.trans h k

theorem move {u : State} (h : Moves l s t) (k : Move l t u) : Moves l s u := Relation.ReflTransGen.tail h k

theorem either {p : Prop} [Decidable p] {u v : State} (h : Moves l s u) (k : Moves l s v) : Moves l s (if p then u else v) := by
  split
  · exact h
  · exact k

theorem modLine (h : Moves l s t) (f : LineEngine → LineEngine) (hf : Steady (t.line l) (f (t.line l))) :
    Moves l s (t.modLine l f) := h.move (.engine hf)

theorem move_role_ne_off (h : Move l s t) (on : (s.line l).role ≠ .off) : (t.line l).role ≠ .off := by
  cases h with
  | engine k => exact fun off => on (k.off (by simpa using off))
  | told | drops => exact on
  | freed | noted | written => simpa using on
  | claimed n m =>
    obtain ⟨c, k⟩ := claimAssembly_line s l l n m
    simpa [k] using on
  | handed o g d a x =>
    obtain ⟨c, k⟩ := handOver_line s l l o g d a x
    simpa [k] using on
  | @started i _ _ =>
    obtain ⟨u, n, c, k⟩ := startRequest_line s l l i
    simpa [k] using on
  | closed => simpa using on
  | putBack =>
    obtain ⟨u, n, k⟩ := putBack_line (s.modCtl l Controller.toIdle) l _ _
    rw [k]
    simpa using on

/-- Moves of a line never turn it OFF. -/
theorem role_ne_off (h : Moves l s t) (on : (s.line l).role ≠ .off) : (t.line l).role ≠ .off := by
  induction h with
  | refl => exact on
  | tail _ last ih => exact move_role_ne_off last ih

/-! #### Events, drop records, buffers -/

theorem told (h : Moves l s t) {u : EventUnit} (k : Told t.events u) : Moves l s { t with events := u } := h.move (.told k)

theorem raise (h : Moves l s t) (b : SummaryBit) : Moves l s (t.raise b) := h.told (.raised _ b)

theorem post (h : Moves l s t) (k : EventKind) (o : Option Line) (d : Option DropIx) (g : Option Tag) (c e : Byte) :
    Moves l s (t.post k o d g c e) := h.told (.posted _ _)

theorem postRole (h : Moves l s t) (k : Line) (c : RoleCause) : Moves l s (t.postRole k c) := h.post ..

theorem modDrop (h : Moves l s t) (d : DropIx) (f : Drop → Drop) (hf : ∀ x, Mild x (f x)) : Moves l s (t.modDrop d f) := by
  refine h.move (.drops fun e => ?_)
  change Mild (t.drop e) ((t.modDrop d f).drop e)
  rw [State.modDrop_drop]
  split
  case isTrue same => exact same ▸ hf _
  case isFalse => exact .refl _

theorem modDrops (h : Moves l s t) (f : Drop → Drop) (hf : ∀ x, Mild x (f x)) : Moves l s (t.modDrops f) := by
  refine h.move (.drops fun e => ?_)
  change Mild (t.drop e) ((t.modDrops f).drop e)
  rw [State.modDrops_drop]
  exact hf _

/-- A report that moves neither configuration nor state of a record. -/
theorem note (h : Moves l s t) (d : DropIx) (f : Drop → Drop) (config : ∀ x, (f x).config = x.config)
    (state : ∀ x, (f x).state = x.state) : Moves l s (t.modDrop d f) :=
  h.modDrop d f fun x => mild_of_config (config x) (by simp [Drop.enabled, state])

theorem postIfChanged (h : Moves l s t) (d : DropIx) (old : DropState) : Moves l s (t.postIfChanged d old) := by
  unfold State.postIfChanged
  split
  · exact h
  · exact h.post ..

theorem endReport (h : Moves l s t) (d : DropIx) (o : TxnOutcome) (b : Bool) : Moves l s (t.endReport d o b) :=
  (h.modDrop d _ fun x => mild_endReport x o b).postIfChanged ..

theorem observation (h : Moves l s t) (d : DropIx) (k : Line) (b : Bool) : Moves l s (t.observation d k b) :=
  (h.modDrop d _ fun x => mild_observe x k b).postIfChanged ..

theorem staleReport (h : Moves l s t) (d : DropIx) : Moves l s (t.staleReport d) :=
  h.note d _ (fun _ => rfl) fun _ => rfl

theorem attemptReport (h : Moves l s t) (d : DropIx) (o : TxnOutcome) (g a x : Bool) :
    Moves l s (t.attemptReport d o g a x) := by
  have counted := h.note d (fun x => { x with stats := x.stats.attempt o }) (fun _ => rfl) fun _ => rfl
  unfold State.attemptReport
  dsimp only
  split
  case isFalse => exact counted
  case isTrue =>
    split
    · exact counted
    · exact counted.post ..
    · split
      · exact counted
      · exact counted.note d _ (fun _ => rfl) fun _ => rfl

theorem freeAssembling (h : Moves l s t) : Moves l s (t.freeAssembling l) := h.move (.freed t)

theorem claimAssembly (h : Moves l s t) (n : Nat) (m : StoreMode) (on : (t.line l).role ≠ .off) :
    Moves l s (t.claimAssembly l n m).1 := h.move (.claimed n m on)

theorem writePayload (h : Moves l s t) (k : Nat) (b : Byte) : Moves l s (t.writePayload l k b) := by
  unfold State.writePayload
  split
  · exact h.move (.written t _ _ _)
  · exact h

theorem handOver (h : Moves l s t) (o : Origin) (g : Option Tag) (d : DropIx) (a x : Bool) :
    Moves l s (t.handOver l o g d a x) := h.move (.handed t o g d a x)

/-! #### Cycles and the start of work -/

theorem postCycleDone (h : Moves l s t) (b : Bool) : Moves l s (t.postCycleDone l b) := by
  unfold State.postCycleDone
  dsimp only
  split
  · exact h.post ..
  · exact h

theorem endCycle (h : Moves l s t) : Moves l s (t.endCycle l) :=
  (h.modLine _ ⟨rfl, rfl, .inl rfl, id, id⟩).postCycleDone _

theorem abandonCycle (h : Moves l s t) : Moves l s (t.abandonCycle l) := by
  unfold State.abandonCycle
  split
  · exact (h.modLine _ ⟨rfl, rfl, .inl rfl, id, id⟩).postCycleDone _
  · exact h

theorem swapBanks (h : Moves l s t) : Moves l s (t.swapBanks l) :=
  (h.modLine _ ⟨rfl, rfl, .inl rfl, id, id⟩).post ..

theorem startCycle (h : Moves l s t) : Moves l s (t.startCycle l) := by
  have cleared := h.modLine (fun e => { e with cycle := { e.cycle with owed := false } }) ⟨rfl, rfl, .inl rfl, id, id⟩
  unfold State.startCycle
  dsimp only
  split
  · exact cleared.swapBanks.modLine _ ⟨rfl, rfl, .inl rfl, id, id⟩
  · exact cleared.modLine _ ⟨rfl, rfl, .inl rfl, id, id⟩

theorem countPerformed (h : Moves l s t) : Moves l s (t.countPerformed l) := by
  unfold State.countPerformed
  exact h.modLine _ ⟨rfl, rfl, .inl rfl, id, id⟩

theorem countSkippedInvalid (h : Moves l s t) : Moves l s (t.countSkippedInvalid l) := by
  unfold State.countSkippedInvalid
  exact h.modLine _ ⟨rfl, rfl, .inl rfl, id, id⟩

theorem countSkippedOffline (h : Moves l s t) : Moves l s (t.countSkippedOffline l) := by
  unfold State.countSkippedOffline
  exact h.modLine _ ⟨rfl, rfl, .inl rfl, id, id⟩

/-- The controller enters GUARD with the transaction that it has in hand, or with one that carries no request. -/
theorem enterGuard (h : Moves l s t) (x : Txn) (running : Running (t.line l))
    (request : x.request = none ∨ (t.line l).ctl.txn.bind Txn.request = x.request) : Moves l s (t.enterGuard l x) := by
  unfold State.enterGuard
  exact h.modLine _ ⟨rfl, rfl, request.symm.imp Eq.symm id, id, sound_of_running running rfl rfl⟩

theorem startPoll (h : Moves l s t) (x : TxnSource) (d : DropIx) (running : Running (t.line l))
    (request : x = .schedule ∨ x = .extraPoll) : Moves l s (t.startPoll l x d) :=
  h.enterGuard _ running (.inl (by obtain rfl | rfl := request <;> rfl))

theorem startSync (h : Moves l s t) (running : Running (t.line l)) : Moves l s (t.startSync l) :=
  h.enterGuard _ running (.inl rfl)

theorem startPause (h : Moves l s t) (n : Nat) (running : Running (t.line l)) : Moves l s (t.startPause l n) := by
  have still : Running ((t.countPerformed l).line l) := by simpa [State.countPerformed, Running] using running
  unfold State.startPause
  exact h.countPerformed.modLine _ ⟨rfl, rfl, .inr rfl, id, sound_of_running still rfl rfl⟩

theorem startRequest (h : Moves l s t) (i : Tag) (master : (t.line l).role = .master)
    (queued : i ∈ (t.line l).urgent ∨ i ∈ (t.line l).normal) : Moves l s (t.startRequest l i) := h.move (.started master queued)

theorem walkBank (n : Nat) (h : Moves l s t) (master : (t.line l).role = .master) : Moves l s (Machine.walkBank n l t) := by
  induction n generalizing t with
  | zero => exact h.endCycle
  | succ n ih =>
    have walked := h.modLine (fun e => { e with cycle := { e.cycle with walk := e.cycle.walk + 1 } }) ⟨rfl, rfl, .inl rfl, id, id⟩
    have still : ((t.modLine l fun e => { e with cycle := { e.cycle with walk := e.cycle.walk + 1 } }).line l).role = .master := by
      simpa using master
    unfold Machine.walkBank
    dsimp only
    split
    · exact h.endCycle
    · split
      · exact walked.startSync (running_of_master still)
      · exact walked.startPause _ (running_of_master still)
      · split
        · exact ih walked.countSkippedInvalid (by simpa [State.countSkippedInvalid] using master)
        · split
          · exact ih walked.countSkippedOffline (by simpa [State.countSkippedOffline] using master)
          · exact walked.startPoll _ _ (running_of_master still) (.inl rfl)

theorem scheduleStep (h : Moves l s t) (master : (t.line l).role = .master) : Moves l s (t.scheduleStep l) := by
  unfold State.scheduleStep
  split
  · exact h.walkBank _ master
  · exact h

theorem startCycle_role (t : State) (l : Line) : ((t.startCycle l).line l).role = (t.line l).role := by
  unfold State.startCycle State.swapBanks
  dsimp only
  split <;> simp

theorem cycleStep (h : Moves l s t) (master : (t.line l).role = .master) : Moves l s (t.cycleStep l) := by
  unfold State.cycleStep
  split
  · exact h.startCycle.scheduleStep ((startCycle_role t l).trans master)
  · exact h

theorem normalStep (h : Moves l s t) (master : (t.line l).role = .master) : Moves l s (t.normalStep l) := by
  unfold State.normalStep
  split
  · exact h
  · next i rest normal =>
    refine (h.modLine _ ⟨rfl, rfl, .inl rfl, id, id⟩).startRequest i (by simpa using master) (.inr ?_)
    simp [normal]

theorem role_of_atBoundary {e : LineEngine} (h : e.atBoundary = true) : e.role = .master := by
  simp only [LineEngine.atBoundary, Bool.and_eq_true, decide_eq_true_eq] at h
  exact h.1

/-- The work selection (R84, R85): every start is at a boundary of a MASTER line. -/
theorem select (h : Moves l s t) : Moves l s (t.select l) := by
  unfold State.select
  split
  · exact h
  · next boundary =>
    have master := role_of_atBoundary (by simpa using boundary)
    split
    · next i rest urgent => exact h.startRequest i master (.inl (by simp [urgent]))
    · split
      · next d _ =>
        have cleared := h.note d (fun x => { x with attention := false }) (fun _ => rfl) fun _ => rfl
        exact cleared.startPoll _ _ (running_of_master (by simpa using master)) (.inr rfl)
      · have scheduled := h.scheduleStep master
        have cycled : Moves l s (if ((t.scheduleStep l).line l).atBoundary then (t.scheduleStep l).cycleStep l
            else t.scheduleStep l) := by
          split
          · next again => exact scheduled.cycleStep (role_of_atBoundary again)
          · exact scheduled
        dsimp only
        generalize (if ((t.scheduleStep l).line l).atBoundary then (t.scheduleStep l).cycleStep l
            else t.scheduleStep l) = u at cycled ⊢
        split
        · next again => exact cycled.normalStep (role_of_atBoundary again)
        · exact cycled

/-! #### The end of a transaction and of an attempt -/

theorem countEntry (h : Moves l s t) (x : Txn) (o : TxnOutcome) : Moves l s (t.countEntry l x o) := by
  obtain ⟨p, q, n, counted⟩ := countEntry_eq l t x o
  rw [counted]
  exact h.modLine _ ⟨rfl, rfl, .inl rfl, id, id⟩

theorem reportEnd (h : Moves l s t) (x : Txn) (o : TxnOutcome) : Moves l s (t.reportEnd x o) := by
  unfold State.reportEnd
  split
  · exact h.endReport ..
  · exact h

theorem toIdle (h : Moves l s t) : Moves l s (t.modCtl l Controller.toIdle) := by
  rw [State.modCtl_eq]
  exact h.modLine _ ⟨rfl, rfl, .inr rfl, id, fun k => ⟨k.1, fun _ => rfl, k.2.2⟩⟩

/-- The end of the transaction in hand, judged under whatever role (R59). -/
theorem finishAs (h : Moves l s t) (r : Role) : Moves l s (Work.finishAs l t r) := by
  obtain ⟨-, same⟩ | ⟨x, inHand, ⟨i, source, same⟩ | ⟨o, same⟩⟩ := finishAs_cases r l t
  · rw [same]
    exact h.toIdle
  · rw [same]
    exact h.move (.putBack _ (by rw [txnTag_eq, inHand]; simp [Txn.request, source]))
  · have reported := (h.countEntry x o).reportEnd x o
    have still : (((t.countEntry l x o).reportEnd x o).line l).ctl.txn = some x := by
      obtain ⟨p, q, n, counted⟩ := countEntry_eq l t x o
      simpa [counted] using inHand
    rw [same]
    unfold State.completeTxn
    split
    · next i source => exact reported.move (.closed o _ _ (by rw [txnTag_eq, still]; simp [Txn.request, source]))
    all_goals exact reported.toIdle

theorem finishTxn (h : Moves l s t) : Moves l s (t.finishTxn l) := by
  rw [← finishAs_self]
  exact h.finishAs _

theorem earlyEnd (h : Moves l s t) : Moves l s (t.earlyEnd l) := by
  unfold State.earlyEnd
  split
  iterate 3 exact h.finishTxn
  all_goals exact h

theorem declareError (h : Moves l s t) : Moves l s (t.declareError l) := by
  unfold State.declareError State.flushReader
  split
  · next opened => exact h.modLine _ ⟨rfl, rfl, .inl rfl, id, fun k => ⟨k.1, k.2.1, fun off => by
      rw [(k.2.2 off).2.1] at opened
      cases opened⟩⟩
  · exact h

theorem abandonFrame (h : Moves l s t) : Moves l s (t.abandonFrame l) := h.declareError.freeAssembling

theorem abandonFrame_role (t : State) (l : Line) : ((t.abandonFrame l).line l).role = (t.line l).role := by
  unfold State.abandonFrame State.declareError State.flushReader
  split <;> simp

/-- A line at rest becomes STANDBY. -/
theorem toStandby (h : Moves l s t) (idle : (t.line l).ctl.state = .idle) :
    Moves l s (t.modLine l fun e => { e with role := .standby }) :=
  h.modLine _ ⟨rfl, rfl, .inl rfl, (by rintro ⟨⟩), fun _ => ⟨(absurd rfl ·), fun _ => idle, (by rintro ⟨⟩)⟩⟩

theorem abandonCycle_role (t : State) (l : Line) : ((t.abandonCycle l).line l).role = (t.line l).role := by
  unfold State.abandonCycle
  split <;> simp

/-- What every entry to STANDBY does to a line whose role is STANDBY already (R74, R6, R132). -/
theorem settleStandby (h : Moves l s t) (standby : (t.line l).role = .standby) :
    Moves l s (((t.abandonCycle l).abandonFrame l).startStandby l) := by
  have still : (((t.abandonCycle l).abandonFrame l).line l).role = .standby := by
    rw [abandonFrame_role, abandonCycle_role, standby]
  unfold State.startStandby
  refine h.abandonCycle.abandonFrame.modLine _ ⟨rfl, rfl, .inl rfl, id, fun k => ⟨(absurd still ·), k.2.1, fun off => ?_⟩⟩
  rw [still] at off
  cases off

/-- The event unit once the role `r` and a summary cause are told (R126, R131). -/
def roleEvents (t : State) (l : Line) (r : Role) (c : RoleCause) (b : SummaryBit) : EventUnit :=
  (((t.modLine l fun e => { e with role := r }).postRole l c).raise b).events

theorem roleEvents_eq (t : State) (l : Line) (r : Role) (c : RoleCause) (b : SummaryBit) :
    ((t.modLine l fun e => { e with role := r }).postRole l c).raise b = asRole r l { t with events := roleEvents t l r c b } := by
  cases l <;> rfl

theorem roleEvents_told (h : Moves l s t) (k : Line) (r : Role) (c : RoleCause) (b : SummaryBit) :
    Moves l s { t with events := roleEvents t k r c b } := by
  cases k <;> exact (h.told (.posted _ _)).told (.raised _ b)

/-- Demotion (R131): the work in hand ends as under STANDBY, and the line is at rest when it takes that role. -/
theorem demote (h : Moves l s t) : Moves l s (t.demote l) := by
  have told := h.roleEvents_told l .standby .demotion (contentionBit l)
  unfold State.demote
  dsimp only
  rw [roleEvents_eq, finishTxn_asRole]
  exact ((told.finishAs .standby).toStandby (finishAs_state ..)).settleStandby (by simp)

theorem endYield (h : Moves l s t) (quiet : (t.line l).ctl.state.inFlight = false) : Moves l s (t.endYield l) := by
  unfold State.endYield
  exact ((h.earlyEnd.toStandby (earlyEnd_state l t quiet)).postRole ..).settleStandby (by simp)

theorem meetContention (h : Moves l s t) : Moves l s (t.meetContention l) := by
  have counted : Moves l s (t.countContention l) := by
    unfold State.countContention
    exact h.modLine _ ⟨rfl, rfl, .inl rfl, id, id⟩
  unfold State.meetContention
  dsimp only
  split
  · exact counted.demote
  · exact counted

theorem afterAttempt (h : Moves l s t) (o : TxnOutcome) : Moves l s (t.afterAttempt l o) := by
  unfold State.afterAttempt
  split
  · exact h
  · next x inHand =>
    split
    · next again =>
      have running : Running (t.line l) := by
        simp only [State.retryFollows, Bool.and_eq_true, decide_eq_true_eq] at again
        exact running_of_master again.1.2
      split
      · unfold State.enterBackoff
        exact h.modLine _ ⟨rfl, rfl, .inl rfl, id, sound_of_running running rfl rfl⟩
      · exact h.enterGuard x running (.inr (by rw [inHand]; rfl))
    · exact h.finishTxn.select

theorem slotAttempt (h : Moves l s t) (i : Tag) (n : Nat) (o : TxnOutcome) : Moves l s (t.slotAttempt i n o) :=
  h.move (.noted t i n o (t.slot i).abortPending)

theorem reportAttempt (h : Moves l s t) (x : Txn) (o : TxnOutcome) (a : Bool) : Moves l s (t.reportAttempt x o a) := by
  have reported : Moves l s (t.reportToDrop x o a) := by
    unfold State.reportToDrop
    split
    · exact h.attemptReport ..
    · exact h
  unfold State.reportAttempt State.reportToSlot
  split
  · exact reported.slotAttempt ..
  all_goals exact reported

/-- The end of an attempt (R57, R58). -/
theorem endAttempt (h : Moves l s t) (o : TxnOutcome) : Moves l s (t.endAttempt l o) := by
  unfold State.endAttempt
  split
  · exact h
  · next x inHand =>
    have held : Moves l s ((t.freeAssembling l).modLine l fun e => { e with ctl := { e.ctl with
        txn := some (x.withAttempt o (t.line l).ctl.reply), window := .none, deciding := false } }) :=
      h.freeAssembling.modLine _ ⟨rfl, rfl, .inl (by rw [freeAssembling_line, inHand]; rfl), id, id⟩
    have reported := held.reportAttempt (x.withAttempt o (t.line l).ctl.reply) o (t.line l).ctl.reply.attention
    dsimp only [State.modCtl_eq]
    revert reported
    generalize State.reportAttempt _ _ _ _ = u
    intro reported
    split
    · split
      · exact reported.meetContention.afterAttempt _
      · exact reported.meetContention
    · exact reported.afterAttempt _

/-! #### Roles -/

theorem startReceiver (h : Moves l s t) : Moves l s (t.startReceiver l) := by
  unfold State.startReceiver
  exact h.modLine _ ⟨rfl, rfl, .inl rfl, id, sound_stopped⟩

theorem leaveRole (h : Moves l s t) : Moves l s (t.leaveRole l) := by
  unfold State.leaveRole
  split
  · exact h.abandonFrame.modLine _ ⟨rfl, rfl, .inl rfl, id, id⟩
  · exact h.startReceiver
  all_goals exact h

theorem becomeMaster (h : Moves l s t) (c : RoleCause) : Moves l s (t.becomeMaster l c) := by
  unfold State.becomeMaster
  dsimp only
  refine Moves.select (.postRole (h.leaveRole.modLine _ ⟨rfl, rfl, .inl rfl, (by rintro ⟨⟩), fun k => ?_⟩) ..)
  exact ⟨fun _ => ⟨rfl, rfl⟩, (by rintro ⟨⟩), (by rintro ⟨⟩)⟩

theorem becomeStandby (h : Moves l s t) (off : (t.line l).role = .off) : Moves l s (t.becomeStandby l) := by
  unfold State.becomeStandby
  dsimp only
  refine Moves.postRole (h.startReceiver.modLine _ ⟨rfl, rfl, .inl rfl, (by rintro ⟨⟩), fun k => ?_⟩) ..
  refine ⟨(absurd rfl ·), fun _ => k.2.1 ?_, (by rintro ⟨⟩)⟩
  simp [State.startReceiver, LineEngine.stopped, off, Role.mastering]

/-- A MASTER line takes a role in transition. -/
theorem toTransition (h : Moves l s t) (r : Role) (master : (t.line l).role = .master) (transition : r = .yielding ∨ r = .stopping) :
    Moves l s (t.modLine l fun e => { e with role := r }) := by
  refine h.modLine _ ⟨rfl, rfl, .inl rfl, ?_, fun k => ⟨fun _ => k.1 (by simp [master]), ?_, ?_⟩⟩ <;>
    obtain rfl | rfl := transition <;> rintro ⟨⟩

theorem beginYield (h : Moves l s t) (master : (t.line l).role = .master) : Moves l s (t.beginYield l) := by
  have yielding := (h.toTransition .yielding master (.inl rfl)).postRole l .command
  unfold State.beginYield
  dsimp only
  split
  · exact yielding
  · next quiet => exact yielding.endYield (by simpa using quiet)

theorem takeSilence (h : Moves l s t) : Moves l s (t.takeSilence l) := by
  unfold State.takeSilence
  split
  · next judged =>
    have standby : (t.line l).role = .standby := by
      simp only [Bool.and_eq_true, decide_eq_true_eq] at judged
      exact judged.1
    have flagged : Moves l s (t.modLine l fun e => { e with silence := { e.silence with flag := true, due := false } }) :=
      h.modLine _ ⟨rfl, rfl, .inl rfl, id, fun k => ⟨(absurd standby ·), k.2⟩⟩
    have told := flagged.post .lineSilent (some l) none none 0 0
    dsimp only
    split
    · exact told.becomeMaster _
    · exact told
  · exact h

/-! #### The controller's reports -/

theorem countUnsolicited (h : Moves l s t) : Moves l s (t.countUnsolicited l) := by
  unfold State.countUnsolicited
  exact h.modLine _ ⟨rfl, rfl, .inl rfl, id, id⟩

theorem countStale (h : Moves l s t) : Moves l s (t.countStale l) := by
  unfold State.countStale
  exact h.modLine _ ⟨rfl, rfl, .inl rfl, id, id⟩

theorem countNoise (h : Moves l s t) : Moves l s (t.countNoise l) := by
  unfold State.countNoise
  exact h.modLine _ ⟨rfl, rfl, .inl rfl, id, id⟩

/-- The controller of a line that may have a transaction in hand moves, its transaction kept. -/
theorem modCtl (h : Moves l s t) (f : Controller → Controller) (running : Running (t.line l))
    (kept : (f (t.line l).ctl).txn = (t.line l).ctl.txn) : Moves l s (t.modCtl l f) := by
  rw [State.modCtl_eq]
  exact h.modLine _ ⟨rfl, rfl, .inl (congrArg (·.bind Txn.request) kept), id, sound_of_running running rfl rfl⟩

theorem discard (h : Moves l s t) (w : DiscardWhy) (running : Running (t.line l)) : Moves l s (t.discard l w) :=
  h.modCtl _ running rfl

theorem running_declareError {t : State} {l : Line} (running : Running (t.line l)) : Running ((t.declareError l).line l) := by
  unfold State.declareError State.flushReader
  split
  · simpa [Running] using running
  · exact running

theorem faultReply (h : Moves l s t) (o : TxnOutcome) (running : Running (t.line l)) : Moves l s (t.faultReply l o) :=
  h.declareError.discard _ (running_declareError running)

theorem quietReport (h : Moves l s t) (r : ReaderReport) : Moves l s (t.quietReport l r) := by
  unfold State.quietReport
  split
  · split
    · exact h.countUnsolicited
    · exact h.meetContention
  · split
    · exact h.countUnsolicited
    · exact h
  · exact h.countUnsolicited
  all_goals exact h

theorem awaitReport (h : Moves l s t) (r : ReaderReport) (running : Running (t.line l)) : Moves l s (t.awaitReport l r) := by
  unfold State.awaitReport
  split
  · split_ifs
    · exact h.endAttempt _
    · exact h.modCtl _ running rfl
    · exact h.countStale.discard _ (by simpa [State.countStale, Running] using running)
  · split
    · exact h.discard _ running
    · exact h.countUnsolicited.discard _ (by simpa [State.countUnsolicited, Running] using running)
  · exact h.countUnsolicited
  all_goals exact h

theorem receiveControl (h : Moves l s t) (b : Byte) (busy : (t.line l).ctl.state ≠ .idle) : Moves l s (t.receiveControl l b) := by
  have running : Running (t.line l) := .inr busy
  unfold State.receiveControl
  dsimp only
  split
  · have counted := h.countStale
    have still : Running ((t.countStale l).line l) := by simpa [State.countStale, Running] using running
    split
    · next d _ => exact (counted.staleReport d).discard _ (by simpa using still)
    · exact counted.discard _ still
  · have met := h.modCtl (fun c => { c with window := .met }) running rfl
    have still : Running ((t.modCtl l fun c => { c with window := .met }).line l) := by simpa [Running] using running
    split
    · split
      · exact met.modCtl _ still rfl
      · exact met.faultReply _ still
    · exact met.faultReply _ still

theorem running_of_ctl_role {e e' : LineEngine} (h : Running e) (state : e'.ctl.state = e.ctl.state) (role : e'.role = e.role) :
    Running e' := by
  unfold Running
  rw [state, role]
  exact h

theorem receiveLength (h : Moves l s t) (n : Nat) (busy : (t.line l).ctl.state ≠ .idle) (on : (t.line l).role ≠ .off) :
    Moves l s (t.receiveLength l n) := by
  have running : Running (t.line l) := .inr busy
  have sized := h.modCtl (fun c => { c with reply := { c.reply with length := n } }) running rfl
  have still : Running ((t.modCtl l fun c => { c with reply := { c.reply with length := n } }).line l) := by
    simpa [Running] using running
  have stillOn : ((t.modCtl l fun c => { c with reply := { c.reply with length := n } }).line l).role ≠ .off := by
    simpa using on
  unfold State.receiveLength
  dsimp only
  generalize (t.modCtl l fun c => { c with reply := { c.reply with length := n } }) = u at sized still stillOn
  split
  · exact sized
  · split
    · split
      · exact sized
      · next mode _ =>
        obtain ⟨c, engine⟩ := claimAssembly_line u l l n mode
        refine (sized.claimAssembly n mode stillOn).modCtl _ (running_of_ctl_role still ?_ ?_) rfl <;> simp [engine]
    · exact sized.faultReply _ still

theorem receiveComplete (h : Moves l s t) : Moves l s (t.receiveComplete l) := by
  unfold State.receiveComplete
  dsimp only
  split
  · exact h
  · split
    · exact h.endAttempt _
    · split
      · exact h.endAttempt _
      · exact (h.handOver ..).endAttempt _
      · exact (h.post ..).endAttempt _

theorem receiveReport (h : Moves l s t) (r : ReaderReport) (busy : (t.line l).ctl.state ≠ .idle)
    (on : (t.line l).role ≠ .off) : Moves l s (t.receiveReport l r) := by
  unfold State.receiveReport
  split
  · exact h.receiveControl _ busy
  · exact h.receiveLength _ busy on
  · split
    · exact h.writePayload ..
    · exact h
  · exact h.receiveComplete
  · exact h.endAttempt _
  · exact h.discard _ (.inr busy)
  all_goals exact h

theorem discardEnd (h : Moves l s t) (busy : (t.line l).ctl.state ≠ .idle) : Moves l s (t.discardEnd l) := by
  unfold State.discardEnd
  split
  · exact h.endAttempt _
  · split
    · exact h.endAttempt _
    · exact h.modCtl _ (.inr busy) rfl

theorem discardReport (h : Moves l s t) (r : ReaderReport) (busy : (t.line l).ctl.state ≠ .idle) :
    Moves l s (t.discardReport l r) := by
  unfold State.discardReport
  split
  iterate 3 exact h.discardEnd busy
  all_goals exact h

/-- A report to the controller of a line that is not OFF. -/
theorem controllerReport (h : Moves l s t) (r : ReaderReport) (on : (t.line l).role ≠ .off) :
    Moves l s (t.controllerReport l r) := by
  unfold State.controllerReport
  split
  iterate 4 exact h.quietReport r
  case h_5 state => exact h.awaitReport r (.inr (by rw [state]; decide))
  case h_6 state => exact h.receiveReport r (by rw [state]; decide) on
  case h_7 state => exact h.discardReport r (by rw [state]; decide)
  case h_8 state => exact h.modCtl _ (.inr (by rw [state]; decide)) rfl

/-! #### The observer's reports -/

theorem modObserver (h : Moves l s t) (f : Observer → Observer) : Moves l s (t.modObserver l f) := by
  rw [State.modObserver_eq]
  exact h.modLine _ ⟨rfl, rfl, .inl rfl, id, id⟩

theorem forgetCall (h : Moves l s t) : Moves l s (t.forgetCall l) := h.modObserver _

theorem emptyObserver (h : Moves l s t) : Moves l s (t.emptyObserver l) := h.freeAssembling.modObserver _

theorem observeStart (h : Moves l s t) (b : Byte) : Moves l s (t.observeStart l b) := by
  unfold State.observeStart
  dsimp only
  split_ifs <;> exact h.modObserver _

theorem observeControl (h : Moves l s t) (b : Byte) : Moves l s (t.observeControl l b) := by
  unfold State.observeControl
  dsimp only
  split
  · exact h.modObserver _
  · split
    · split <;> exact h.modObserver _
    · exact h.modObserver _
  all_goals exact h

theorem observeLength (h : Moves l s t) (n : Nat) (on : (t.line l).role ≠ .off) : Moves l s (t.observeLength l n) := by
  unfold State.observeLength
  split
  · exact h.modObserver _
  · next att _ _ =>
    have sized := h.modObserver fun o => { o with follow := .matched .reply att n }
    have stillOn : ((t.modObserver l fun o => { o with follow := .matched .reply att n }).line l).role ≠ .off := by simpa using on
    dsimp only
    split
    · exact sized
    · split
      · exact sized
      · exact (sized.claimAssembly n _ stillOn).modObserver _
  · split
    · exact h.modObserver _
    · exact h.declareError.modObserver _
  all_goals exact h

theorem observePayload (h : Moves l s t) (k : Nat) (b : Byte) : Moves l s (t.observePayload l k b) := by
  unfold State.observePayload
  dsimp only
  split
  · exact h.writePayload ..
  all_goals exact h

theorem observeCall (h : Moves l s t) (a : BitVec 7) (c : Byte) (n : Nat) : Moves l s (t.observeCall l a c n) := by
  unfold State.observeCall
  dsimp only
  split
  · exact h.modLine _ ⟨rfl, rfl, .inl rfl, id, id⟩
  · exact h.forgetCall

theorem observeSuccess (h : Moves l s t) (c : ObservedCall) (a : Bool) : Moves l s (t.observeSuccess l c a) := by
  unfold State.observeSuccess
  dsimp only
  split
  · exact (h.observation ..).forgetCall
  · exact ((h.handOver ..).observation ..).forgetCall
  · exact ((h.post ..).observation ..).forgetCall

theorem observeUnmatchedEnd (h : Moves l s t) : Moves l s (t.observeUnmatchedEnd l) := by
  unfold State.observeUnmatchedEnd
  split
  · exact h.forgetCall
  · exact h.modObserver _

theorem observeComplete (h : Moves l s t) : Moves l s (t.observeComplete l) := by
  unfold State.observeComplete
  dsimp only
  split
  · exact h.observeCall ..
  · split
    · exact h.observeSuccess ..
    · exact h.forgetCall
  iterate 2 exact h.observeUnmatchedEnd
  all_goals exact h.modObserver _

theorem observeFault (h : Moves l s t) : Moves l s (t.observeFault l) := by
  unfold State.observeFault
  split
  · exact h.forgetCall
  iterate 2 exact h.modObserver _
  all_goals exact h

theorem observeGap (h : Moves l s t) : Moves l s (t.observeGap l) := by
  unfold State.observeGap
  split
  · exact h.forgetCall
  iterate 2 exact h.observeUnmatchedEnd
  iterate 2 exact h.freeAssembling.forgetCall
  · exact h

theorem observeClosed (h : Moves l s t) : Moves l s (t.observeClosed l) := by
  unfold State.observeClosed
  split
  · exact h.observeUnmatchedEnd
  · exact h.freeAssembling.forgetCall
  all_goals exact h

theorem observerReport (h : Moves l s t) (r : ReaderReport) (on : (t.line l).role ≠ .off) : Moves l s (t.observerReport l r) := by
  unfold State.observerReport
  split
  · exact h.observeStart _
  iterate 2 exact h
  · exact h.observeControl _
  · exact h.observeLength _ on
  · exact h.observePayload ..
  · exact h.observeComplete
  · exact h.observeGap
  · exact h.observeFault
  · exact h.observeClosed

/-! #### The consumer, and the rows of a line -/

theorem deliver (h : Moves l s t) (r : ReaderReport) : Moves l s (t.deliver l r) := by
  have on {role : Role} (is : (t.line l).role = role) (not : role ≠ .off) : (t.line l).role ≠ .off := is ▸ not
  unfold State.deliver
  split
  case h_1 is | h_2 is | h_3 is => exact h.controllerReport r (on is (by decide))
  case h_4 is => exact h.observerReport r (on is (by decide))
  case h_5 => exact h

theorem foldReports (h : Moves l s t) (reports : List ReaderReport) (on : (t.line l).role ≠ .off) :
    Moves l s (reports.foldl (fun u r => u.controllerReport l r) t) := by
  induction reports generalizing t with
  | nil => exact h
  | cons r rest ih => exact ih (h.controllerReport r on) (role_ne_off (.controllerReport (.refl t) r on) on)

theorem passKept (h : Moves l s t) : Moves l s (t.passKept l) := by
  have emptied : Moves l s (t.modCtl l fun c => { c with kept := [] }) := by
    rw [State.modCtl_eq]
    exact h.modLine _ ⟨rfl, rfl, .inl rfl, id, id⟩
  unfold State.passKept
  dsimp only
  split
  · next mastering => exact emptied.foldReports _ (role_ne_off_of_mastering mastering)
  · exact emptied

theorem readChar (h : Moves l s t) (c : RxChar) (on : (t.line l).role ≠ .off) : Moves l s (t.readChar l c) := by
  have read (r : Reader) : Moves l s (t.modReader l fun _ => r) := by
    rw [State.modReader_eq]
    exact h.modLine _ ⟨rfl, rfl, .inl rfl, id, sound_of_on on rfl rfl rfl⟩
  unfold State.readChar
  dsimp only
  split
  · exact (read _).deliver _
  · exact read _

theorem settleWait (h : Moves l s t) : Moves l s (t.settleWait l) := by
  unfold State.settleWait
  dsimp only
  split_ifs
  · exact h.endAttempt _
  · exact (h.modObserver _).forgetCall
  · exact h.modObserver _
  · exact h

theorem modTx (h : Moves l s t) (f : Transmitter → Transmitter) (on : (t.line l).role ≠ .off) : Moves l s (t.modTx l f) := by
  rw [State.modTx_eq]
  exact h.modLine _ ⟨rfl, rfl, .inl rfl, id, sound_of_on on rfl rfl rfl⟩

theorem routeChar (h : Moves l s t) (c : RxChar) (on : (t.line l).role ≠ .off) : Moves l s (t.routeChar l c) := by
  unfold State.routeChar
  dsimp only
  split
  · exact h.modTx _ on
  · exact (h.modTx _ on).readChar c (by simpa using on)

theorem falseStart (h : Moves l s t) (x : EdgeSamples) : Moves l s (t.falseStart l x) := by
  unfold State.falseStart
  refine settleWait (h.countNoise.modLine _ ⟨rfl, rfl, .inl rfl, id, fun k => ?_⟩)
  exact ⟨k.1, k.2.1, fun off => let r := k.2.2 off; ⟨r.1, r.2.1, rfl, r.2.2.2⟩⟩

theorem receiveChar (h : Moves l s t) (c : RxChar) (on : (t.line l).role ≠ .off) : Moves l s (t.receiveChar l c) := by
  have noted : Moves l t (if c.noisy then t.countNoise l else t) := .either (countNoise (.refl t)) (.refl t)
  have ended := noted.modLine (fun e => { e with
      rx := { e.rx with state := if c.framing then .waitHigh else .huntEdge, sampleNo := 0, samples := [], idle := 0
                        idleSamples := 0, stopTail := Config.stopTail }
      stamping := e.stampAfterSamples 85 }) ⟨rfl, rfl, .inl rfl, id, sound_of_on (role_ne_off noted on) rfl rfl rfl⟩
  have heard := ended.either (p := c.framing) (ended.modLine (fun e => { e with silence := .zero })
      ⟨rfl, rfl, .inl rfl, id, fun k => ⟨fun _ => ⟨rfl, rfl⟩, k.2⟩⟩)
  exact h.trans (heard.routeChar c (role_ne_off heard on)).settleWait

theorem startBit (h : Moves l s t) (on : (t.line l).role ≠ .off) : Moves l s (t.startBit l) := by
  have stamped := h.modLine (fun e => { e with stamping := e.stampAtSample }) ⟨rfl, rfl, .inl rfl, id, id⟩
  unfold State.startBit
  dsimp only
  split
  · have reloaded : Moves l s (State.reloadDivisor _ l) := stamped.modLine _ ⟨rfl, rfl, .inl rfl, id, id⟩
    exact reloaded.modLine _ ⟨rfl, rfl, .inl rfl, id, sound_of_on (by simpa [State.reloadDivisor] using on) rfl rfl rfl⟩
  · exact stamped.modLine _ ⟨rfl, rfl, .inl rfl, id, sound_of_on (by simpa using on) rfl rfl rfl⟩

theorem beginCall (h : Moves l s t) (master : (t.line l).role = .master) : Moves l s (t.beginCall l) := by
  have request (c : Controller) : (c.txn.map fun x => { x with attempts := x.attempts + 1 }).bind Txn.request =
      c.txn.bind Txn.request := by
    cases c.txn <;> rfl
  have reloaded : Moves l s (t.reloadDivisor l) := h.modLine _ ⟨rfl, rfl, .inl rfl, id, id⟩
  have begun := reloaded.modLine (fun e =>
    { e.idleFor e.ctl.guard with
      tx := e.tx.start (t.wireCall l).chars
      ctl := { e.ctl with state := .send, call := t.wireCall l
                          txn := e.ctl.txn.map fun x => { x with attempts := x.attempts + 1 } } })
    ⟨rfl, rfl, .inl (request _), id,
      sound_of_running (running_of_master (by simpa [State.reloadDivisor] using master)) rfl rfl⟩
  unfold State.beginCall
  dsimp only
  split
  · exact begun.countPerformed
  · exact begun

/-- The transmitter comes to rest. -/
theorem endTx (h : Moves l s t) (f : LineEngine → LineEngine) (hf : ∀ e, f e = { e with
    tx := e.tx.ended, contention := (f e).contention }) : Moves l s (t.modLine l f) := by
  refine h.modLine f ?_
  rw [hf]
  exact ⟨rfl, rfl, .inl rfl, id, fun k => ⟨k.1, k.2.1, fun off => let r := k.2.2 off; ⟨r.1, r.2.1, r.2.2.1, rfl, rfl, rfl⟩⟩⟩

theorem frameSent (h : Moves l s t) (sending : (t.line l).ctl.state = .send) : Moves l s (t.frameSent l) := by
  have ended := h.endTx (fun e => { e with tx := e.tx.ended, contention := 0 }) fun _ => rfl
  unfold State.frameSent
  dsimp only
  split
  · exact (ended.endAttempt _).passKept
  · refine Moves.passKept (ended.modLine _ ⟨rfl, rfl, .inl rfl, id, sound_of_running (.inr ?_) rfl rfl⟩)
    simp [sending]

theorem endCall (h : Moves l s t) (o : TxnOutcome) : Moves l s (t.endCall l o) := by
  unfold State.endCall
  rw [State.modTx_eq]
  exact ((h.endTx (fun e => { e with tx := e.tx.ended }) fun _ => rfl).endAttempt _).passKept

theorem gapPassed (h : Moves l s t) (on : (t.line l).role ≠ .off) : Moves l s (t.gapPassed l) := by
  unfold State.gapPassed
  exact h.modLine _ ⟨rfl, rfl, .inl rfl, id, sound_of_on on rfl rfl rfl⟩

theorem windowElapsed (h : Moves l s t) : Moves l s (t.windowElapsed l) := by
  have marked : Moves l s (t.modCtl l fun c =>
      { c with window := .elapsed, windowTimer := { c.windowTimer with bits := c.windowLength } }) := by
    rw [State.modCtl_eq]
    exact h.modLine _ ⟨rfl, rfl, .inl rfl, id, id⟩
  unfold State.windowElapsed
  dsimp only
  generalize (t.modCtl l fun c =>
      { c with window := .elapsed, windowTimer := { c.windowTimer with bits := c.windowLength } }) = u at marked
  split_ifs
  · rw [State.modCtl_eq]
    exact marked.modLine _ ⟨rfl, rfl, .inl rfl, id, id⟩
  · exact marked.endAttempt _
  · exact marked

theorem observerTimerElapsed (h : Moves l s t) : Moves l s (t.observerTimerElapsed l) := by
  have marked := h.modObserver fun o => { o with elapsed := true, timer := { o.timer with bits := o.window } }
  unfold State.observerTimerElapsed
  dsimp only
  split_ifs
  · exact marked
  · exact marked.modObserver _
  · exact marked.forgetCall

theorem takeBackoff (h : Moves l s t) : Moves l s (t.takeBackoff l) := by
  unfold State.takeBackoff
  split
  · next x inHand =>
    split
    · next elapsed =>
      have busy : (t.line l).ctl.state = .backoff := by
        simp only [Controller.backoffOver, Bool.and_eq_true, decide_eq_true_eq] at elapsed
        exact elapsed.1
      exact h.enterGuard x (.inr (by rw [busy]; decide)) (.inr (by rw [inHand]; rfl))
    · exact h
  · exact h

theorem pauseOver (h : Moves l s t) : Moves l s (t.modLine l LineEngine.pauseOver) :=
  h.modLine _ ⟨rfl, rfl, .inr rfl, id, fun k => ⟨k.1, fun _ => rfl, k.2.2⟩⟩

theorem owe (h : Moves l s t) : Moves l s (t.modCycle l fun c => { c with owed := true }) := by
  rw [State.modCycle_eq]
  exact h.modLine _ ⟨rfl, rfl, .inl rfl, id, id⟩

theorem takeExpiry (h : Moves l s t) : Moves l s (t.takeExpiry l) := by
  have counted {u : State} (k : Moves l s u) : Moves l s (u.countOverrun l) := by
    unfold State.countOverrun
    exact k.modLine _ ⟨rfl, rfl, .inl rfl, id, id⟩
  have taken : Moves l s (t.modCycle l fun c => { c with expiryDue := false }) := by
    rw [State.modCycle_eq]
    exact h.modLine _ ⟨rfl, rfl, .inl rfl, id, id⟩
  unfold State.takeExpiry State.expire State.overrun State.reportOverrun
  dsimp only
  split_ifs
  · exact counted taken
  · exact ((counted taken).owe.post ..).raise _
  · exact taken.owe.select
  · exact taken
  · exact h

theorem advance_of_not_sending {x : Transmitter} (quiet : x.sending = none) : x.advance = x := by
  unfold Transmitter.advance
  split
  · next _ _ _ some => rw [quiet] at some; cases some
  · rfl

theorem echoMissing (h : Moves l s t) : Moves l s (t.modTx l fun x =>
    let x := x.advance
    if x.stop.isNone && !x.echoes.isEmpty then { x with stop := some .contention } else x) := by
  rw [State.modTx_eq]
  refine h.modLine _ ⟨rfl, rfl, .inl rfl, id, fun k => ⟨k.1, k.2.1, fun off => ?_⟩⟩
  obtain ⟨timer, reader, rx, enable, pin, sending⟩ := k.2.2 off
  dsimp only
  rw [advance_of_not_sending sending]
  split <;> exact ⟨timer, reader, rx, enable, pin, sending⟩

theorem endEarly (h : Moves l s t) : Moves l s (t.endEarly l) := by
  unfold State.endEarly
  split
  iterate 2 exact h.finishTxn.select
  all_goals exact h

theorem settleTick (h : Moves l s t) : Moves l s (t.settleTick l) := h.takeExpiry.takeBackoff.takeSilence

/-! #### Ticks and clocks -/

theorem tickEngine (h : Moves l s t) : Moves l s (t.modLine l LineEngine.tick) := by
  have timer (e : LineEngine) : Steady e e.tickTimer := by
    unfold LineEngine.tickTimer
    split_ifs with off
    · exact ⟨rfl, rfl, .inl rfl, id, id⟩
    all_goals exact ⟨rfl, rfl, .inl rfl, id, sound_of_on off rfl rfl rfl⟩
  have silence (e : LineEngine) : Steady e e.tickSilence := by
    unfold LineEngine.tickSilence
    split_ifs with standby
    · exact ⟨rfl, rfl, .inl rfl, id, fun k => ⟨(absurd standby ·), k.2⟩⟩
    · exact ⟨rfl, rfl, .inl rfl, id, id⟩
  have backoff (e : LineEngine) : Steady e e.tickBackoff := by
    unfold LineEngine.tickBackoff
    split <;> exact ⟨rfl, rfl, .inl rfl, id, id⟩
  have step {u : State} (k : Moves l s u) (f : LineEngine → LineEngine) (hf : ∀ e, Steady e (f e)) : Moves l s (u.modLine l f) :=
    k.modLine f (hf _)
  have all := step (step (step (step h _ timer) _ silence) _ backoff) LineEngine.tickRestart fun e => ⟨rfl, rfl, .inl rfl, id, id⟩
  convert all using 1
  cases l <;> rfl

theorem switchEngine (h : Moves l s t) (src : Source) : Moves l s (t.modLine l (·.switched src)) :=
  h.modLine _ ⟨rfl, rfl, .inl rfl, id, id⟩

theorem fallenBack (h : Moves l s t) : Moves l s (t.modLine l LineEngine.fallenBack) := by
  refine h.modLine _ ⟨rfl, rfl, .inl ?_, id, fun k => ⟨k.1, fun rest => ?_, fun off => ?_⟩⟩
  · unfold LineEngine.fallenBack
    dsimp only
    split <;> rfl
  · have idle := k.2.1 rest
    simp [LineEngine.fallenBack, idle]
  · obtain ⟨timer, reader, rx, enable, pin, sending⟩ := k.2.2 off
    simp only [LineEngine.fallenBack, reader]
    refine ⟨timer, by simp [reader], ?_, ?_⟩
    · split <;> first | rfl | exact rx
    · split <;> exact ⟨enable, pin, sending⟩

theorem stamped (h : Moves l s t) (x : Option OpenStamp) : Moves l s (t.modLine l fun e => { e with stamping := x }) :=
  h.modLine _ ⟨rfl, rfl, .inl rfl, id, id⟩

theorem restamp (h : Moves l s t) (b : BufIx) (f : Buffer → Stamp) : Moves l s (t.modBuffer b fun y => { y with stamp := f y }) :=
  h.move (.written t b _ _)

theorem tickStamp (h : Moves l s t) (n : Nat) : Moves l s (t.tickStamp l n) := by
  unfold State.tickStamp
  split
  · exact h
  · exact ((h.stamped _).restamp _ _).either (h.stamped _)

end Moves

end Sys2Proof.Proofs.Work

/-! What steps are made of: the moves of the engines, a line that comes to rest, and what the host and the clocks do. -/

namespace Sys2Proof.Proofs.Work

open Sys2Proof Sys2Proof.Machine Sys2Proof.Laws Sys2Proof.Proofs.SwapAndTrigger Sys2Proof.Proofs.ClockRegisters
open Sys2Proof.Proofs.EventQueue Sys2Proof.Proofs.Rows

/-! ### A line comes to rest (R130, R139) -/

/-- A line engine comes to rest: OFF with its queues as they are, and no request but the one that was in hand. -/
structure Rest (e e' : LineEngine) : Prop where
  urgent : e'.urgent = e.urgent
  normal : e'.normal = e.normal
  request : e'.ctl.txn.bind Txn.request = e.ctl.txn.bind Txn.request ∨ e'.ctl.txn.bind Txn.request = none
  role : e'.role = .off
  sound : e.RoleSound → e'.RoleSound

/-- One turn of line `l`: a move, or it comes to rest with its assembling buffer returned (R114). -/
inductive Turn (l : Line) : State → State → Prop where
  | move {s t : State} (h : Move l s t) : Turn l s t
  | rested {s : State} {e : LineEngine} (h : Rest (s.line l) e) : Turn l s ((s.freeAssembling l).setLine l e)

/-- A chain of turns of line `l`. -/
def Turns (l : Line) (s t : State) : Prop :=
  Relation.ReflTransGen (Turn l) s t

theorem Moves.turns {l : Line} {s t : State} (h : Moves l s t) : Turns l s t :=
  Relation.ReflTransGen.mono (fun _ _ => Turn.move) _ _ h

/-! ### What the host does with the event unit (R157 to R167) -/

/-- The host's accesses to the event unit, its soft reset, and its tick. -/
inductive Hosted : EventUnit → EventUnit → Prop where
  | popped (u : EventUnit) (now : Stamp) : Hosted u (u.pop now)
  | masked (u : EventUnit) (h : Half) : Hosted u { u with mask := h &&& 0x0FFE }
  | threshold (u : EventUnit) (v : Byte) : Hosted u (u.setThreshold v)
  | ageLimit (u : EventUnit) (v : Byte) : Hosted u { u with ageLimit := v.toNat }
  | enables (u : EventUnit) (v : Byte) : Hosted u { u with irqEnable := v &&& 0x07 }
  | cleared (u : EventUnit) (mask : Byte) : Hosted u (u.clearSummary mask)
  | read (u : EventUnit) : Hosted u u.readSummary
  | ticked (u : EventUnit) : Hosted u u.tick
  | reset (u : EventUnit) : Hosted u u.softReset

/-! ### The acts of a step -/

/-- One act of the part. -/
inductive Act : State → State → Prop where
  | turn {s t : State} (l : Line) (h : Turn l s t) : Act s t
  | aside (s : State) (bus : BusUnit) {command : CommandUnit} (code : command.code = s.command.code) :
      Act s { s with bus, command }
  | staged (s : State) (staging : Staging) : Act s { s with staging }
  | clocked {s : State} {clock : ClockUnit} (h : s.clock.Sound → clock.Sound) : Act s { s with clock }
  | hosted {s : State} {events : EventUnit} (h : Hosted s.events events) : Act s { s with events }
  | enabled {s : State} {d : DropIx} (h : s.judgeEnable d = none) : Act s (s.modDrop d Drop.enable)
  | placed {s : State} {r : Request} (h : s.judgeSubmit = .ok r) : Act s (s.placeRequest r)
  | retired {s : State} {t : Tag} (h : (s.slot t).state = .done) : Act s (s.modSlot t fun x => { x with state := .free })
  | dismissed {s : State} {t : Tag} (o : TxnOutcome) (h : (s.slot t).state = .queued) : Act s (s.completeQueued t o)
  | dismissedAll (s : State) (l : Line) (which : Slot → Bool) (o : TxnOutcome) : Act s (s.completeAll l which o)
  | opened {s : State} (h : s.ready ≠ []) : Act s { s with opened := true }
  | released (s : State) : Act s s.releaseHead
  | reset (s : State) : Act s (s.modLines fun _ e => e.softReset).clearRequests.freeAllBuffers

/-- A chain of acts. -/
def Acts (s t : State) : Prop :=
  Relation.ReflTransGen Act s t

namespace Acts

variable {s t : State}

theorem refl (s : State) : Acts s s := Relation.ReflTransGen.refl

theorem trans {u : State} (h : Acts s t) (k : Acts t u) : Acts s u := Relation.ReflTransGen.trans h k

theorem act {u : State} (h : Acts s t) (k : Act t u) : Acts s u := Relation.ReflTransGen.tail h k

theorem either {p : Prop} [Decidable p] {u v : State} (h : Acts s u) (k : Acts s v) : Acts s (if p then u else v) := by
  split
  · exact h
  · exact k

end Acts

theorem Turns.acts {l : Line} {s t : State} (h : Turns l s t) : Acts s t :=
  Relation.ReflTransGen.mono (fun _ _ => Act.turn l) _ _ h

theorem Moves.acts {l : Line} {s t : State} (h : Moves l s t) : Acts s t := h.turns.acts

/-! ### The order of a line's end -/

section

variable (r : Role) (l : Line) (s : State)

theorem abandonCycle_asRole : (asRole r l s).abandonCycle l = asRole r l (s.abandonCycle l) := by
  have cycle : ((asRole r l s).line l).cycle = (s.line l).cycle := by simp [asRole_line]
  unfold State.abandonCycle State.postCycleDone
  rw [cycle]
  split
  · cases l <;> (dsimp only [State.modCycle, State.modLine, State.setLine, asRole, State.line]; split <;> rfl)
  · rfl

theorem freeAssembling_asRole : (asRole r l s).freeAssembling l = asRole r l (s.freeAssembling l) := by
  have same : (asRole r l s).assembling l = s.assembling l := by cases l <;> rfl
  unfold State.freeAssembling
  rw [same]
  split <;> cases l <;> rfl

/-- The event unit once the role is told. -/
def toldRole (c : RoleCause) : EventUnit :=
  ((s.modLine l fun e => { e with role := r }).postRole l c).events

theorem toldRole_eq (c : RoleCause) : (s.modLine l fun e => { e with role := r }).postRole l c =
    asRole r l { s with events := toldRole r l s c } := by
  cases l <;> rfl

theorem Moves.toldRole {s t : State} {l : Line} (h : Moves l s t) (k : Line) (r : Role) (c : RoleCause) :
    Moves l s { t with events := Work.toldRole r k t c } := by
  cases k <;> exact h.told (.posted _ _)

/-- The end of a stop, its line OFF last. -/
theorem endStop_eq : s.endStop l =
    let u := { s.earlyEnd l with events := toldRole .off l (s.earlyEnd l) .command }.abandonCycle l
    (u.freeAssembling l).setLine l { (u.line l).stopped with role := .off } := by
  unfold State.endStop
  dsimp only
  rw [toldRole_eq, abandonCycle_asRole, freeAssembling_asRole]
  generalize { s.earlyEnd l with events := toldRole .off l (s.earlyEnd l) .command }.abandonCycle l = u
  have line := freeAssembling_line u l l
  rw [← line]
  cases l <;> rfl

end

theorem abandonCycle_state (s : State) (l : Line) : ((s.abandonCycle l).line l).ctl = (s.line l).ctl := by
  unfold State.abandonCycle
  split <;> simp

/-- A line that stops is at rest when it is OFF (R130). -/
theorem rest_stopped {e : LineEngine} (idle : e.RoleSound → e.ctl.state = .idle) : Rest e { e.stopped with role := .off } :=
  ⟨rfl, rfl, .inl rfl, rfl, fun h => ⟨fun _ => ⟨rfl, rfl⟩, fun _ => idle h, fun _ => ⟨rfl, rfl, rfl, rfl, rfl, rfl⟩⟩⟩

namespace Turns

variable {l : Line} {s t : State}

theorem endStop (h : Moves l s t) (quiet : (t.line l).ctl.state.inFlight = false) : Turns l s (t.endStop l) := by
  rw [endStop_eq]
  have told := (h.earlyEnd.toldRole l .off .command).abandonCycle
  refine told.turns.tail (.rested (rest_stopped fun _ => ?_))
  rw [abandonCycle_state]
  exact earlyEnd_state l t quiet

end Turns

/-! ### Completion beside other work -/

section

variable (s : State) (l : Line)

/-- An engine update that goes with the queues wherever it stands goes with a completion. -/
theorem completeQueued_modLine {f : LineEngine → LineEngine} (hf : ∀ e p g, f (e.modQueue p g) = (f e).modQueue p g)
    (t : Tag) (o : TxnOutcome) : (s.modLine l f).completeQueued t o = (s.completeQueued t o).modLine l f := by
  have unqueued : (s.modLine l f).unqueue t = (s.unqueue t).modLine l f := by
    unfold State.unqueue
    rw [State.modLine_slot]
    cases l <;> cases (s.slot t).line <;>
      simp [State.modLine, State.setLine, State.line, hf]
  unfold State.completeQueued
  rw [unqueued]
  generalize s.unqueue t = u
  have held : ((u.modLine l f).modSlot t fun x =>
      { x with state := .done, outcome := o, abortPending := false, replyLength := 0, replyStored := false }).heldBy t =
      (u.modSlot t fun x =>
      { x with state := .done, outcome := o, abortPending := false, replyLength := 0, replyStored := false }).heldBy t := by
    cases l <;> rfl
  unfold State.complete State.freeHeld
  dsimp only
  rw [held]
  split <;> cases l <;> rfl

theorem completeAll_modLine {f : LineEngine → LineEngine} (hf : ∀ e p g, f (e.modQueue p g) = (f e).modQueue p g)
    (urgent : ∀ e, (f e).urgent = e.urgent) (normal : ∀ e, (f e).normal = e.normal) (w : Slot → Bool) (o : TxnOutcome) :
    (s.modLine l f).completeAll l w o = (s.completeAll l w o).modLine l f := by
  unfold State.completeAll
  simp only [State.modLine_line, if_true, urgent, normal, State.modLine_slot]
  generalize List.filter _ _ = tags
  induction tags generalizing s with
  | nil => rfl
  | cons t rest ih => rw [List.foldl_cons, List.foldl_cons, completeQueued_modLine s l hf, ih]

end

section

variable (s : State)

theorem freeAt_comm {b c : BufIx} (other : b ≠ c) : (s.freeAt b).freeAt c = (s.freeAt c).freeAt b := by
  have apart : b.val ≠ c.val := fun same => other (Fin.ext same)
  unfold State.freeAt State.modBuffer
  rw [State.setBuffer_buffer, if_neg other.symm, State.setBuffer_buffer, if_neg other]
  unfold State.setBuffer
  exact congrArg (fun buffers => { s with buffers }) (Vector.set_comm _ _ apart)

/-- A buffer returned is found no more, and the rest is found as before. -/
theorem find_freeAt {b : BufIx} {p : Place} (other : p ≠ .free) (elsewhere : (s.buffer b).place ≠ p) :
    (allBuffers.find? fun i => ((s.freeAt b).buffer i).place = p) = allBuffers.find? fun i => (s.buffer i).place = p := by
  congr 1
  funext i
  unfold State.freeAt
  rw [State.modBuffer_buffer]
  split
  · next same =>
    subst same
    simp [other.symm, elsewhere]
  · rfl

theorem freeHeld_freeAssembling (l : Line) (t : Tag) : (s.freeAssembling l).freeHeld t = (s.freeHeld t).freeAssembling l := by
  unfold State.freeAssembling
  cases assembling : s.assembling l with
  | none =>
    have still : (s.freeHeld t).assembling l = none := by
      unfold State.freeHeld
      split
      · next c held =>
        exact (find_freeAt s (by simp) (by rw [State.heldBy_place held]; simp)).trans assembling
      · exact assembling
    rw [still]
  | some b =>
    have place := State.assembling_place assembling
    have keeps : (s.freeAt b).heldBy t = s.heldBy t := find_freeAt s (by simp) (by rw [place]; simp)
    unfold State.freeHeld
    dsimp only
    rw [keeps]
    cases held : s.heldBy t with
    | none => simp only [assembling]
    | some c =>
      have other : b ≠ c := by
        rintro rfl
        rw [State.heldBy_place held] at place
        cases place
      have still : (s.freeAt c).assembling l = some b :=
        (find_freeAt s (by simp) (by rw [State.heldBy_place held]; simp)).trans assembling
      simp only [still]
      exact freeAt_comm s other

theorem completeQueued_freeAssembling (l : Line) (t : Tag) (o : TxnOutcome) :
    (s.freeAssembling l).completeQueued t o = (s.completeQueued t o).freeAssembling l := by
  have slot : (s.freeAssembling l).slot t = s.slot t := by
    rw [State.freeAssembling_eq]
    rfl
  have unqueued : (s.freeAssembling l).unqueue t = (s.unqueue t).freeAssembling l := by
    unfold State.unqueue
    rw [slot]
    unfold State.freeAssembling
    have same : (s.modLine (s.slot t).line fun e => e.modQueue (s.slot t).priority (·.filter (· ≠ t))).assembling l =
        s.assembling l := by
      cases (s.slot t).line <;> rfl
    rw [same]
    split <;> cases (s.slot t).line <;> rfl
  unfold State.completeQueued
  rw [unqueued]
  generalize s.unqueue t = u
  have filled (f : Slot → Slot) : (u.freeAssembling l).modSlot t f = (u.modSlot t f).freeAssembling l := by
    have same : (u.modSlot t f).assembling l = u.assembling l := rfl
    unfold State.freeAssembling
    rw [same]
    split <;> rfl
  unfold State.complete
  dsimp only
  rw [filled, freeHeld_freeAssembling]
  generalize State.freeHeld _ t = v
  have same (k : EventKind) (a : Option Line) (d : Option DropIx) (g : Option Tag) (c e : Byte) :
      (v.freeAssembling l).post k a d g c e = (v.post k a d g c e).freeAssembling l := by
    have found : (v.post k a d g c e).assembling l = v.assembling l := rfl
    unfold State.freeAssembling
    rw [found]
    split <;> rfl
  have slot : (v.freeAssembling l).slot t = v.slot t := by
    rw [State.freeAssembling_eq]
    rfl
  rw [slot, same]

/-- What a line assembles is returned before or after completions alike. -/
theorem completeAll_freeAssembling (l : Line) (w : Slot → Bool) (o : TxnOutcome) :
    (s.freeAssembling l).completeAll l w o = (s.completeAll l w o).freeAssembling l := by
  have slot (t : Tag) : (s.freeAssembling l).slot t = s.slot t := by
    rw [State.freeAssembling_eq]
    rfl
  unfold State.completeAll
  simp only [freeAssembling_line, slot]
  generalize List.filter _ _ = tags
  induction tags generalizing s with
  | nil => rfl
  | cons t rest ih =>
    rw [List.foldl_cons, List.foldl_cons, completeQueued_freeAssembling, ih _ fun g => ?_]
    rw [State.freeAssembling_eq]
    rfl

end

namespace Acts

variable {s t : State}

/-! ### The ends of lines that complete requests -/

theorem completeAll (h : Acts s t) (l : Line) (w : Slot → Bool) (o : TxnOutcome) : Acts s (t.completeAll l w o) :=
  h.act (.dismissedAll t l w o)

theorem moves {u : State} {l : Line} (h : Acts s t) (k : Moves l t u) : Acts s u := h.trans k.acts

theorem completeAll_role (t : State) (l k : Line) (w : Slot → Bool) (o : TxnOutcome) :
    ((t.completeAll l w o).line k).role = (t.line k).role := by
  unfold State.completeAll
  generalize List.filter _ _ = tags
  induction tags generalizing t with
  | nil => rfl
  | cons i rest ih =>
    rw [List.foldl_cons, ih]
    obtain ⟨u, n, queues⟩ := modQueue_line t k (t.slot i).line (t.slot i).priority (·.filter (· ≠ i))
    unfold State.completeQueued State.unqueue
    rw [complete_line, queues]

theorem stopStandby (h : Acts s t) (l : Line) (standby : (t.line l).role = .standby) : Acts s (t.stopStandby l) := by
  have completed := h.completeAll l (fun _ => true) .lineStopped
  unfold State.stopStandby
  dsimp only
  rw [completeAll_freeAssembling]
  refine moves (completed.act (.turn l (t := (State.freeAssembling _ l).modLine l fun e => { e.stopped with role := .off }) ?_))
    (Moves.postRole (l := l) (.refl _) l .command)
  unfold State.modLine
  rw [freeAssembling_line]
  refine .rested (rest_stopped fun sound => sound.2.1 ?_)
  rw [completeAll_role, standby]
  rfl

theorem beginStop (h : Acts s t) (l : Line) (master : (t.line l).role = .master) : Acts s (t.beginStop l) := by
  have stopping : Acts s ((t.modLine l fun e => { e with role := .stopping }).postRole l .command) :=
    h.moves ((Moves.toTransition (.refl t) .stopping master (.inr rfl)).postRole l .command)
  have completed := stopping.completeAll l (fun _ => true) .lineStopped
  unfold State.beginStop
  dsimp only
  split
  · exact completed
  · next quiet => exact completed.trans (Turns.endStop (.refl _) (by simpa using quiet)).acts

/-- A line engine with its controller IDLE. -/
def idled (e : LineEngine) : LineEngine :=
  { e with ctl := e.ctl.toIdle }

theorem idled_modQueue (e : LineEngine) (p : Priority) (g : List Tag → List Tag) :
    idled (e.modQueue p g) = (idled e).modQueue p g := by
  cases p <;> rfl

theorem mild_lineReset {l : Line} (x : Drop) : Mild x (x.lineReset l) := by
  unfold Drop.lineReset
  split
  · exact fun h => ⟨h, rfl, rfl⟩
  · exact .refl x

theorem rest_cleared (e : LineEngine) : Rest e e.cleared :=
  ⟨rfl, rfl, .inr rfl, rfl, fun _ => ⟨fun _ => ⟨rfl, rfl⟩, fun _ => rfl, fun _ => ⟨rfl, rfl, rfl, rfl, rfl, rfl⟩⟩⟩

/-- A line reset with its controller at rest before the queued requests complete (R139, R106). -/
theorem resetLine_eq (t : State) (l : Line) : t.resetLine l =
    let u := ((t.resetActive l).modCtl l Controller.toIdle).completeAll l (fun _ => true) .lineReset |>.modDrops (·.lineReset l)
    let v := (u.freeAssembling l).setLine l (u.line l).cleared
    if (t.line l).role = .off then v else v.postRole l .reset := by
  have idle : (t.resetRequests l).modLine l idled =
      ((t.resetActive l).modCtl l Controller.toIdle).completeAll l (fun _ => true) .lineReset := by
    exact (completeAll_modLine (t.resetActive l) l idled_modQueue (fun _ => rfl) (fun _ => rfl) _ _).symm
  have same (v : State) : ((v.freeAssembling l).modDrops (·.lineReset l)).modLine l LineEngine.cleared =
      (((v.modLine l idled).modDrops (·.lineReset l)).freeAssembling l).setLine l
        (((v.modLine l idled).modDrops (·.lineReset l)).line l).cleared := by
    have found : ((v.modLine l idled).modDrops (·.lineReset l)).assembling l = v.assembling l := by
      cases l <;> rfl
    unfold State.freeAssembling
    rw [found]
    split <;> cases l <;> rfl
  unfold State.resetLine
  dsimp only
  rw [same, idle]

theorem resetLine (h : Acts s t) (l : Line) : Acts s (t.resetLine l) := by
  have active : Moves l t ((t.resetActive l).modCtl l Controller.toIdle) := by
    unfold State.resetActive
    split
    · next i inHand => exact (Moves.refl t).move (.closed .lineReset 0 false inHand)
    · exact (Moves.refl t).toIdle
  have completed := (h.moves active).completeAll l (fun _ => true) .lineReset
  have dropped := completed.moves (Moves.modDrops (l := l) (.refl _) (·.lineReset l) mild_lineReset)
  have rested := dropped.act (.turn l (.rested (rest_cleared _)))
  rw [resetLine_eq]
  exact rested.either (rested.moves (Moves.postRole (l := l) (.refl _) l .reset))

end Acts

/-! ### The rows of a line -/

theorem Turns.when {l : Line} {s t : State} {p : Prop} [Decidable p] (h : p → Turns l s t) : Turns l s (if p then t else s) := by
  split
  · exact h ‹_›
  · exact Relation.ReflTransGen.refl

/-- What a row needs to take place, read off its guard. -/
theorem on_of_guard {s : State} {l : Line} {p : Bool} (guard : (decide ((s.line l).role ≠ .off) && p) = true) :
    (s.line l).role ≠ .off := by
  simp only [Bool.and_eq_true, decide_eq_true_eq] at guard
  exact guard.1

theorem sending_of_stoppedFor {s : State} {l : Line} {c : StopCause} (h : s.stoppedFor l c = true) :
    (s.line l).ctl.state = .send := by
  simp only [State.stoppedFor, Bool.and_eq_true, decide_eq_true_eq] at h
  exact h.1

/-- The answer of a row of a line is a chain of turns of that line, with nIRQ driven. -/
theorem exec_turns {c : Instr} {l : Line} (row : eventLine c = some l) (s : State) :
    ∃ t, exec c s = finish t ∧ Turns l s t := by
  have h (l : Line) : Moves l s s := .refl s
  cases c
  case cycleTimerExpiry k => cases row; exact ⟨_, rfl, (h l).takeExpiry.turns⟩
  case backoffElapsed k => cases row; exact ⟨_, rfl, (h l).takeBackoff.turns⟩
  case pauseElapsed k => cases row; exact ⟨_, rfl, .when fun _ => (h l).pauseOver.select.turns⟩
  case lineSilent k => cases row; exact ⟨_, rfl, (h l).takeSilence.turns⟩
  case characterReceived k x =>
    cases row
    exact ⟨_, rfl, .when fun guard =>
      ((h l).falseStart _ |>.either ((h l).receiveChar _ (on_of_guard guard))).turns⟩
  case falseStart k x => cases row; exact ⟨_, rfl, .when fun _ => ((h l).falseStart x).turns⟩
  case guardSatisfied k =>
    cases row
    refine ⟨_, rfl, .when fun guard => ((h l).beginCall ?_).turns⟩
    simp only [State.mayCall, Bool.and_eq_true, decide_eq_true_eq] at guard
    exact guard.1.1.1.1.1
  case frameSent k =>
    cases row
    refine ⟨_, rfl, .when fun guard => ((h l).frameSent ?_).turns⟩
    simp only [State.frameIsSent, Bool.and_eq_true, decide_eq_true_eq] at guard
    exact guard.1.1.1
  case echoMissing k => cases row; exact ⟨_, rfl, (h l).echoMissing.turns⟩
  case contentionReport k => cases row; exact ⟨_, rfl, .when fun _ => ((h l).endCall _).turns⟩
  case clockFaultReport k => cases row; exact ⟨_, rfl, .when fun _ => ((h l).endCall _).turns⟩
  case gapFault k =>
    cases row
    refine ⟨_, rfl, .when fun guard => (((h l).gapPassed ?_).deliver _).turns⟩
    simp only [LineEngine.idleWith, Bool.and_eq_true, decide_eq_true_eq] at guard
    exact guard.1.1
  case quietEnd k =>
    cases row
    refine ⟨_, rfl, .when fun guard => (((h l).gapPassed ?_).deliver _).turns⟩
    simp only [LineEngine.idleWith, Bool.and_eq_true, decide_eq_true_eq] at guard
    exact guard.1.1
  case responseWindowElapsed k => cases row; exact ⟨_, rfl, .when fun _ => (h l).windowElapsed.turns⟩
  case observerTimerElapsed k => cases row; exact ⟨_, rfl, .when fun _ => (h l).observerTimerElapsed.turns⟩
  case yieldEnd k =>
    cases row
    refine ⟨_, rfl, .when fun guard => ((h l).endYield ?_).turns⟩
    simp only [LineEngine.mayEnd, Bool.and_eq_true, Bool.not_eq_true'] at guard
    exact guard.2
  case stopEnd k =>
    cases row
    refine ⟨_, rfl, .when fun guard => Turns.endStop (h l) ?_⟩
    simp only [LineEngine.mayEnd, Bool.and_eq_true, Bool.not_eq_true'] at guard
    exact guard.2
  case startBit k => cases row; exact ⟨_, rfl, .when fun guard => ((h l).startBit (on_of_guard guard)).turns⟩
  case lineSeenHigh k =>
    cases row
    refine ⟨_, rfl, .when fun guard => ((h l).modLine _ ⟨rfl, rfl, .inl rfl, id, ?_⟩).turns⟩
    exact sound_of_on (on_of_guard guard) rfl rfl rfl
  all_goals cases row

namespace Acts

variable {s t : State}

/-! ### Register writes (R168 to R173) -/

theorem modBus (h : Acts s t) (f : BusUnit → BusUnit) : Acts s (t.modBus f) := h.act (.aside t (f t.bus) rfl)

theorem modEvents (h : Acts s t) {f : EventUnit → EventUnit} (hf : ∀ u, Hosted u (f u)) : Acts s (t.modEvents f) :=
  h.act (.hosted (hf _))

theorem modClock (h : Acts s t) {f : ClockUnit → ClockUnit} (hf : t.clock.Sound → (f t.clock).Sound) : Acts s (t.modClock f) :=
  h.act (.clocked hf)

theorem writeDrop {u : State} (h : Acts s t) {d : DropIx} {k : Nat} {v : Byte} (ok : t.writeDrop d k v = .ok u) : Acts s u := by
  unfold State.writeDrop at ok
  split at ok
  · cases ok
  · next disabled =>
    split at ok
    · next x written =>
      cases ok
      refine h.moves (l := .a) (Moves.move (.refl t) (.drops fun e => ?_))
      change Mild _ ((t.setDrop d x).drop e)
      rw [State.setDrop_drop]
      split
      · next same =>
        subst same
        refine fun enabled => absurd enabled ?_
        rwa [Drop.enabled, (DropTable.write_keeps written).1]
      · exact .refl _
    · cases ok

theorem writeBank {u : State} (h : Acts s t) {l : Line} {n : Bool} {b : Option Bank} (ok : t.writeBank l n b = .ok u) :
    Acts s u := by
  unfold State.writeBank at ok
  split at ok <;> cases ok
  rw [State.modSched_eq]
  exact h.moves (Moves.modLine (.refl t) _ ⟨rfl, rfl, .inl rfl, id, id⟩)

theorem writeParam {u : State} (h : Acts s t) {l : Line} {k : Nat} {p : Option LineParams} (ok : t.writeParam l k p = .ok u) :
    Acts s u := by
  unfold State.writeParam at ok
  split at ok <;> cases ok
  refine h.moves (Moves.modLine (.refl t) _ ⟨rfl, rfl, .inl rfl, id, fun sound => ⟨sound.1, sound.2.1, fun off => ?_⟩⟩)
  obtain ⟨timer, rest⟩ := sound.2.2 off
  refine ⟨?_, rest⟩
  dsimp only
  split
  · rfl
  · exact timer

theorem commitByte {u : State} (h : Acts s t) {o : ObjectSel} {k : Nat} {v : Byte} (ok : t.commitByte o k v = .ok u) :
    Acts s u := by
  unfold State.commitByte at ok
  split at ok
  · cases ok
  · cases o with
    | drop d => exact h.writeDrop ok
    | sched l n => exact h.writeBank ok
    | staging => cases ok; exact h.act (.staged t _)
    | params l => exact h.writeParam ok
    | slot | buffer | counters => cases ok

theorem commitHalf {u : State} (h : Acts s t) {o : ObjectSel} {k : Nat} {hi lo : Byte} (ok : t.commitHalf o k hi lo = .ok u) :
    Acts s u := by
  unfold State.commitHalf at ok
  split at ok
  · cases ok
  · cases o with
    | sched l n => exact h.writeBank ok
    | params l => exact h.writeParam ok
    | drop | staging | slot | buffer | counters => cases ok

theorem settleWrite (h : Acts s t) {k : Nat} {bytes : List Byte} {r : Except AccessStatus State}
    (hr : ∀ u, r = .ok u → Acts s u) : Acts s (t.settleWrite k bytes r) := by
  unfold State.settleWrite
  split
  · next u => exact (hr u rfl).modBus _
  · exact h.modBus _

theorem writeObject (h : Acts s t) (o : ObjectSel) (k : Nat) (v : Byte) : Acts s (t.writeObject o k v) := by
  unfold State.writeObject
  split
  · exact (h.modBus _).modBus _
  · exact h.settleWrite fun u ok => h.commitByte ok
  · have emptied : Acts s t.emptyHold := h.modBus _
    exact emptied.settleWrite fun u ok => emptied.commitHalf ok

theorem writeData (h : Acts s t) (v : Byte) : Acts s (t.writeData v) := by
  unfold State.writeData
  split
  · exact h.modBus _
  · split
    · exact h.modBus _
    · exact (h.writeObject ..).modBus _

theorem writeSelector (h : Acts s t) (r : SelectReg) (v : Byte) : Acts s (t.writeSelector r v) := by
  have selected {u : State} (k : Acts s u) : Acts s u.selectObject := by
    unfold State.selectObject State.setSelection
    split <;> exact k.modBus _
  unfold State.writeSelector
  split <;> exact selected (h.modBus _)

theorem sound_setDivider {c : ClockUnit} (src : Source) (n : Half) (h : c.Sound) : (c.setDivider src n).Sound := by
  cases src <;> exact h

theorem commitDivider (h : Acts s t) (src : Source) (v : Byte) : Acts s (t.commitDivider src v) := by
  have emptied : Acts s t.emptyHold := h.modBus _
  unfold State.commitDivider
  dsimp only
  split
  · exact emptied
  · exact emptied.modClock (sound_setDivider src _)

theorem sound_control {c : ClockUnit} (v : Byte) (h : c.Sound) : (c.control v).Sound := by
  obtain ⟨present, enabled, absent⟩ := h
  have set (xref : c.effective = .xref) : (takesControl c v).xrefEnable = true ∧ c.xrefEnable = true := by
    have on := enabled (.inl xref)
    exact ⟨by simp [takesControl, xref, on], on⟩
  have requested (xref : (takesControl c v).requested = .xref) : (takesControl c v).xrefEnable = true := by
    change (if v.getLsbD 0 then Source.xref else .iosc) = .xref at xref
    change (v.getLsbD 1 || v.getLsbD 0 || _) = true
    have bit : v.getLsbD 0 = true := by
      by_contra off
      rw [if_neg off] at xref
      cases xref
    rw [bit, Bool.or_true, Bool.true_or]
  rw [control_eq]
  split
  · next both =>
    simp only [Bool.and_eq_true] at both
    exact ⟨present, fun _ => both.1, fun off => absurd (both.1.symm.trans off) (by decide)⟩
  · next notBoth =>
    have iosc (xref : c.effective = .xref) : False := notBoth (by simp [set xref])
    exact ⟨fun xref => (iosc xref).elim, fun needed => needed.elim (fun xref => (iosc xref).elim) requested, fun _ => rfl⟩

theorem sound_writeControl {c : ClockUnit} (v : Byte) (h : c.Sound) : (c.writeControl v).Sound := by
  unfold ClockUnit.writeControl
  split
  · exact sound_control v h
  · exact h

theorem write (h : Acts s t) (a : BitVec 6) (v : Byte) : Acts s (t.write a v) := by
  unfold State.write
  split
  · exact h
  · unfold State.writeRegister
    split
    case h_3 | h_4 => exact h.writeSelector ..
    case h_6 => exact h.writeData v
    case h_7 => exact h.modEvents fun u => .popped u _
    case h_9 => exact (h.modBus _).modEvents fun u => .masked u _
    case h_10 => exact h.modEvents fun u => .threshold u v
    case h_11 => exact h.modEvents fun u => .ageLimit u v
    case h_12 => exact h.modEvents fun u => .enables u v
    case h_13 => exact h.modEvents fun u => .cleared u v
    case h_14 => exact h.modClock (sound_writeControl v)
    case h_16 | h_18 => exact h.commitDivider ..
    case h_19 => exact h
    all_goals exact h.modBus _

/-! ### Commands -/

theorem modCommand (h : Acts s t) {f : CommandUnit → CommandUnit} (code : (f t.command).code = t.command.code) :
    Acts s (t.modCommand f) := h.act (.aside t t.bus code)

theorem done (h : Acts s t) (b : Byte) : Acts s (t.done b) := h.modCommand rfl

theorem refuse (h : Acts s t) (why : CmdRefusal) : Acts s (t.refuse why) := h.modCommand rfl

theorem withLine (h : Acts s t) (b : Byte) {f : Line → State} (hf : ∀ l, Acts s (f l)) : Acts s (t.withLine b f) := by
  unfold State.withLine
  split
  · exact hf _
  · exact h.refuse _

theorem withDrop (h : Acts s t) (b : Byte) {f : DropIx → State} (hf : ∀ d, Acts s (f d)) : Acts s (t.withDrop b f) := by
  unfold State.withDrop
  split
  · exact hf _
  · exact h.refuse _

theorem withTag (h : Acts s t) (b : Byte) {f : Tag → State} (hf : ∀ i, Acts s (f i)) : Acts s (t.withTag b f) := by
  unfold State.withTag
  split
  · exact hf _
  · exact h.refuse _

theorem select (h : Acts s t) (l : Line) : Acts s (t.select l) := h.moves (Moves.select (.refl t) (l := l))

theorem engine (h : Acts s t) (l : Line) (f : LineEngine → LineEngine) (hf : Steady (t.line l) (f (t.line l))) :
    Acts s (t.modLine l f) := h.moves (Moves.modLine (.refl t) f hf)

theorem post (h : Acts s t) (k : EventKind) (o : Option Line) (d : Option DropIx) (g : Option Tag) (c e : Byte) :
    Acts s (t.post k o d g c e) := h.moves (l := .a) (Moves.post (.refl t) ..)

theorem modDrop (h : Acts s t) (d : DropIx) {f : Drop → Drop} (hf : ∀ x, Mild x (f x)) : Acts s (t.modDrop d f) :=
  h.moves (l := .a) (Moves.modDrop (.refl t) d f hf)

theorem modDrops (h : Acts s t) {f : Drop → Drop} (hf : ∀ x, Mild x (f x)) : Acts s (t.modDrops f) :=
  h.moves (l := .a) (Moves.modDrops (.refl t) f hf)

theorem runSubmit (h : Acts s t) : Acts s t.runSubmit := by
  unfold State.runSubmit
  split
  · exact h.refuse _
  · next r judged => exact ((h.act (.placed judged)).select _).done _

theorem runRetire (h : Acts s t) : Acts s t.runRetire := by
  refine h.withTag _ fun i => ?_
  split
  · next done => exact (h.act (.retired done)).done _
  · exact h.refuse _

theorem abortActive (h : Acts s t) (i : Tag) : Acts s (t.abortActive i) := by
  have flagged : Acts s (t.modSlot i fun x => { x with abortPending := true }) :=
    h.moves (l := .a) (Moves.move (.refl t) (.noted t i (t.slot i).attempts (t.slot i).outcome true))
  unfold State.abortActive
  dsimp only
  exact (flagged.moves (Moves.endEarly (.refl _) (l := (t.slot i).line))).either flagged

theorem runAbort (h : Acts s t) : Acts s t.runAbort := by
  refine h.withTag _ fun i => ?_
  split
  · next queued => exact (h.act (.dismissed .aborted queued)).done _
  · exact (h.abortActive i).done _
  all_goals exact h.refuse _

theorem runDropEnable (h : Acts s t) : Acts s t.runDropEnable := by
  refine h.withDrop _ fun d => ?_
  split
  · exact h.refuse _
  · next judged => exact ((h.act (.enabled judged)).post ..).done _

theorem mild_of_disabled {x y : Drop} (off : y.state = .disabled) : Mild x y := fun enabled =>
  absurd off (by simpa [Drop.enabled] using enabled)

theorem disableDrop (h : Acts s t) (d : DropIx) : Acts s (t.disableDrop d) := by
  have disabled := ((h.modDrop d (f := Drop.disable) fun x => mild_of_disabled rfl).post .dropState
    (some ((t.modDrop d Drop.disable).drop d).line) (some d) none DropState.disabled.code (t.drop d).state.code).completeAll
      (t.drop d).line (fun x => x.drop = d) .dropDisabled
  exact (disabled.moves (Moves.endEarly (.refl _) (l := (t.drop d).line))).either disabled

theorem runDropDisable (h : Acts s t) : Acts s t.runDropDisable := by
  refine h.withDrop _ fun d => ?_
  split
  · exact (h.disableDrop d).done _
  · exact h.refuse _

/-- A role command is taken by a line in a settled role (R127). -/
theorem roleCommand (h : Acts s t) (r : Role) {f : State → Line → State}
    (hf : ∀ l, (t.line l).refuseRole r = none → Acts s (f t l)) : Acts s (t.roleCommand r f) := by
  refine h.withLine _ fun l => ?_
  split
  · exact h.refuse _
  · next accepted => exact (hf l accepted).done _

theorem runLineStart (h : Acts s t) : Acts s t.runLineStart :=
  h.roleCommand _ fun _ _ => h.moves (Moves.becomeMaster (.refl t) .command)

theorem role_of_accepted {e : LineEngine} {r : Role} (accepted : e.refuseRole r = none) :
    (e.role = .off ∨ e.role = .standby ∨ e.role = .master) ∧ e.role ≠ r := by
  unfold LineEngine.refuseRole at accepted
  split at accepted
  · cases accepted
  · cases accepted
  all_goals
    next role =>
    split at accepted
    · cases accepted
    · exact ⟨by simp [role], by assumption⟩

theorem runLineStandby (h : Acts s t) : Acts s t.runLineStandby := by
  refine h.roleCommand _ fun l accepted => ?_
  obtain ⟨role, other⟩ := role_of_accepted accepted
  split
  · next off => exact h.moves (Moves.becomeStandby (.refl t) off)
  · next on => exact h.moves (Moves.beginYield (.refl t) (by tauto))

theorem runLineStop (h : Acts s t) : Acts s t.runLineStop := by
  refine h.roleCommand _ fun l accepted => ?_
  obtain ⟨role, other⟩ := role_of_accepted accepted
  split
  · next standby => exact h.stopStandby l standby
  · next not => exact h.beginStop l (by tauto)

theorem runLineReset (h : Acts s t) : Acts s t.runLineReset := by
  refine h.withLine _ fun l => ?_
  split
  · have halted : Acts s (t.modTx l Transmitter.haltForReset) := by
      rw [State.modTx_eq]
      refine h.engine l _ ⟨rfl, rfl, .inl rfl, id, fun sound => ⟨sound.1, sound.2.1, fun off => ?_⟩⟩
      rw [Transmitter.haltForReset_eq]
      exact sound.2.2 off
    exact halted.modCommand rfl
  · exact (h.resetLine l).done _

theorem swapBanks (h : Acts s t) (l : Line) : Acts s (t.swapBanks l) := h.moves (Moves.swapBanks (.refl t))

theorem runSchedSwap (h : Acts s t) : Acts s t.runSchedSwap := by
  refine h.withLine _ fun l => ?_
  dsimp only
  split_ifs
  · exact h.refuse _
  · rw [State.modSched_eq]
    exact (h.engine l _ ⟨rfl, rfl, .inl rfl, id, id⟩).done _
  · exact (h.swapBanks l).done _

theorem runTriggerCycle (h : Acts s t) : Acts s t.runTriggerCycle := by
  refine h.withLine _ fun l => ?_
  split
  · exact ((h.moves (Moves.owe (.refl t))).select l).done _
  · exact h.refuse _

theorem settleStamp (h : Acts s t) (b : BufIx) : Acts s (t.settleStamp b) := by
  unfold State.settleStamp
  dsimp only
  split
  · split
    · exact h.moves (((Moves.refl t).stamped none).restamp b _)
    · exact h
  · exact h

theorem runReadyOpen (h : Acts s t) : Acts s t.runReadyOpen := by
  unfold State.runReadyOpen State.openHead
  split_ifs with empty opened
  · exact h.refuse _
  · exact h.refuse _
  · split
    · exact h.done _
    · next b rest ready =>
      have settled := h.settleStamp b
      refine (settled.act (.opened ?_)).done _
      obtain ⟨f, same⟩ := t.settleStamp_eq b
      rw [same]
      change (State.modLine ..).ready ≠ []
      rw [State.modLine_ready, ready]
      exact List.cons_ne_nil _ _

theorem runReadyRelease (h : Acts s t) : Acts s t.runReadyRelease := by
  unfold State.runReadyRelease
  split
  · exact (h.act (.released t)).done _
  · exact h.refuse _

theorem clearCounters (h : Acts s t) (l : Line) : Acts s (t.modLine l fun e => { e with counters := .zero }) :=
  h.engine l _ ⟨rfl, rfl, .inl rfl, id, id⟩

theorem runClearCounters (h : Acts s t) : Acts s t.runClearCounters := by
  have clear (x : Drop) : Mild x x.clearStats := fun enabled => ⟨enabled, rfl, rfl⟩
  unfold State.runClearCounters
  split
  · exact h.withDrop _ fun d => (h.modDrop d clear).done _
  · refine h.withLine _ fun l => ?_
    rw [State.modCounters_eq]
    exact (h.clearCounters l).done _
  · exact (((h.modDrops clear).clearCounters .a).clearCounters .b).done _
  · exact h.refuse _

theorem finishSoftReset (h : Acts s t) : Acts s t.finishSoftReset := by
  have dropped : Acts s (t.modDrops Drop.softReset) := by
    refine h.modDrops fun x enabled => ⟨?_, rfl, rfl⟩
    by_contra off
    simp [Drop.softReset, Drop.enabled] at enabled off
    exact enabled off
  exact (((dropped.act (.reset _)).modEvents fun u => .reset u).modBus BusUnit.softReset).done 0

theorem halt (h : Acts s t) (l : Line) : Acts s (t.modLine l fun e => { e with tx := e.tx.haltForReset }) := by
  refine h.engine l _ ⟨rfl, rfl, .inl rfl, id, fun sound => ⟨sound.1, sound.2.1, fun off => ?_⟩⟩
  rw [Transmitter.haltForReset_eq]
  exact sound.2.2 off

theorem runSoftReset (h : Acts s t) : Acts s t.runSoftReset := by
  have taken : Acts s (t.modClock ClockUnit.softReset) :=
    h.modClock fun sound => ⟨sound.1, fun xref => sound.2.1 (.inl (xref.elim id id)), sound.2.2⟩
  unfold State.runSoftReset
  dsimp only
  split
  · exact ((taken.halt .a).halt .b).modCommand rfl
  · exact taken.finishSoftReset

theorem runCode (h : Acts s t) (code : Byte) : Acts s (Machine.runCode code t) := by
  unfold Machine.runCode
  split
  · exact h.runSubmit
  · exact h.runRetire
  · exact h.runAbort
  · exact h.runDropEnable
  · exact h.runDropDisable
  · exact h.runLineStart
  · exact h.runLineStandby
  · exact h.runLineStop
  · exact h.runLineReset
  · exact h.runSchedSwap
  · exact h.runTriggerCycle
  · exact h.runReadyOpen
  · exact h.runReadyRelease
  · exact h.runClearCounters
  · exact h.runSoftReset
  · exact h.refuse _

/-! ### Ticks and clocks -/

theorem eachLine (h : Acts s t) {f : State → Line → State} (hf : ∀ u l, Moves l u (f u l)) : Acts s (t.eachLine f) :=
  (h.moves (hf t .a)).moves (hf _ .b)

theorem modLines (h : Acts s t) {f : Line → LineEngine → LineEngine} (hf : ∀ l u, Moves l u (u.modLine l (f l))) :
    Acts s (t.modLines f) :=
  (h.moves (hf .a t)).moves (hf .b (t.modLine .a (f .a)))

theorem tick (h : Acts s t) : Acts s t.tick := by
  have settled := h.eachLine fun u l => Moves.settleTick (.refl u) (l := l)
  unfold State.tick
  dsimp only
  generalize t.eachLine State.settleTick = u at settled
  have counted := settled.modClock (f := fun c => { c with timestamp := c.timestamp + 1, prescaler := 0 }) id
  have stamped := counted.eachLine fun v l => Moves.tickStamp (.refl v) (l := l) u.clock.toTick
  have ticked := stamped.modLines (f := fun _ e => e.tick) fun l v => Moves.tickEngine (.refl v)
  exact (ticked.modEvents fun v => .ticked v).eachLine fun v l => Moves.select (.refl v)

theorem switchClock (h : Acts s t) (may : t.maySwitch = true) : Acts s t.switchClock := by
  have available : t.clock.requested = .xref → t.clock.monitor = .present := by
    simp only [State.maySwitch, Bool.and_eq_true] at may
    intro xref
    simpa [ClockUnit.available, xref] using may.1.1.2
  have switched : Acts s (t.modClock fun c => { c with effective := t.clock.requested, prescaler := 0 }) :=
    h.modClock fun sound => ⟨available, fun xref => sound.2.1 (.inr (xref.elim id id)), sound.2.2⟩
  exact (switched.modLines (f := fun _ e => e.switched t.clock.requested)
    fun l v => Moves.switchEngine (.refl v) t.clock.requested).post ..

/-- The fallback of a clock unit that has lost XREF (R148). -/
theorem fallback (h : Acts s t) : Acts s (t.modClock (·.monitorAbsent)).fallback := by
  have lost : Acts s ((t.modClock (·.monitorAbsent)).modClock fun c => { c with effective := .iosc, requested := .iosc }) :=
    h.act (.clocked fun _ => ⟨by rintro ⟨⟩, fun needed => (by obtain ⟨⟨⟩⟩ | ⟨⟨⟩⟩ := needed), fun _ => rfl⟩)
  have fallen := lost.modLines (f := fun _ e => e.fallenBack) fun l v => Moves.fallenBack (.refl v)
  have emptied := fallen.eachLine (f := fun u l => if (u.line l).role = .standby then u.emptyObserver l else u)
    fun u l => (Moves.emptyObserver (.refl u)).either (.refl u)
  have told := (emptied.post .clockFallback none none none 0 0).moves (l := .a) ((Moves.refl _).raise .clockFallback)
  exact told.eachLine fun u l => (Moves.settleWait (.refl u)).either (.refl u)

theorem loseXref (h : Acts s t) : Acts s t.loseXref := by
  unfold State.loseXref
  dsimp only
  split
  · exact h.fallback
  · next not =>
    refine h.modClock fun sound => ⟨fun xref => (not ?_).elim, sound.2.1, fun _ => rfl⟩
    have effective : t.clock.effective = .xref := xref
    simp [effective, sound.1 effective]

theorem sound_edge {c : ClockUnit} (rising : Bool) (h : c.Sound) : (c.edge rising).Sound := by
  obtain ⟨present, enabled, absent⟩ := h
  unfold ClockUnit.edge
  split
  · exact ⟨present, enabled, absent⟩
  next off =>
  have on : c.xrefEnable = true := by simpa using off
  split
  · next monitor =>
    refine ⟨fun xref => ?_, enabled, fun clear => absurd (on.symm.trans clear) (by decide)⟩
    exact absurd (monitor.symm.trans (present xref)) (by decide)
  · next monitor =>
    refine ⟨fun xref => ?_, enabled, fun clear => absurd (on.symm.trans clear) (by decide)⟩
    exact absurd (monitor.symm.trans (present xref)) (by decide)
  · exact ⟨present, enabled, absent⟩

theorem sound_edgesDone {c : ClockUnit} (h : c.Sound) : c.edgesDone.Sound := by
  unfold ClockUnit.edgesDone
  split
  · next starting =>
    simp only [Bool.and_eq_true] at starting
    exact ⟨fun _ => rfl, h.2.1, fun off => absurd (starting.1.symm.trans off) (by decide)⟩
  · exact h

end Acts

/-! ### Every row but the device reset, and every step -/

/-- The answer of every row but the device reset is a chain of acts, begun with the code stored where the row writes a command
that is taken, and nIRQ driven at its end. -/
theorem exec_acts {c : Instr} (other : c ≠ .deviceReset) (s : State) :
    ∃ k t, exec c s = finish t ∧ Acts (withCommand k s) t ∧ (cmdCode c = none → k = s.command) ∧
      ∀ code, cmdCode c = some code → s.idle → k.code = code := by
  cases command : cmdCode c with
  | some code =>
    rw [exec_of_cmdCode s command]
    by_cases idle : s.idle
    · exact ⟨{ s.command with code }, _, rfl, by
        rw [writeCmd_of_idle idle]
        exact Acts.runCode (.refl _) code, (by rintro ⟨⟩), fun _ same _ => Option.some.inj same⟩
    · exact ⟨s.command, _, rfl, by
        rw [writeCmd_of_busy idle]
        exact (Moves.raise (.refl s) (l := .a) .cmdOverrun).acts, (by rintro ⟨⟩), fun _ _ is => absurd is idle⟩
  | none =>
    refine ⟨s.command, ?_⟩
    suffices answers : ∃ t, exec c s = finish t ∧ Acts s t by
      obtain ⟨t, answer, acts⟩ := answers
      exact ⟨t, answer, acts, fun _ => rfl, (by rintro _ ⟨⟩)⟩
    cases row : eventLine c with
    | some l =>
      obtain ⟨t, answer, turns⟩ := exec_turns row s
      exact ⟨t, answer, turns.acts⟩
    | none =>
      have h := Acts.refl s
      cases c
      case lineResetTakesEffect =>
        refine ⟨_, rfl, ?_⟩
        split
        · exact (h.resetLine _).done _
        all_goals exact h
      case softResetTakesEffect =>
        refine ⟨_, rfl, ?_⟩
        split
        · exact h.finishSoftReset
        all_goals exact h
      case summaryClear | eventPop | accessSelect | accessOffsetWrite | accessDataWrite | clockControlWrite
        | tickDividerWrite | holdRegisterWrite => exact ⟨_, rfl, h.write ..⟩
      case summaryRead => exact ⟨_, rfl, (h.modBus _).modEvents fun u => .read u⟩
      case timestampRead | accessDataRead => exact ⟨_, rfl, (h.modBus _).modBus _⟩
      case eventAgeExpiry => exact ⟨_, rfl, h⟩
      case xrefEdge rising => exact ⟨_, rfl, h.modClock (Acts.sound_edge rising)⟩
      case xrefPresent => exact ⟨_, rfl, h.modClock Acts.sound_edgesDone⟩
      case xrefLost => exact ⟨_, rfl, h.loseXref.either h⟩
      case clockSwitch =>
        refine ⟨_, rfl, ?_⟩
        split
        · next may => exact h.switchClock may
        · exact h
      case tick => exact ⟨_, rfl, h.tick⟩
      case registerWrite a v =>
        have noCommand : a ≠ 0x02 := fun same => by simp [cmdCode, same] at command
        exact ⟨_, exec_registerWrite noCommand v, h.write ..⟩
      case deviceReset => exact absurd rfl other
      case submit | retire | abort | dropEnable | dropDisable | lineStart | lineStandby | lineStop | lineReset | schedSwap
        | triggerCycle | readyOpen | readyRelease | clearCounters | softReset | badCommand | cmdOverrun => cases command
      all_goals cases row

theorem steady_period (e : LineEngine) (l : Line) : Steady e (e.period l).1 := by
  unfold LineEngine.period
  dsimp only
  split
  · exact ⟨rfl, rfl, .inl rfl, id, id⟩
  · next on => exact ⟨rfl, rfl, .inl rfl, id, sound_of_on on rfl rfl rfl⟩

/-- The part without its queue of commands, its command unit and the pin of nIRQ. -/
def bare (s : State) : State :=
  { s with command := .reset, irqPin := true, pending := [], fresh := 0 }

theorem period_acts (s : State) : ∃ t, Acts s t ∧ bare s.period = bare t := by
  have clocked : Acts s (s.modClock fun c => c.period.1) := (Acts.refl s).modClock id
  have engine (k : Line) (u : State) : Moves k u (u.modLine k fun e => (e.period k).1) :=
    Moves.modLine (.refl u) _ (steady_period _ k)
  exact ⟨_, clocked.modLines (f := fun l e => (e.period l).1) engine, rfl⟩

/-- What holds after device reset, is kept by every act, and speaks of nothing but the bare part is kept by every step. -/
theorem step_keeps {P : State → Prop} (blind : ∀ s, P (bare s) ↔ P s) (reset : P State.reset)
    (act : ∀ s t, Act s t → P s → P t) {s t : State} (h : P s) (taken : step s = .next t) : P t := by
  have same {u v : State} (is : bare u = bare v) (hu : P u) : P v := (blind v).mp (is ▸ (blind u).mpr hu)
  have acts {u v : State} (chain : Acts u v) (hu : P u) : P v := by
    induction chain with
    | refl => exact hu
    | tail _ last ih => exact act _ _ last ih
  have row (c : Instr) {u v : State} (hu : P u) (answer : exec c u = .next v) : P v := by
    by_cases device : c = .deviceReset
    · subst device
      cases answer
      exact same (by rfl) reset
    · obtain ⟨k, w, answers, chain, -⟩ := exec_acts device u
      rw [answers] at answer
      cases answer
      exact same (by rfl) (acts chain (same (by rfl) hu))
  unfold step at taken
  split at taken
  · exact row _ (same (by rfl) h) taken
  · split at taken
    · exact row _ h taken
    · cases taken
      obtain ⟨u, chain, is⟩ := period_acts s
      exact same is.symm (acts chain h)

/-! ### What acts leave alone -/

/-- What turns of a line leave alone. -/
structure Kept (s t : State) : Prop where
  clock : t.clock = s.clock
  command : t.command = s.command
  opened : t.opened = s.opened
  pending : t.pending = s.pending

theorem kept_untouched {s t : State} (h : Untouched s t) : Kept s t := ⟨h.clock, h.command, h.opened, h.pending⟩

theorem kept_setLine {s t : State} (h : Kept s t) (l : Line) (e : LineEngine) : Kept s (t.setLine l e) := by
  obtain ⟨clock, command, opened, pending⟩ := h
  exact ⟨by simpa using clock, by simpa using command, by simpa using opened, by simpa using pending⟩

theorem kept_move {l : Line} {s t : State} (h : Move l s t) : Kept s t := by
  have still : Kept s s := ⟨rfl, rfl, rfl, rfl⟩
  cases h with
  | engine => exact kept_setLine still l _
  | told | drops | written | noted => exact ⟨rfl, rfl, rfl, rfl⟩
  | freed => exact kept_untouched (.freeAssembling (.refl s) l)
  | claimed => exact kept_untouched (.claimAssembly (.refl s) ..)
  | handed => exact kept_untouched (.handOver (.refl s) ..)
  | started => exact kept_untouched (.startRequest (.refl s) ..)
  | @closed i o n b =>
    rw [State.modCtl_eq]
    exact kept_setLine (kept_untouched (.complete (.refl s) i o n b)) l _
  | @putBack i n =>
    obtain ⟨clock, command, opened, pending⟩ := kept_untouched (.putBack (.refl (s.modCtl l Controller.toIdle)) i n)
    exact ⟨by simpa using clock, by simpa using command, by simpa using opened, by simpa using pending⟩

theorem kept_turn {l : Line} {s t : State} (h : Turn l s t) : Kept s t := by
  cases h with
  | move h => exact kept_move h
  | rested => exact kept_setLine (kept_untouched (.freeAssembling (.refl s) l)) l _

theorem kept_placeRequest (s : State) (r : Request) : Kept s (s.placeRequest r) := by
  unfold State.placeRequest State.claimPayload
  dsimp only
  refine kept_setLine ?_ _ _
  split
  · split <;> exact ⟨rfl, rfl, rfl, rfl⟩
  · exact ⟨rfl, rfl, rfl, rfl⟩

/-- The command code and the queue of commands are no engine's. -/
structure Aside (s t : State) : Prop where
  code : t.command.code = s.command.code
  pending : t.pending = s.pending

theorem aside_kept {s t : State} (h : Kept s t) : Aside s t := ⟨congrArg _ h.command, h.pending⟩

theorem aside_act {s t : State} (h : Act s t) : Aside s t := by
  cases h with
  | turn l turn => exact aside_kept (kept_turn turn)
  | aside bus code => exact ⟨code, rfl⟩
  | staged | clocked | hosted | enabled | retired | opened | reset => exact ⟨rfl, rfl⟩
  | placed => exact aside_kept (kept_placeRequest s _)
  | dismissed o => exact aside_kept (kept_untouched (.completeQueued (.refl s) _ o))
  | dismissedAll l w o => exact aside_kept (kept_untouched (.completeAll (.refl s) l w o))
  | released =>
    unfold State.releaseHead
    split <;> exact ⟨rfl, rfl⟩

theorem Acts.aside {s t : State} (h : Acts s t) : Aside s t := by
  induction h with
  | refl => exact ⟨rfl, rfl⟩
  | tail _ last ih => exact ⟨(aside_act last).code.trans ih.code, (aside_act last).pending.trans ih.pending⟩

/-- Settles O2: every row answers a chain of acts, none of which moves the queue of commands. -/
theorem everyCommandAnswers : Obligations.EveryCommandAnswers := by
  have answers (c : Instr) (s : State) : ∃ t, exec c s = .next t ∧ t.pending = s.pending := by
    by_cases device : c = .deviceReset
    · subst device
      exact ⟨_, rfl, rfl⟩
    · obtain ⟨k, t, answer, acts, -⟩ := exec_acts device s
      exact ⟨t.driveIrq, answer, acts.aside.pending⟩
  unfold Obligations.EveryCommandAnswers
  refine ⟨answers, fun s => ?_⟩
  unfold step
  split
  · exact (answers _ _).imp fun _ h => h.1
  · split
    · exact (answers _ _).imp fun _ h => h.1
    · exact ⟨_, rfl⟩

/-- Settles O28: a write to CMD by whether the unit is BUSY. -/
theorem cmdOverrunKeepsCommand : Obligations.CmdOverrunKeepsCommand := by
  have busyRow {s : State} {c : Instr} {code : Byte} (writes : cmdCode c = some code) (busy : s.command.busy ≠ none) :
      exec c s = .next (s.raise .cmdOverrun).driveIrq := by
    rw [exec_of_cmdCode s writes, writeCmd_of_busy busy]
    rfl
  unfold Obligations.CmdOverrunKeepsCommand
  refine ⟨fun s c code writes busy => ?_, fun s t c code writes busy answer => ?_, fun s l v waits => ?_,
    fun s t c code writes idle answer => ?_⟩
  · rw [busyRow writes busy, raise_cmdOverrun]
  · rw [busyRow writes busy] at answer
    cases answer
    rfl
  · have writable : s.writable := by simp [waits]
    exact ⟨exec_registerWrite_of_writable writable (by decide) v, exec_registerWrite_of_writable writable (by decide) v⟩
  · have other : c ≠ .deviceReset := by
      rintro rfl
      cases writes
    obtain ⟨k, u, answers, acts, -, stored⟩ := exec_acts other s
    rw [answers] at answer
    cases answer
    exact acts.aside.code.trans (stored code writes idle)

/-- Settles O8: a clock unit that is sound stays so in each act that moves it, and no other act does. -/
theorem clockStaysSound : Obligations.ClockStaysSound := by
  unfold Obligations.ClockStaysSound
  intro s t sound taken
  refine step_keeps (P := fun s => s.clock.Sound) (fun _ => Iff.rfl) ?reset ?act sound taken
  case reset => exact ⟨by rintro ⟨⟩, by rintro (⟨⟨⟩⟩ | ⟨⟨⟩⟩), fun _ => rfl⟩
  case act =>
    intro s t act sound
    have same (h : Kept s t) : t.clock.Sound := h.clock ▸ sound
    cases act with
    | clocked h => exact h sound
    | turn l turn => exact same (kept_turn turn)
    | aside | staged | hosted | enabled | retired | opened | reset => exact sound
    | placed => exact same (kept_placeRequest s _)
    | dismissed o => exact same (kept_untouched (.completeQueued (.refl s) _ o))
    | dismissedAll l w o => exact same (kept_untouched (.completeAll (.refl s) l w o))
    | released =>
      unfold State.releaseHead
      split <;> exact sound

end Sys2Proof.Proofs.Work

/-! The invariants that every step keeps, each by what one act does to it. -/

namespace Sys2Proof.Proofs.Invariants

open Sys2Proof Sys2Proof.Machine Sys2Proof.Proofs.Work Sys2Proof.Proofs.DropTable Sys2Proof.Proofs.ErrorSummary

/-! ### Addresses (R30) -/

/-- No record is enabled anew, or moved while enabled. -/
def MildAll (s t : State) : Prop :=
  ∀ d, Mild (s.drop d) (t.drop d)

theorem mildAll_of_drops {s t : State} (same : t.drops = s.drops) : MildAll s t := fun d => by
  have drop : t.drop d = s.drop d := by unfold State.drop; rw [same]
  exact drop ▸ .refl _

theorem mildAll_turn {l : Line} {s t : State} (h : Turn l s t) : MildAll s t := by
  cases h with
  | move move =>
    cases move with
    | drops h => exact h
    | _ => exact mildAll_of_drops (by simp)
  | rested => exact mildAll_of_drops (by simp)

/-- Every act but DROP_ENABLE is mild on the drop table. -/
theorem mildAll_act {s t : State} (h : Act s t) : MildAll s t ∨ ∃ d, s.judgeEnable d = none ∧ t = s.modDrop d Drop.enable := by
  cases h with
  | turn l turn => exact .inl (mildAll_turn turn)
  | @enabled d judged => exact .inr ⟨d, judged, rfl⟩
  | _ => exact .inl (mildAll_of_drops (by simp [State.clearRequests, State.freeAllBuffers]))

theorem addressesUnique_of_mild {s t : State} (h : s.AddressesUnique) (mild : MildAll s t) : t.AddressesUnique := by
  refine ⟨fun d e other on on' => ?_, fun d on => ?_⟩
  · obtain ⟨was, address, line⟩ := mild d on
    obtain ⟨was', address', line'⟩ := mild e on'
    rw [address, address', line, line']
    exact h.1 d e other was was'
  · obtain ⟨was, address, -⟩ := mild d on
    rw [address]
    exact h.2 d was

/-- The checks of DROP_ENABLE keep addresses unique and in range (R30). -/
theorem addressesUnique_enable {s : State} {d : DropIx} (h : s.AddressesUnique) (judged : s.judgeEnable d = none) :
    (s.modDrop d Drop.enable).AddressesUnique := by
  have alone (e : DropIx) (on : (s.drop e).enabled = true) (line : (s.drop e).line = (s.drop d).line) :
      (s.drop e).address ≠ (s.drop d).address := fun address => by
    unfold State.judgeEnable at judged
    split_ifs at judged with _ _ _ twice
    exact twice (Rows.duplicate_iff.mpr ⟨e, Rows.enabled_iff.mp on, line, address⟩)
  have range : 1 ≤ (s.drop d).address.toNat ∧ (s.drop d).address.toNat ≤ 126 := by
    unfold State.judgeEnable at judged
    split_ifs at judged with _ _ bad
    rw [not_or] at bad
    have low : (s.drop d).address.toNat ≠ 0 := fun zero => bad.1 (BitVec.eq_of_toNat_eq zero)
    have high : (s.drop d).address.toNat ≠ 127 := fun full => bad.2 (BitVec.eq_of_toNat_eq full)
    have bound := (s.drop d).address.isLt
    omega
  refine ⟨fun a b other => ?_, fun a => ?_⟩
  · rw [State.modDrop_drop, State.modDrop_drop]
    split
    · next same =>
      subst same
      rw [if_neg other.symm]
      exact fun _ on line address => alone b on line.symm address.symm
    · split
      · next same =>
        subst same
        exact fun on _ line address => alone a on line address
      · exact h.1 a b other
  · rw [State.modDrop_drop]
    split
    · exact fun _ => range
    · exact h.2 a

/-- Settles O6: only DROP_ENABLE can enable a record, and its checks are those of R30. -/
theorem addressesStayUnique : Obligations.AddressesStayUnique := by
  unfold Obligations.AddressesStayUnique
  intro s t unique taken
  refine step_keeps (P := State.AddressesUnique) (fun _ => Iff.rfl) ?reset (fun s t act unique => ?act) unique taken
  case reset =>
    have off (d : DropIx) : (State.reset.drop d).enabled = true → False := by
      rw [drop_reset]
      rintro ⟨⟩
    exact ⟨fun d _ _ on => (off d on).elim, fun d on => (off d on).elim⟩
  case act =>
    obtain mild | ⟨d, judged, rfl⟩ := mildAll_act act
    · exact addressesUnique_of_mild unique mild
    · exact addressesUnique_enable unique judged

/-! ### The event unit (R158 to R166) -/

/-- Records and causes that reach an event unit one after another. -/
def Tells (u v : EventUnit) : Prop :=
  Relation.ReflTransGen Told u v

theorem tells_of_eq {u v : EventUnit} (same : v = u) : Tells u v := same ▸ Relation.ReflTransGen.refl

theorem tells_complete (s : State) (t : Tag) (o : TxnOutcome) (n : Nat) (b : Bool) : Tells s.events (s.complete t o n b).events := by
  have same : ((s.modSlot t fun x =>
      { x with state := .done, outcome := o, abortPending := false, replyLength := n, replyStored := b }).freeHeld t).events =
      s.events := by
    rw [State.freeHeld_eq]
    rfl
  exact .single (by rw [← same]; exact .posted _ _)

theorem tells_completeQueued (s : State) (t : Tag) (o : TxnOutcome) : Tells s.events (s.completeQueued t o).events := by
  have told := tells_complete (s.unqueue t) t o 0 false
  rwa [State.unqueue, State.modLine_events] at told

theorem tells_completeAll (s : State) (l : Line) (w : Slot → Bool) (o : TxnOutcome) :
    Tells s.events (s.completeAll l w o).events := by
  unfold State.completeAll
  generalize List.filter _ _ = tags
  induction tags generalizing s with
  | nil => exact .refl
  | cons t rest ih => exact (tells_completeQueued s t o).trans (ih _)

theorem freeAssembling_events (s : State) (l : Line) : (s.freeAssembling l).events = s.events := by
  rw [State.freeAssembling_eq]

theorem tells_claimAssembly (s : State) (l : Line) (n : Nat) (m : StoreMode) : Tells s.events (s.claimAssembly l n m).1.events := by
  unfold State.claimAssembly
  dsimp only
  rw [← freeAssembling_events s l]
  split
  · exact .refl
  · refine .single ?_
    simp only [State.countReplyLost, State.modCounters_eq, State.modLine_events]
    exact .raised _ _

theorem handOver_events (s : State) (l : Line) (o : Origin) (g : Option Tag) (d : DropIx) (a x : Bool) :
    (s.handOver l o g d a x).events = s.events := by
  unfold State.handOver State.storeReady
  split
  · rfl
  · dsimp only
    split <;> simp [State.freeAt]

theorem startRequest_events (s : State) (l : Line) (t : Tag) : (s.startRequest l t).events = s.events := by
  obtain ⟨retry, x, -, start⟩ := startRequest_eq s l t
  rw [start]
  simp [State.enterGuard, State.unqueue]

theorem putBack_events (s : State) (t : Tag) (n : Nat) : (s.putBack t n).events = s.events := by
  simp [State.putBack]

theorem tells_turn {l : Line} {s t : State} (h : Turn l s t) : Tells s.events t.events := by
  cases h with
  | move move =>
    cases move with
    | told h => exact .single h
    | engine => exact tells_of_eq (by simp)
    | drops | written | noted => exact .refl
    | freed => exact tells_of_eq (freeAssembling_events s l)
    | claimed => exact tells_claimAssembly ..
    | handed => exact tells_of_eq (handOver_events ..)
    | started => exact tells_of_eq (startRequest_events ..)
    | closed o n b =>
      rw [State.modCtl_eq, State.modLine_events]
      exact tells_complete ..
    | putBack => exact tells_of_eq (by rw [putBack_events, State.modCtl_eq, State.modLine_events])
  | rested => exact tells_of_eq (by rw [State.setLine_events, freeAssembling_events])

/-- The event unit is told of an act, or the host reaches it. -/
theorem events_act {s t : State} (h : Act s t) : Tells s.events t.events ∨ Hosted s.events t.events := by
  cases h with
  | turn l turn => exact .inl (tells_turn turn)
  | hosted h => exact .inr h
  | aside | staged | clocked | enabled | retired | opened | reset => exact .inl .refl
  | placed =>
    refine .inl (tells_of_eq ?_)
    unfold State.placeRequest State.claimPayload
    simp only [State.modLine_events]
    split_ifs <;> (try split) <;> rfl
  | dismissed o => exact .inl (tells_completeQueued s _ o)
  | dismissedAll l w o => exact .inl (tells_completeAll s l w o)
  | released =>
    refine .inl (tells_of_eq ?_)
    unfold State.releaseHead
    split <;> rfl

/-- What every telling and every access of the host keeps is kept by every step. -/
theorem events_keep {P : EventUnit → Prop} (reset : P .reset) (told : ∀ u v, Told u v → P u → P v)
    (hosted : ∀ u v, Hosted u v → P u → P v) {s t : State} (h : P s.events) (taken : step s = .next t) : P t.events := by
  refine step_keeps (P := fun s => P s.events) (fun _ => Iff.rfl) reset (fun s t act h => ?_) h taken
  obtain tells | host := events_act act
  · generalize t.events = v at tells
    induction tells with
    | refl => exact h
    | tail _ last ih => exact told _ _ last ih
  · exact hosted _ _ host h

theorem bounded_raise {u : EventUnit} (h : u.Bounded) (b : SummaryBit) : (u.raise b).Bounded := by
  unfold EventUnit.raise
  split <;> exact h

theorem bounded_told (u v : EventUnit) (told : Told u v) (h : u.Bounded) : v.Bounded := by
  cases told with
  | raised b => exact bounded_raise h b
  | posted r =>
    obtain ⟨length, age, lost, empty, rest⟩ := h
    unfold EventUnit.post
    split_ifs with masked room first
    · exact ⟨length, age, lost, empty, rest⟩
    · refine ⟨?_, Nat.zero_le _, lost, fun none => absurd none (by simp), rest⟩
      rw [List.length_append]
      exact room
    · refine ⟨?_, age, lost, fun none => absurd none (by simp), rest⟩
      rw [List.length_append]
      exact room
    · exact bounded_raise (u := { u with lost := min 255 (u.lost + 1) }) ⟨length, age, min_le_left .., empty, rest⟩ _

theorem bounded_hosted (u v : EventUnit) (host : Hosted u v) (h : u.Bounded) : v.Bounded := by
  obtain ⟨length, age, lost, empty, low, high, limit, mask, enables⟩ := h
  cases host with
  | popped now =>
    unfold EventUnit.pop
    split
    · exact ⟨length, age, lost, empty, low, high, limit, mask, enables⟩
    · exact ⟨Nat.zero_le _, Nat.zero_le _, lost, fun _ => rfl, low, high, limit, mask, enables⟩
    · next _ r rest queue =>
      rw [queue] at length
      exact ⟨Nat.le_of_succ_le length, min_le_left .., lost, (by rintro ⟨⟩), low, high, limit, mask, enables⟩
  | masked x =>
    refine ⟨length, age, lost, empty, low, high, limit, ?_, enables⟩
    dsimp only
    rw [BitVec.and_assoc]
    exact BitVec.and_zero
  | threshold x =>
    rw [Rows.setThreshold_eq]
    split
    · next range => exact ⟨length, age, lost, empty, range.1, range.2, limit, mask, enables⟩
    · exact ⟨length, age, lost, empty, low, high, limit, mask, enables⟩
  | ageLimit x => exact ⟨length, age, lost, empty, low, high, Nat.le_of_lt_succ x.isLt, mask, enables⟩
  | enables x =>
    refine ⟨length, age, lost, empty, low, high, limit, mask, ?_⟩
    dsimp only
    rw [BitVec.and_assoc]
    exact BitVec.and_zero
  | cleared x =>
    refine ⟨length, age, ?_, empty, low, high, limit, mask, enables⟩
    unfold EventUnit.clearSummary
    dsimp only
    split
    · exact Nat.zero_le _
    · exact lost
  | read => exact ⟨length, age, lost, empty, low, high, limit, mask, enables⟩
  | ticked =>
    unfold EventUnit.tick
    split
    · exact ⟨length, age, lost, empty, low, high, limit, mask, enables⟩
    · next queued =>
      exact ⟨length, min_le_left .., lost, fun none => absurd none (by simpa using queued), low, high, limit, mask, enables⟩
  | reset => exact ⟨Nat.zero_le _, Nat.zero_le _, Nat.zero_le _, fun _ => rfl, low, high, limit, mask, enables⟩

/-- A set of bits lies within another, bit by bit. -/
theorem within_iff {x y : Byte} : x &&& ~~~ y = 0 ↔ ∀ k, x.getLsbD k = true → y.getLsbD k = true := by
  constructor
  · intro h k xk
    have bit : (x &&& ~~~ y).getLsbD k = false := by rw [h]; exact BitVec.getLsbD_zero
    have lt : k < 8 := BitVec.lt_of_getLsbD xk
    simpa [xk, lt] using bit
  · intro h
    refine BitVec.eq_of_getLsbD_eq fun k lt => ?_
    rw [BitVec.getLsbD_and, BitVec.getLsbD_not]
    cases xk : x.getLsbD k with
    | false => simp
    | true => simp [h k xk]

/-- An occurrence keeps the sets in their order; what it makes of the losses is its caller's. -/
theorem sound_raise {u : EventUnit} (b : SummaryBit) (snapshot : u.snapshot &&& ~~~ u.summary = 0)
    (renewed : u.renewed &&& ~~~ u.summary = 0) (lost : u.lost ≠ 0 → (u.raise b).summary.getLsbD 0 = true) :
    (u.raise b).SummarySound := by
  have counted : (u.raise b).lost = u.lost := by unfold EventUnit.raise; split <;> rfl
  refine ⟨?_, ?_, counted ▸ lost⟩ <;> rw [within_iff] at snapshot renewed ⊢ <;> unfold EventUnit.raise
  · intro k held
    rw [← EventUnit.raise, raise_snapshot] at held
    split
    · exact snapshot k held
    · rw [BitVec.getLsbD_or, snapshot k held, Bool.true_or]
  · intro k
    split
    · next isSet =>
      intro marked
      have lt : k < 8 := BitVec.lt_of_getLsbD marked
      rw [BitVec.getLsbD_or, Bool.or_eq_true, getLsbD_mask b lt, decide_eq_true_eq] at marked
      obtain was | rfl := marked
      · exact renewed k was
      · exact isSet
    · intro marked
      rw [BitVec.getLsbD_or, renewed k marked, Bool.true_or]

/-- A bit once set stays set at an occurrence. -/
theorem raise_keeps {u : EventUnit} (b : SummaryBit) {k : Nat} (shown : u.summary.getLsbD k = true) :
    (u.raise b).summary.getLsbD k = true := by
  unfold EventUnit.raise
  split
  · exact shown
  · rw [BitVec.getLsbD_or, shown, Bool.true_or]

theorem sound_told (u v : EventUnit) (told : Told u v) (h : u.SummarySound) : v.SummarySound := by
  obtain ⟨snapshot, renewed, lost⟩ := h
  cases told with
  | raised b => exact sound_raise b snapshot renewed fun some => raise_keeps b (lost some)
  | posted r =>
    unfold EventUnit.post
    split_ifs
    · exact ⟨snapshot, renewed, lost⟩
    iterate 2 exact ⟨snapshot, renewed, lost⟩
    · exact sound_raise (u := { u with lost := min 255 (u.lost + 1) }) .eventLost snapshot renewed
        fun _ => raise_summary_index { u with lost := min 255 (u.lost + 1) } .eventLost

theorem sound_hosted (u v : EventUnit) (host : Hosted u v) (h : u.SummarySound) : v.SummarySound := by
  cases host with
  | popped now =>
    unfold EventUnit.pop
    split <;> exact h
  | masked | ageLimit | enables => exact h
  | threshold x =>
    rw [Rows.setThreshold_eq]
    split <;> exact h
  | ticked =>
    unfold EventUnit.tick
    split <;> exact h
  | read => exact ⟨within_iff.mpr fun _ => id, within_iff.mpr fun k none => absurd none (by simp [EventUnit.readSummary]), h.2.2⟩
  | reset => exact ⟨BitVec.zero_and, BitVec.zero_and, fun some => absurd rfl some⟩
  | cleared mask =>
    obtain ⟨snapshot, renewed, lost⟩ := h
    rw [within_iff] at snapshot renewed
    have spare {k : Nat} (lt : k < 8) (not : (u.clearable mask).getLsbD k = false) := clearSummary_of_not_clearable lt not
    refine ⟨within_iff.mpr fun k held => ?_, within_iff.mpr fun k marked => ?_, fun some => ?_⟩
    · have lt : k < 8 := BitVec.lt_of_getLsbD held
      cases clears : (u.clearable mask).getLsbD k with
      | true => rw [(clearSummary_of_clearable lt clears).2] at held; cases held
      | false =>
        rw [(spare lt clears).2] at held
        rw [(spare lt clears).1, snapshot k held]
    · have lt : k < 8 := BitVec.lt_of_getLsbD marked
      change u.renewed.getLsbD k = true at marked
      have clears : (u.clearable mask).getLsbD k = false := Bool.eq_false_iff.mpr fun clears => by
        rw [((getLsbD_clearable lt).mp clears).2.2] at marked
        cases marked
      rw [(spare lt clears).1, renewed k marked]
    · rw [clearSummary_lost] at some
      split at some
      · exact absurd rfl some
      · next not => simpa [lost some] using not

/-- Settles O7: each telling and each access of the host keeps the bounds and the sets. -/
theorem eventUnitStaysSound : Obligations.EventUnitStaysSound := by
  unfold Obligations.EventUnitStaysSound
  refine ⟨fun s t => events_keep (P := EventUnit.Bounded) ?bounded bounded_told bounded_hosted,
    fun s t => events_keep (P := EventUnit.SummarySound) ?sound sound_told sound_hosted⟩
  case bounded => unfold EventUnit.Bounded; decide
  case sound => unfold EventUnit.SummarySound; decide

/-! ### Roles (R137, R66, R130, R67) -/

/-- What agrees with a role is read from these parts of an engine. -/
theorem roleSound_of_same {e e' : LineEngine} (role : e'.role = e.role) (silence : e'.silence = e.silence)
    (state : e'.ctl.state = e.ctl.state) (cycle : e'.cycle = e.cycle) (reader : e'.reader = e.reader) (rx : e'.rx = e.rx)
    (tx : e'.tx = e.tx) (h : e.RoleSound) : e'.RoleSound := by
  unfold LineEngine.RoleSound
  rw [role, silence, state, cycle, reader, rx, tx]
  exact h

theorem roleSound_move {l : Line} {s t : State} (h : Move l s t) (sound : ∀ k, (s.line k).RoleSound) (k : Line) :
    (t.line k).RoleSound := by
  have still := sound k
  cases h with
  | engine h =>
    rw [State.setLine_line]
    split
    · exact h.sound (sound l)
    · exact still
  | told | drops => exact still
  | freed => rwa [freeAssembling_line]
  | written | noted => simpa using still
  | claimed n m =>
    obtain ⟨c, engine⟩ := claimAssembly_line s l k n m
    rw [engine]
    split
    · exact sound l
    · exact still
  | handed o g d a x =>
    obtain ⟨c, engine⟩ := handOver_line s l k o g d a x
    rw [engine]
    split
    · exact sound l
    · exact still
  | @started i master queued =>
    obtain ⟨u, n, c, engine⟩ := startRequest_line s l k i
    rw [engine]
    by_cases same : k = l
    · subst same
      exact sound_of_running (running_of_master master) rfl rfl still
    · rw [if_neg same]
      exact still
  | closed o n b =>
    rw [State.modCtl_eq, State.modLine_line, complete_line]
    split
    · exact ⟨(sound l).1, fun _ => rfl, (sound l).2.2⟩
    · rwa [complete_line]
  | @putBack i n =>
    obtain ⟨u, v, engine⟩ := putBack_line (s.modCtl l Controller.toIdle) k i n
    rw [engine]
    refine roleSound_of_same (e := (s.modCtl l Controller.toIdle).line k) rfl rfl rfl rfl rfl rfl rfl ?_
    rw [State.modCtl_eq, State.modLine_line]
    split
    · exact ⟨(sound l).1, fun _ => rfl, (sound l).2.2⟩
    · exact still

theorem completeQueued_line (s : State) (t : Tag) (o : TxnOutcome) (k : Line) :
    ∃ u n, (s.completeQueued t o).line k = { s.line k with urgent := u, normal := n } := by
  unfold State.completeQueued State.unqueue
  rw [complete_line]
  exact modQueue_line ..

theorem claimPayload_eq (s : State) (t : Tag) (n : Nat) : s.claimPayload t n = { s with buffers := (s.claimPayload t n).buffers } := by
  unfold State.claimPayload
  split <;> rfl

/-- An accepted SUBMIT moves the sequence counter, one slot, one queue and perhaps buffers (R93). -/
theorem placeRequest_eq (s : State) (r : Request) : s.placeRequest r =
    ({ s.setSlot r.tag (r.slot (s.sequence + 1)) with
      sequence := s.sequence + 1, buffers := (s.placeRequest r).buffers } : State).modLine r.line
        fun e => e.modQueue r.priority (· ++ [r.tag]) := by
  unfold State.placeRequest
  dsimp only
  rw [State.modLine_buffers]
  split
  · rw [claimPayload_eq]
    rfl
  · rfl

theorem placeRequest_line (s : State) (r : Request) (k : Line) :
    ∃ u n, (s.placeRequest r).line k = { s.line k with urgent := u, normal := n } := by
  rw [placeRequest_eq]
  exact modQueue_line ({ s.setSlot r.tag (r.slot (s.sequence + 1)) with
    sequence := s.sequence + 1, buffers := (s.placeRequest r).buffers }) k ..

theorem roleSound_act {s t : State} (h : Act s t) (sound : ∀ k, (s.line k).RoleSound) (k : Line) : (t.line k).RoleSound := by
  have still := sound k
  cases h with
  | turn l turn =>
    cases turn with
    | move move => exact roleSound_move move sound k
    | rested h =>
      rw [State.setLine_line, freeAssembling_line]
      split
      · exact h.sound (sound l)
      · exact still
  | aside | staged | clocked | hosted | opened => exact still
  | enabled | retired => simpa using still
  | placed =>
    obtain ⟨u, n, engine⟩ := placeRequest_line s _ k
    rw [engine]
    exact still
  | dismissed o =>
    obtain ⟨u, n, engine⟩ := completeQueued_line s _ o k
    rw [engine]
    exact still
  | dismissedAll l w o =>
    unfold State.completeAll
    generalize List.filter _ _ = tags
    induction tags generalizing s with
    | nil => exact still
    | cons t rest ih =>
      have next (j : Line) : ((s.completeQueued t o).line j).RoleSound := by
        obtain ⟨u, n, engine⟩ := completeQueued_line s t o j
        rw [engine]
        exact sound j
      exact ih (s := s.completeQueued t o) next (next k)
  | released =>
    unfold State.releaseHead
    split
    · exact still
    · exact still
  | reset =>
    cases k <;> exact ⟨fun _ => ⟨rfl, rfl⟩, fun _ => rfl, fun _ => ⟨rfl, rfl, rfl, rfl, rfl, rfl⟩⟩

/-- Settles O12: every act keeps each engine's agreement with its role. -/
theorem rolesStaySound : Obligations.RolesStaySound := by
  unfold Obligations.RolesStaySound
  intro s t sound taken
  refine step_keeps (P := fun s => ∀ k, (s.line k).RoleSound) (fun _ => Iff.rfl) ?reset
    (fun s t act sound => roleSound_act act sound) sound taken
  case reset =>
    rintro (_ | _) <;> exact ⟨fun _ => ⟨rfl, rfl⟩, fun _ => rfl, fun _ => ⟨rfl, rfl, rfl, rfl, rfl, rfl⟩⟩

end Sys2Proof.Proofs.Invariants

/-! The invariants of the buffers and of the queues, each by what one act does to it. -/

namespace Sys2Proof.Proofs.Places

open Sys2Proof Sys2Proof.Machine Sys2Proof.Proofs.Work Sys2Proof.Proofs.Invariants

@[simp] theorem buffer_withReady (s : State) (ready : List BufIx) (opened : Bool) (b : BufIx) :
    ({ s with ready, opened } : State).buffer b = s.buffer b := rfl

/-! ### The ready list (R109, R116, R117, R119 to R123) -/

/-- The ready list and the buffers whose place it is are the same. -/
structure SameReady (s t : State) : Prop where
  list : t.ready = s.ready
  opened : t.opened = s.opened
  place : ∀ b, (t.buffer b).place = .ready ↔ (s.buffer b).place = .ready

namespace SameReady

variable {s t : State}

theorem refl (s : State) : SameReady s s := ⟨rfl, rfl, fun _ => Iff.rfl⟩

theorem trans {u : State} (h : SameReady s t) (k : SameReady t u) : SameReady s u :=
  ⟨k.list.trans h.list, k.opened.trans h.opened, fun b => (k.place b).trans (h.place b)⟩

theorem of_buffers (list : t.ready = s.ready) (opened : t.opened = s.opened) (buffers : t.buffers = s.buffers) :
    SameReady s t := ⟨list, opened, fun b => by unfold State.buffer; rw [buffers]⟩

theorem modLine (s : State) (l : Line) (f : LineEngine → LineEngine) : SameReady s (s.modLine l f) :=
  of_buffers (by simp) (by simp) (by simp)

theorem modSlot (s : State) (t : Tag) (f : Slot → Slot) : SameReady s (s.modSlot t f) := of_buffers rfl rfl rfl

theorem raise (s : State) (b : SummaryBit) : SameReady s (s.raise b) := of_buffers rfl rfl rfl

theorem withFresh (s : State) (fresh : Nat) : SameReady s { s with fresh } := of_buffers rfl rfl rfl

/-- A buffer moved between places other than the ready list. -/
theorem modBuffer {b : BufIx} {f : Buffer → Buffer} (was : (s.buffer b).place ≠ .ready) (is : (f (s.buffer b)).place ≠ .ready) :
    SameReady s (s.modBuffer b f) := by
  refine ⟨rfl, rfl, fun i => ?_⟩
  rw [State.modBuffer_buffer]
  split
  · next same =>
    subst same
    exact iff_of_false is was
  · rfl

theorem agrees (h : SameReady s t) (agree : s.ReadyAgrees) : t.ReadyAgrees := by
  obtain ⟨once, members, head⟩ := agree
  exact ⟨h.list ▸ once, fun b => by rw [h.list, h.place]; exact members b, by rw [h.list, h.opened]; exact head⟩

theorem freeAssembling (s : State) (l : Line) : SameReady s (s.freeAssembling l) := by
  unfold State.freeAssembling
  split
  · next b found => exact .modBuffer (by rw [State.assembling_place found]; simp) (by simp)
  · exact .refl s

theorem freeHeld (s : State) (t : Tag) : SameReady s (s.freeHeld t) := by
  unfold State.freeHeld
  split
  · next b found => exact .modBuffer (by rw [State.heldBy_place found]; simp) (by simp)
  · exact .refl s

theorem complete (s : State) (t : Tag) (o : TxnOutcome) (n : Nat) (b : Bool) : SameReady s (s.complete t o n b) := by
  have told (u : State) (c e : Byte) : SameReady u
      (u.post .requestDone (some (u.slot t).line) (some (u.slot t).drop) (some t) c e) := of_buffers rfl rfl rfl
  unfold State.complete
  exact ((modSlot s t _).trans (freeHeld _ t)).trans (told ..)

theorem completeQueued (s : State) (t : Tag) (o : TxnOutcome) : SameReady s (s.completeQueued t o) :=
  (modLine ..).trans (complete (s.unqueue t) t o 0 false)

theorem completeAll (s : State) (l : Line) (w : Slot → Bool) (o : TxnOutcome) : SameReady s (s.completeAll l w o) := by
  unfold State.completeAll
  generalize List.filter _ _ = tags
  induction tags generalizing s with
  | nil => exact refl s
  | cons t rest ih => exact (completeQueued s t o).trans (ih _)

theorem claimAssembly (s : State) (l : Line) (n : Nat) (m : StoreMode) : SameReady s (s.claimAssembly l n m).1 := by
  refine (freeAssembling s l).trans ?_
  unfold State.claimAssembly
  dsimp only
  generalize s.freeAssembling l = s
  split
  · next b found =>
    dsimp only
    refine (withFresh s (s.fresh + 1)).trans (modBuffer ?_ ?_)
    · change (s.buffer b).place ≠ .ready
      rw [State.freeBuffer_place found]
      simp
    · simp
  · unfold State.countReplyLost
    rw [State.modCounters_eq]
    dsimp only
    exact (raise s .poolEmpty).trans (modLine ..)

theorem claimPayload (s : State) (t : Tag) (n : Nat) : SameReady s (s.claimPayload t n) := by
  unfold State.claimPayload
  split
  · next b found => exact modBuffer (by rw [State.freeBuffer_place found]; simp) (by simp)
  · exact refl s

theorem placeRequest (s : State) (r : Request) : SameReady s (s.placeRequest r) := by
  unfold State.placeRequest
  dsimp only
  refine .trans ?_ (modLine ..)
  have filled : SameReady s ({ s with sequence := s.sequence + 1 }.setSlot r.tag (r.slot (s.sequence + 1))) :=
    of_buffers rfl rfl rfl
  split
  · exact filled.trans (claimPayload ..)
  · exact filled

end SameReady

/-- A buffer joins the tail of the list, or takes the place of another in it, which is freed (R116, R117). -/
theorem storeReady_cases (s : State) (b : BufIx) : (s.storeReady b).opened = s.opened ∧
    (((s.storeReady b).ready = s.ready ++ [b] ∧
        ∀ i, ((s.storeReady b).buffer i).place = if i = b then .ready else (s.buffer i).place) ∨
      ∃ old ∈ s.ready, (s.storeReady b).ready = s.ready.map (fun i => if i = old then b else i) ∧
        ∀ i, ((s.storeReady b).buffer i).place =
          if i = old then .free else if i = b then .ready else (s.buffer i).place) := by
  unfold State.storeReady
  dsimp only
  split
  · next old _ found =>
    refine ⟨rfl, .inr ⟨old, ?_, rfl, fun i => ?_⟩⟩
    · have target := List.mem_of_getLast? found
      unfold State.replaceTargets at target
      have member := (List.mem_filter.mp target).1
      split at member
      · exact List.mem_of_mem_drop member
      · exact member
    · rw [buffer_withReady, State.freeAt, State.modBuffer_buffer]
      split
      · rfl
      · simp only [State.modBuffer_buffer]
        split <;> rfl
  all_goals
    refine ⟨rfl, .inl ⟨rfl, fun i => ?_⟩⟩
    rw [buffer_withReady, State.modBuffer_buffer]
    split <;> rfl

/-- A buffer that was not in the ready list joins it. -/
theorem readyAgrees_storeReady {s : State} {b : BufIx} (out : (s.buffer b).place ≠ .ready) (agree : s.ReadyAgrees) :
    (s.storeReady b).ReadyAgrees := by
  obtain ⟨once, members, head⟩ := agree
  have new : b ∉ s.ready := fun member => out ((members b).mp member)
  obtain ⟨opened, ⟨list, place⟩ | ⟨old, member, list, place⟩⟩ := storeReady_cases s b
  · refine ⟨?_, fun i => ?_, fun _ => by simp [list]⟩
    · rw [list]
      exact List.nodup_append'.mpr ⟨once, List.nodup_singleton b, by simpa using new⟩
    · rw [list, place, List.mem_append, List.mem_singleton, members]
      by_cases same : i = b <;> simp [same]
  · have foreign {i : BufIx} (inList : i ∈ s.ready) : i ≠ b := fun same => new (same ▸ inList)
    refine ⟨?_, fun i => ?_, fun on => by simpa [list] using head (opened ▸ on)⟩
    · rw [list]
      refine once.map_on fun i inList j inList' same => ?_
      split_ifs at same with io jo jo
      · exact io.trans jo.symm
      · exact absurd same.symm (foreign inList')
      · exact absurd same (foreign inList)
      · exact same
    · rw [list, place, List.mem_map]
      constructor
      · rintro ⟨j, inList, rfl⟩
        by_cases jo : j = old
        · simp [jo, (foreign member).symm]
        · simpa [jo, foreign inList] using (members j).mp inList
      · intro is
        split_ifs at is with io ib
        · exact ⟨old, member, by simp [ib]⟩
        · exact ⟨i, (members i).mpr is, if_neg io⟩

theorem readyAgrees_handOver {s : State} (l : Line) (o : Origin) (g : Option Tag) (d : DropIx) (a x : Bool)
    (agree : s.ReadyAgrees) : (s.handOver l o g d a x).ReadyAgrees := by
  unfold State.handOver
  split
  · exact agree
  · next b found =>
    have place := State.assembling_place found
    refine readyAgrees_storeReady ?_ (((SameReady.modBuffer ?_ ?_).trans (.modLine ..)).agrees agree)
    all_goals simp [place]

theorem sameReady_move {l : Line} {s t : State} (h : Move l s t) :
    SameReady s t ∨ ∃ o g d a x, t = s.handOver l o g d a x := by
  cases h with
  | engine => exact .inl (.of_buffers (by simp) (by simp) (by simp))
  | told | drops | noted => exact .inl (.of_buffers rfl rfl rfl)
  | freed => exact .inl (.freeAssembling ..)
  | claimed => exact .inl (.claimAssembly ..)
  | written b payload stamp =>
    refine .inl ⟨rfl, rfl, fun i => ?_⟩
    rw [State.setBuffer_buffer]
    split
    · next same => rw [same]
    · rfl
  | handed o g d a x => exact .inr ⟨o, g, d, a, x, rfl⟩
  | @started i =>
    obtain ⟨retry, x, -, start⟩ := startRequest_eq s l i
    refine .inl ?_
    rw [start]
    exact .of_buffers (by simp [State.enterGuard, State.unqueue]) (by simp [State.enterGuard, State.unqueue])
      (by simp [State.enterGuard, State.unqueue])
  | closed o n b =>
    rw [State.modCtl_eq]
    exact .inl ((SameReady.complete s _ o n b).trans (.modLine ..))
  | putBack =>
    exact .inl (.of_buffers (by simp [State.putBack]) (by simp [State.putBack]) (by simp [State.putBack]))

theorem readyAgrees_turn {l : Line} {s t : State} (h : Turn l s t) (agree : s.ReadyAgrees) : t.ReadyAgrees := by
  cases h with
  | move move =>
    obtain same | ⟨o, g, d, a, x, rfl⟩ := sameReady_move move
    · exact same.agrees agree
    · exact readyAgrees_handOver l o g d a x agree
  | rested => exact ((SameReady.freeAssembling s l).trans (.of_buffers (by simp) (by simp) (by simp))).agrees agree

theorem readyAgrees_releaseHead {s : State} (agree : s.ReadyAgrees) : s.releaseHead.ReadyAgrees := by
  unfold State.releaseHead
  split
  · exact agree
  · next b rest list =>
    obtain ⟨once, members, -⟩ := agree
    rw [list] at once
    simp only [list] at members
    refine ⟨once.of_cons, fun i => ?_, by rintro ⟨⟩⟩
    rw [buffer_withReady, State.freeAt, State.modBuffer_buffer]
    change i ∈ rest ↔ _
    split
    · next same => simpa [same] using (List.nodup_cons.mp once).1
    · next other => simpa [other] using members i

theorem readyAgrees_act {s t : State} (h : Act s t) (agree : s.ReadyAgrees) : t.ReadyAgrees := by
  cases h with
  | turn l turn => exact readyAgrees_turn turn agree
  | aside | staged | clocked | hosted | enabled | retired => exact agree
  | placed => exact (SameReady.placeRequest ..).agrees agree
  | dismissed o => exact (SameReady.completeQueued ..).agrees agree
  | dismissedAll l w o => exact (SameReady.completeAll ..).agrees agree
  | opened h => exact ⟨agree.1, agree.2.1, fun _ => h⟩
  | released => exact readyAgrees_releaseHead agree
  | reset =>
    refine ⟨List.nodup_nil, fun b => ?_, by rintro ⟨⟩⟩
    change b ∈ [] ↔ ((State.modBuffers _ _).buffer b).place = _
    simp

theorem readyAgrees_reset : State.reset.ReadyAgrees := by
  refine ⟨List.nodup_nil, fun b => ?_, by rintro ⟨⟩⟩
  simp [State.reset, State.buffer, Buffer.reset]

/-- Settles O9: the hand-over and the release move the list with the places, and no other act moves either. -/
theorem readyListStaysSound : Obligations.ReadyListStaysSound := by
  unfold Obligations.ReadyListStaysSound
  intro s t agree taken
  exact step_keeps (P := State.ReadyAgrees) (fun _ => Iff.rfl) readyAgrees_reset (fun _ _ => readyAgrees_act) agree taken


/-! ### Places (R54, R109, R111, R114) -/

/-- A slot that may hold a payload buffer: QUEUED or ACTIVE with a DATA request of 1 to 32 bytes (R96, R111). -/
def Holding (x : Slot) : Prop :=
  (x.state = .queued ∨ x.state = .active) ∧ x.kind = .data ∧ 1 ≤ x.length ∧ x.length ≤ 32

theorem buffersPlaced_iff {s : State} : s.BuffersPlaced ↔
    (∀ l b c, (s.buffer b).place = .assembling l → (s.buffer c).place = .assembling l → b = c) ∧
    (∀ l b, (s.line l).role = .off → (s.buffer b).place ≠ .assembling l) ∧
    ∀ t b, (s.buffer b).place = .held t → Holding (s.slot t) ∧ ∀ c, (s.buffer c).place = .held t → c = b := by
  unfold State.BuffersPlaced Holding
  simp only [and_assoc]

/-- No buffer comes to a line or a slot: places are left for the pool and the ready list only, a line that turns OFF assembles
nothing, and slots go on holding what they hold. -/
structure Thinner (s t : State) : Prop where
  place : ∀ b, (t.buffer b).place = (s.buffer b).place ∨ (t.buffer b).place = .free ∨ (t.buffer b).place = .ready
  role : ∀ l, (t.line l).role = .off → (s.line l).role = .off ∨ ∀ b, (t.buffer b).place ≠ .assembling l
  slot : ∀ g b, (t.buffer b).place = .held g → Holding (s.slot g) → Holding (t.slot g)

namespace Thinner

variable {s t : State}

/-- A buffer on a line or with a slot was there before. -/
theorem was (h : Thinner s t) {b : BufIx} {p : Place} (is : (t.buffer b).place = p) (notFree : p ≠ .free) (notReady : p ≠ .ready) :
    (s.buffer b).place = p := by
  obtain same | free | ready := h.place b
  · exact same ▸ is
  · exact absurd (is.symm.trans free) notFree
  · exact absurd (is.symm.trans ready) notReady

theorem placed (h : Thinner s t) (k : s.BuffersPlaced) : t.BuffersPlaced := by
  obtain ⟨one, off, held⟩ := buffersPlaced_iff.mp k
  refine buffersPlaced_iff.mpr ⟨fun l b c is is' => ?_, fun l b role is => ?_, fun g b is => ?_⟩
  · exact one l b c (h.was is (by simp) (by simp)) (h.was is' (by simp) (by simp))
  · obtain wasOff | none := h.role l role
    · exact off l b wasOff (h.was is (by simp) (by simp))
    · exact none b is
  · obtain ⟨holding, only⟩ := held g b (h.was is (by simp) (by simp))
    exact ⟨h.slot g b is holding, fun c is' => only c (h.was is' (by simp) (by simp))⟩

/-- Buffers as they were. -/
theorem of_buffers (buffers : t.buffers = s.buffers) (role : ∀ l, (t.line l).role = .off → (s.line l).role = .off)
    (slot : ∀ g, Holding (s.slot g) → Holding (t.slot g)) : Thinner s t :=
  ⟨fun b => .inl (by unfold State.buffer; rw [buffers]), fun l off => .inl (role l off), fun g _ _ => slot g⟩

/-- Buffers that are freed, all else as it was. -/
theorem of_freed (buffers : ∀ b, (t.buffer b).place = (s.buffer b).place ∨ (t.buffer b).place = .free ∨ (t.buffer b).place = .ready)
    (role : ∀ l, (t.line l).role = (s.line l).role) (slot : ∀ g, t.slot g = s.slot g) : Thinner s t :=
  ⟨buffers, fun l off => .inl (role l ▸ off), fun g _ _ holding => slot g ▸ holding⟩

theorem freeAssembling (s : State) (l : Line) : Thinner s (s.freeAssembling l) := by
  refine of_freed (fun b => ?_) (by simp) fun g => by rw [State.freeAssembling_eq]; rfl
  rw [State.freeAssembling_buffer]
  split <;> simp

end Thinner

/-- A line that assembled one buffer assembles none once it is returned. -/
theorem none_assembling {s : State} {l : Line} (k : s.BuffersPlaced) (b : BufIx) : ((s.freeAssembling l).buffer b).place ≠ .assembling l := by
  rw [State.freeAssembling_buffer]
  split
  · simp
  · next other =>
    intro is
    cases found : s.assembling l with
    | none => exact State.assembling_eq_none.mp found b is
    | some c => exact other (by rw [found, k.1 l b c is (State.assembling_place found)])

theorem none_held {s : State} {t : Tag} (only : ∀ b c, (s.buffer b).place = .held t → (s.buffer c).place = .held t → c = b) (b : BufIx) :
    ((s.freeHeld t).buffer b).place ≠ .held t := by
  rw [State.freeHeld_buffer]
  split
  · simp
  · next other =>
    intro is
    cases found : s.heldBy t with
    | none => exact State.heldBy_eq_none.mp found b is
    | some c => exact other (by rw [found, only b c is (State.heldBy_place found)])

theorem thinner_complete {s : State} (k : s.BuffersPlaced) (t : Tag) (o : TxnOutcome) (n : Nat) (b : Bool) :
    Thinner s (s.complete t o n b) := by
  let u := s.modSlot t fun x => { x with state := .done, outcome := o, abortPending := false, replyLength := n, replyStored := b }
  have buffer (i : BufIx) : (s.complete t o n b).buffer i = (u.freeHeld t).buffer i := rfl
  have none : ∀ i, ((u.freeHeld t).buffer i).place ≠ .held t :=
    none_held fun i j is is' => (k.2.2 t i is).2.2.2.2 j is'
  refine ⟨fun i => ?_, fun l off => .inl (by rwa [complete_line] at off), fun g i is holding => ?_⟩
  · rw [buffer, State.freeHeld_buffer]
    split
    · exact .inr (.inl rfl)
    · exact .inl rfl
  · have other : g ≠ t := by
      rintro rfl
      exact none i is
    have slot : (s.complete t o n b).slot g = u.slot g := by
      change (u.freeHeld t).slot g = _
      rw [State.freeHeld_eq]
      rfl
    rw [slot, State.modSlot_slot, if_neg other]
    exact holding

theorem placed_completeQueued {s : State} (k : s.BuffersPlaced) (t : Tag) (o : TxnOutcome) : (s.completeQueued t o).BuffersPlaced := by
  have unqueued : Thinner s (s.unqueue t) := by
    refine .of_buffers (by simp [State.unqueue]) (fun l off => ?_) fun g holding => by simpa [State.unqueue] using holding
    obtain ⟨u, n, engine⟩ := modQueue_line s l (s.slot t).line (s.slot t).priority (·.filter (· ≠ t))
    rw [State.unqueue, engine] at off
    exact off
  exact (thinner_complete (unqueued.placed k) ..).placed (unqueued.placed k)

theorem placed_completeAll {s : State} (k : s.BuffersPlaced) (l : Line) (w : Slot → Bool) (o : TxnOutcome) :
    (s.completeAll l w o).BuffersPlaced := by
  unfold State.completeAll
  generalize List.filter _ _ = tags
  induction tags generalizing s with
  | nil => exact k
  | cons t rest ih => exact ih (placed_completeQueued k t o)

/-- A buffer of the pool goes to a line that is not OFF and assembles none. -/
theorem placed_assembling {s : State} (k : s.BuffersPlaced) {l : Line} (on : (s.line l).role ≠ .off)
    (none : ∀ b, (s.buffer b).place ≠ .assembling l) {b : BufIx} {f : Buffer → Buffer} (place : ∀ x, (f x).place = .assembling l) :
    (s.modBuffer b f).BuffersPlaced := by
  obtain ⟨one, off, held⟩ := buffersPlaced_iff.mp k
  have places (i : BufIx) : ((s.modBuffer b f).buffer i).place = if i = b then .assembling l else (s.buffer i).place := by
    rw [State.modBuffer_buffer]
    split
    · exact place _
    · rfl
  refine buffersPlaced_iff.mpr ⟨fun m i j is is' => ?_, fun m i role is => ?_, fun g i is => ?_⟩
  · rw [places] at is is'
    split at is <;> split at is'
    · next ib jb => exact ib.trans jb.symm
    · cases is; exact absurd is' (none j)
    · cases is'; exact absurd is (none i)
    · exact one m i j is is'
  · rw [places] at is
    rw [State.modBuffer_line] at role
    split at is
    · cases is; exact on role
    · exact off m i role is
  · have was {i : BufIx} (is : ((s.modBuffer b f).buffer i).place = .held g) : (s.buffer i).place = .held g := by
      rw [places] at is
      split at is
      · cases is
      · exact is
    exact ⟨(held g i (was is)).1, fun j is' => (held g i (was is)).2 j (was is')⟩

/-- A buffer of the pool goes to a slot that may hold one and holds none. -/
theorem placed_held {s : State} (k : s.BuffersPlaced) {t : Tag} (holding : Holding (s.slot t))
    (none : ∀ b, (s.buffer b).place ≠ .held t) {b : BufIx} {f : Buffer → Buffer} (place : ∀ x, (f x).place = .held t) :
    (s.modBuffer b f).BuffersPlaced := by
  obtain ⟨one, off, held⟩ := buffersPlaced_iff.mp k
  have places (i : BufIx) : ((s.modBuffer b f).buffer i).place = if i = b then .held t else (s.buffer i).place := by
    rw [State.modBuffer_buffer]
    split
    · exact place _
    · rfl
  have was {i : BufIx} {m : Line} (is : ((s.modBuffer b f).buffer i).place = .assembling m) : (s.buffer i).place = .assembling m := by
    rw [places] at is
    split at is
    · cases is
    · exact is
  refine buffersPlaced_iff.mpr ⟨fun m i j is is' => one m i j (was is) (was is'), fun m i role is => ?_, fun g i is => ?_⟩
  · exact off m i (by rwa [State.modBuffer_line] at role) (was is)
  · rw [places] at is
    split at is
    · next ib =>
      cases is
      refine ⟨holding, fun j is' => ?_⟩
      rw [places] at is'
      split at is'
      · next jb => exact jb.trans ib.symm
      · exact absurd is' (none j)
    · obtain ⟨holds, only⟩ := held g i is
      refine ⟨holds, fun j is' => ?_⟩
      rw [places] at is'
      split at is'
      · cases is'; exact absurd is (none i)
      · exact only j is'

theorem placed_claimAssembly {s : State} (k : s.BuffersPlaced) {l : Line} (on : (s.line l).role ≠ .off) (n : Nat) (m : StoreMode) :
    (s.claimAssembly l n m).1.BuffersPlaced := by
  have freed := (Thinner.freeAssembling s l).placed k
  have none := none_assembling (l := l) k
  rw [← freeAssembling_line s l l] at on
  unfold State.claimAssembly
  dsimp only
  generalize s.freeAssembling l = s at freed none on
  split
  · exact placed_assembling (s := { s with fresh := s.fresh + 1 }) freed on none fun _ => rfl
  · unfold State.countReplyLost
    rw [State.modCounters_eq]
    have counted : Thinner s ((s.raise .poolEmpty).modLine l fun e =>
        { e with counters := { e.counters with repliesLost := satInc e.counters.repliesLost } }) := by
      refine .of_buffers (by rw [State.modLine_buffers]; rfl) (fun j off => ?_) fun g holding => by rwa [State.modLine_slot]
      rw [State.modLine_line] at off
      split at off
      · next same => rw [same]; simpa using off
      · simpa using off
    exact counted.placed freed

/-- What SUBMIT's checks grant (R92): a FREE slot, and a length that fits its kind. -/
theorem of_judgeSubmit {s : State} {r : Request} (judged : s.judgeSubmit = .ok r) :
    (s.slot r.tag).state = .free ∧ lengthFits r.kind r.length = true ∧ r.line = (s.drop r.drop).line := by
  unfold State.judgeSubmit at judged
  dsimp only at judged
  split at judged
  · split at judged
    · cases judged
    · next fits =>
      split at judged
      · cases judged
      · split at judged
        · cases judged
        · split at judged
          · cases judged
          · split at judged
            · cases judged
            · next tag found =>
              split at judged
              · cases judged
              · cases judged
                exact ⟨by simpa using List.find?_some found, by simpa using fits, rfl⟩
  · cases judged

theorem placed_placeRequest {s : State} (k : s.BuffersPlaced) {r : Request} (judged : s.judgeSubmit = .ok r) :
    (s.placeRequest r).BuffersPlaced := by
  obtain ⟨free, fits, -⟩ := of_judgeSubmit judged
  let u := { s with sequence := s.sequence + 1 }.setSlot r.tag (r.slot (s.sequence + 1))
  have filled : u.BuffersPlaced := by
    refine Thinner.placed (s := s) (.of_buffers rfl (fun l off => ?_) fun g holding => ?_) k
    · cases l <;> exact off
    rw [State.setSlot_slot]
    split
    · next same =>
      subst same
      obtain ⟨queued | active, -⟩ := holding
      · exact absurd (free.symm.trans queued) (by decide)
      · exact absurd (free.symm.trans active) (by decide)
    · exact holding
  have none (b : BufIx) : (u.buffer b).place ≠ .held r.tag := fun is => by
    obtain ⟨queued | active, -⟩ := k.2.2 r.tag b is
    · exact absurd (free.symm.trans queued) (by decide)
    · exact absurd (free.symm.trans active) (by decide)
  have claimed : (if needsBuffer r.kind r.length then u.claimPayload r.tag r.length else u).BuffersPlaced := by
    split
    · next needs =>
      unfold State.claimPayload
      split
      · refine placed_held filled ?_ none fun _ => rfl
        have data : r.kind = .data ∧ r.length ≠ 0 := by simpa [needsBuffer] using needs
        have short : r.length ≤ 32 := by simpa [lengthFits, data.1] using fits
        rw [State.setSlot_slot, if_pos rfl]
        exact ⟨.inl rfl, data.1, Nat.pos_of_ne_zero data.2, short⟩
      · exact filled
    · exact filled
  unfold State.placeRequest
  refine Thinner.placed (.of_buffers ?_ (fun l off => ?_) fun g holding => ?_) claimed
  · rw [State.modLine_buffers]
  · obtain ⟨x, y, engine⟩ := modQueue_line _ l r.line r.priority (· ++ [r.tag])
    rw [engine] at off
    exact off
  · rwa [State.modLine_slot]

theorem thinner_storeReady (s : State) (b : BufIx) : Thinner s (s.storeReady b) := by
  obtain ⟨-, ⟨-, place⟩ | ⟨old, -, -, place⟩⟩ := storeReady_cases s b
  all_goals
    refine .of_freed (fun i => ?_) (by simp) fun g => by
      unfold State.storeReady State.freeAt
      dsimp only
      split <;> rfl
    rw [place]
    split_ifs <;> simp

theorem placed_handOver {s : State} (k : s.BuffersPlaced) (l : Line) (o : Origin) (g : Option Tag) (d : DropIx) (a x : Bool) :
    (s.handOver l o g d a x).BuffersPlaced := by
  unfold State.handOver
  split
  · exact k
  · dsimp only
    refine (thinner_storeReady _ _).placed (Thinner.placed (s := s) (.of_freed (fun i => .inl ?_) (fun m => ?_) fun i => ?_) k)
    · rw [State.modLine_buffer, State.modBuffer_buffer]
      split
      · next same => rw [same]
      · rfl
    · rw [State.modLine_line]
      split
      · next same => rw [same, State.modBuffer_line]
      · rw [State.modBuffer_line]
    · rw [State.modLine_slot]
      rfl

theorem placed_move {l : Line} {s t : State} (h : Move l s t) (k : s.BuffersPlaced) : t.BuffersPlaced := by
  cases h with
  | engine h =>
    refine Thinner.placed (s := s) (.of_buffers (by simp) (fun m off => ?_) fun g holding => by simpa using holding) k
    rw [State.setLine_line] at off
    split at off
    · next same => exact same ▸ h.off off
    · exact off
  | told | drops => exact k
  | freed => exact (Thinner.freeAssembling s l).placed k
  | claimed n m on => exact placed_claimAssembly k on n m
  | written b payload stamp =>
    refine Thinner.placed (s := s) (.of_freed (fun i => .inl ?_) (by simp) (by simp)) k
    rw [State.setBuffer_buffer]
    split
    · next same => rw [same]
    · rfl
  | handed o g d a x => exact placed_handOver k l o g d a x
  | @started i =>
    refine Thinner.placed (s := s) (.of_buffers ?_ (fun m off => ?_) fun g holding => ?_) k
    · simp [State.startRequest, State.enterGuard, State.unqueue]
    · obtain ⟨u, n, c, engine⟩ := startRequest_line s l m i
      rw [engine] at off
      exact off
    · obtain ⟨retry, x, -, start⟩ := startRequest_eq s l i
      rw [start]
      simp only [State.enterGuard, State.modLine_slot, State.modSlot_slot, State.unqueue]
      split
      · next same =>
        subst same
        exact ⟨.inr rfl, holding.2⟩
      · exact holding
  | @closed i o n b =>
    rw [State.modCtl_eq]
    refine Thinner.placed (.of_buffers ?_ (fun m off => ?_) fun g holding => ?_) ((thinner_complete k i o n b).placed k)
    · rw [State.modLine_buffers]
    · rw [State.modLine_line] at off
      split at off
      · next same => exact same ▸ off
      · exact off
    · rwa [State.modLine_slot]
  | @putBack i n =>
    refine Thinner.placed (s := s) (.of_buffers ?_ (fun m off => ?_) fun g holding => ?_) k
    · simp [State.putBack]
    · obtain ⟨u, n, engine⟩ := putBack_line (s.modCtl l Controller.toIdle) m i n
      rw [engine, State.modCtl_eq, State.modLine_line] at off
      split at off
      · next same => exact same ▸ off
      · exact off
    · simp only [State.putBack, State.modLine_slot, State.modSlot_slot, State.modCtl_eq]
      split
      · next same =>
        subst same
        exact ⟨.inl rfl, holding.2⟩
      · exact holding
  | noted i attempts o abort =>
    refine Thinner.placed (s := s) (.of_buffers rfl (fun m off => by simpa using off) fun g holding => ?_) k
    rw [State.setSlot_slot]
    split
    · next same => exact same ▸ holding
    · exact holding

theorem placed_act {s t : State} (h : Act s t) (k : s.BuffersPlaced) : t.BuffersPlaced := by
  cases h with
  | turn l turn =>
    cases turn with
    | move move => exact placed_move move k
    | rested h =>
      have freed := (Thinner.freeAssembling s l).placed k
      refine (⟨fun b => .inl (by simp), fun m off => ?_, fun g b _ holding => by simpa using holding⟩ :
        Thinner (s.freeAssembling l) _).placed freed
      by_cases same : m = l
      · exact .inr fun b => by
          rw [same, State.setLine_buffer]
          exact none_assembling k b
      · rw [State.setLine_line, if_neg same] at off
        exact .inl off
  | aside | staged | clocked | hosted | enabled | opened => exact k
  | placed judged => exact placed_placeRequest k judged
  | @retired i done =>
    refine Thinner.placed (s := s) (.of_buffers rfl (fun m off => by simpa using off) fun g holding => ?_) k
    rw [State.modSlot_slot]
    split
    · next same =>
      subst same
      obtain ⟨queued | active, -⟩ := holding
      · exact absurd (done.symm.trans queued) (by decide)
      · exact absurd (done.symm.trans active) (by decide)
    · exact holding
  | dismissed o => exact placed_completeQueued k _ o
  | dismissedAll l w o => exact placed_completeAll k l w o
  | released =>
    unfold State.releaseHead
    split
    · exact k
    · refine Thinner.placed (s := s) (.of_freed (fun i => ?_) (fun l => ?_) fun g => rfl) k
      · rw [buffer_withReady, State.freeAt, State.modBuffer_buffer]
        split <;> simp
      · cases l <;> rfl
  | reset =>
    have free (b : BufIx) :
        (((s.modLines fun _ e => e.softReset).clearRequests.freeAllBuffers).buffer b).place = .free := by
      unfold State.freeAllBuffers
      rw [buffer_withReady, State.modBuffers_buffer]
    exact ⟨fun l b c is => by simp [free] at is, fun l b _ => by simp [free], fun g b is => by simp [free] at is⟩

theorem placed_reset : State.reset.BuffersPlaced := by
  have free (b : BufIx) : (State.reset.buffer b).place = .free := by simp [State.reset, State.buffer, Buffer.reset]
  exact ⟨fun l b c is => by simp [free] at is, fun l b _ => by simp [free], fun g b is => by simp [free] at is⟩

/-- Settles O10: only a claim brings a buffer to a line or a slot, and only one that may have it. -/
theorem buffersStayPlaced : Obligations.BuffersStayPlaced := by
  unfold Obligations.BuffersStayPlaced
  intro s t placed taken
  exact step_keeps (P := State.BuffersPlaced) (fun _ => Iff.rfl) placed_reset (fun _ _ => placed_act) placed taken

end Sys2Proof.Proofs.Places

/-! The queues and the slots: what each act does to them, and that a row of a line leaves the other line's engine alone. -/

namespace Sys2Proof.Proofs.Queues

open Sys2Proof Sys2Proof.Machine Sys2Proof.Proofs.Work Sys2Proof.Proofs.Invariants Sys2Proof.Proofs.Places

/-! ### The queues of a line by priority (R96) -/

section

variable (s : State) (l k : Line) (p q : Priority)

@[simp] theorem queueOf_modQueue (e : LineEngine) (f : List Tag → List Tag) :
    (e.modQueue p f).queueOf q = if q = p then f (e.queueOf p) else e.queueOf q := by cases p <;> cases q <;> rfl

theorem queueOf_modLine (f : List Tag → List Tag) : ((s.modLine k fun e => e.modQueue p f).line l).queueOf q =
    if l = k ∧ q = p then f ((s.line k).queueOf p) else (s.line l).queueOf q := by
  rw [State.modLine_line]
  by_cases same : l = k
  · subst same
    simp
  · simp [same]

/-- A queue depends on the engine's queues alone. -/
theorem queueOf_congr {e e' : LineEngine} (urgent : e'.urgent = e.urgent) (normal : e'.normal = e.normal) (p : Priority) :
    e'.queueOf p = e.queueOf p := by
  cases p
  · exact normal
  · exact urgent

theorem txnTag_congr {s t : State} {l : Line} (h : (t.line l).ctl.txn = (s.line l).ctl.txn) : t.txnTag l = s.txnTag l := by
  rw [txnTag_eq, txnTag_eq, h]

end

/-- Completion moves one slot: DONE, with its outcome and reply fields (R98, R99). -/
theorem complete_slot (s : State) (g : Tag) (o : TxnOutcome) (n : Nat) (b : Bool) (i : Tag) : (s.complete g o n b).slot i =
    if i = g then
      { s.slot g with state := .done, outcome := o, abortPending := false, replyLength := n, replyStored := b }
    else s.slot i := by
  unfold State.complete
  change (State.freeHeld _ g).slot i = _
  rw [State.freeHeld_eq]
  exact State.modSlot_slot s g i fun x =>
    { x with state := .done, outcome := o, abortPending := false, replyLength := n, replyStored := b }

theorem completeQueued_slot (s : State) (g : Tag) (o : TxnOutcome) (i : Tag) : (s.completeQueued g o).slot i =
    if i = g then
      { s.slot g with state := .done, outcome := o, abortPending := false, replyLength := 0, replyStored := false }
    else s.slot i := by
  unfold State.completeQueued State.unqueue
  rw [complete_slot, State.modLine_slot, State.modLine_slot]

theorem enterGuard_queue (s : State) (l : Line) (x : Txn) (m : Line) (p : Priority) :
    ((s.enterGuard l x).line m).queueOf p = (s.line m).queueOf p := by
  unfold State.enterGuard
  rw [State.modLine_line]
  split
  · next same =>
    subst same
    cases p <;> rfl
  · rfl

theorem enterGuard_txnTag (s : State) (l : Line) (x : Txn) (m : Line) :
    (s.enterGuard l x).txnTag m = if m = l then x.request else s.txnTag m := by
  rw [txnTag_eq, txnTag_eq]
  unfold State.enterGuard
  rw [State.modLine_line]
  split <;> rfl

/-- The start of a request moves one slot: ACTIVE, with the retry limit it captured (R97). -/
theorem startRequest_slot (s : State) (l : Line) (g : Tag) (i : Tag) : ∃ retry, (s.startRequest l g).slot i =
    if i = g then { s.slot g with state := .active, retry } else s.slot i := by
  obtain ⟨retry, x, -, start⟩ := startRequest_eq s l g
  refine ⟨retry, ?_⟩
  rw [start]
  simp [State.enterGuard, State.unqueue]

/-- The start of a request moves the queues by its tag alone. -/
theorem startRequest_queue (s : State) (l : Line) (g : Tag) (m : Line) (p : Priority) :
    ((s.startRequest l g).line m).queueOf p = ((s.unqueue g).line m).queueOf p := by
  obtain ⟨retry, x, -, start⟩ := startRequest_eq s l g
  rw [start, enterGuard_queue, State.modSlot_line]

theorem startRequest_txnTag (s : State) (l : Line) (g : Tag) (m : Line) :
    (s.startRequest l g).txnTag m = if m = l then some g else s.txnTag m := by
  obtain ⟨retry, x, source, start⟩ := startRequest_eq s l g
  rw [start, enterGuard_txnTag]
  have carried : x.request = some g := by rw [Txn.request, source]
  have before : (State.modSlot (s.unqueue g) g fun y => { y with state := .active, retry }).txnTag m = s.txnTag m := by
    obtain ⟨u, n, engine⟩ := modQueue_line s m (s.slot g).line (s.slot g).priority (·.filter (· ≠ g))
    refine txnTag_congr ?_
    rw [State.modSlot_line, State.unqueue, engine]
  rw [carried, before]

/-- Claims and hand-overs leave the slots alone. -/
theorem claimAssembly_slot (s : State) (l : Line) (n : Nat) (m : StoreMode) (g : Tag) :
    (s.claimAssembly l n m).1.slot g = s.slot g := by
  unfold State.claimAssembly
  rw [State.freeAssembling_eq]
  dsimp only
  split
  · rfl
  · simp only [State.countReplyLost, State.modCounters_eq, State.modLine_slot]
    rfl

theorem handOver_slot (s : State) (l : Line) (o : Origin) (t : Option Tag) (d : DropIx) (a x : Bool) (g : Tag) :
    (s.handOver l o t d a x).slot g = s.slot g := by
  have stored (u : State) (b : BufIx) : (u.storeReady b).slot g = u.slot g := by
    unfold State.storeReady State.freeAt
    dsimp only
    split <;> rfl
  unfold State.handOver
  split
  · rfl
  · dsimp only
    rw [stored, State.modLine_slot]
    rfl

/-! ### Agreement (R95, R96) -/

/-- The queues and what slots say of them are the same, and a request in hand stays in hand or leaves it. -/
structure SameQueues (s t : State) : Prop where
  queue : ∀ l p, (t.line l).queueOf p = (s.line l).queueOf p
  slot : ∀ g, (t.slot g).state = (s.slot g).state ∧ (t.slot g).line = (s.slot g).line ∧ (t.slot g).priority = (s.slot g).priority
  txn : ∀ l, t.txnTag l = s.txnTag l ∨ t.txnTag l = none

theorem SameQueues.agree {s t : State} (h : SameQueues s t) (k : s.QueuesAgree) : t.QueuesAgree := by
  refine ⟨fun l p => ?_, fun l g inHand => ?_⟩
  · rw [h.queue]
    refine ⟨(k.1 l p).1, fun g => ?_⟩
    obtain ⟨state, line, priority⟩ := h.slot g
    rw [state, line, priority]
    exact (k.1 l p).2 g
  · obtain ⟨state, line, -⟩ := h.slot g
    rw [state, line]
    obtain same | none := h.txn l
    · exact k.2 l g (same ▸ inHand)
    · exact absurd (none.symm.trans inHand) (by simp)

/-- Nothing of the queues, the slots and the controllers moves. -/
theorem SameQueues.of_same {s t : State} (lines : ∀ l, ∃ e : LineEngine, t.line l = e ∧ e.urgent = (s.line l).urgent ∧
    e.normal = (s.line l).normal ∧ e.ctl.txn = (s.line l).ctl.txn) (slots : ∀ g, t.slot g = s.slot g) : SameQueues s t := by
  refine ⟨fun l p => ?_, fun g => by rw [slots]; exact ⟨rfl, rfl, rfl⟩, fun l => .inl ?_⟩
  all_goals obtain ⟨e, line, urgent, normal, txn⟩ := lines l
  · rw [line]
    exact queueOf_congr urgent normal p
  · exact txnTag_congr (line ▸ txn)

/-- One slot moves: the others stay where they are, it stands where it says, and it is in hand only where it says. -/
theorem agree_of_moved {s t : State} (k : s.QueuesAgree) (g : Tag) (others : ∀ i, i ≠ g → t.slot i = s.slot i)
    (once : ∀ l p, ((t.line l).queueOf p).Nodup)
    (rest : ∀ l p i, i ≠ g → (i ∈ (t.line l).queueOf p ↔ i ∈ (s.line l).queueOf p))
    (own : ∀ l p, g ∈ (t.line l).queueOf p ↔
      (t.slot g).state = .queued ∧ (t.slot g).line = l ∧ (t.slot g).priority = p)
    (txn : ∀ l i, t.txnTag l = some i →
      (i ≠ g ∧ s.txnTag l = some i) ∨ (i = g ∧ (t.slot g).state = .active ∧ (t.slot g).line = l)) : t.QueuesAgree := by
  refine ⟨fun l p => ⟨once l p, fun i => ?_⟩, fun l i inHand => ?_⟩
  · by_cases same : i = g
    · rw [same]
      exact own l p
    · rw [rest l p i same, others i same]
      exact (k.1 l p).2 i
  · obtain ⟨other, was⟩ | ⟨same, active⟩ := txn l i inHand
    · rw [others i other]
      exact k.2 l i was
    · rw [same]
      exact active

section

variable {s : State} (k : s.QueuesAgree)

include k

/-- A tag that stands in no queue stays out when queues are filtered. -/
theorem queueOf_unqueue (g : Tag) (l : Line) (p : Priority) :
    ((s.unqueue g).line l).queueOf p = ((s.line l).queueOf p).filter (· ≠ g) := by
  unfold State.unqueue
  rw [queueOf_modLine]
  split
  · next here => rw [here.1, here.2]
  · next elsewhere =>
    refine (List.filter_eq_self.mpr fun i inQueue => ?_).symm
    have other : i ≠ g := by
      rintro rfl
      obtain ⟨-, line, priority⟩ := ((k.1 l p).2 i).mp inQueue
      exact elsewhere ⟨line.symm, priority.symm⟩
    simpa using other

theorem not_queued {g : Tag} (state : (s.slot g).state ≠ .queued) (l : Line) (p : Priority) : g ∉ (s.line l).queueOf p :=
  fun inQueue => state (((k.1 l p).2 g).mp inQueue).1

/-- A queued request is over: it leaves its queue, DONE (R98). -/
theorem agree_completeQueued {g : Tag} (queued : (s.slot g).state = .queued) (o : TxnOutcome) : (s.completeQueued g o).QueuesAgree := by
  have line (l : Line) : (s.completeQueued g o).line l = (s.unqueue g).line l := by
    unfold State.completeQueued
    rw [complete_line]
  have same (l : Line) : (s.completeQueued g o).txnTag l = s.txnTag l := by
    obtain ⟨u, n, engine⟩ := completeQueued_line s g o l
    exact txnTag_congr (by rw [engine])
  refine agree_of_moved k g (fun i other => by rw [completeQueued_slot, if_neg other]) (fun l p => ?_) (fun l p i other => ?_) (fun l p => ?_)
    fun l i inHand => ?_
  · rw [line, queueOf_unqueue k]
    exact (k.1 l p).1.filter _
  · rw [line, queueOf_unqueue k]
    simp [other]
  · rw [line, queueOf_unqueue k, completeQueued_slot, if_pos rfl]
    simp
  · rw [same] at inHand
    refine .inl ⟨?_, inHand⟩
    rintro rfl
    exact absurd (queued.symm.trans (k.2 l i inHand).1) (by decide)

/-- Requests of one list that are queued are over one after another. -/
theorem agree_foldl {tags : List Tag} (once : tags.Nodup) (queued : ∀ g ∈ tags, (s.slot g).state = .queued) (o : TxnOutcome) :
    (tags.foldl (fun s g => s.completeQueued g o) s).QueuesAgree := by
  induction tags generalizing s with
  | nil => exact k
  | cons g rest ih =>
    obtain ⟨new, once⟩ := List.nodup_cons.mp once
    refine ih (agree_completeQueued k (queued g List.mem_cons_self) o) once fun i inRest => ?_
    have other : i ≠ g := by
      rintro rfl
      exact new inRest
    rw [completeQueued_slot, if_neg other]
    exact queued i (List.mem_cons_of_mem _ inRest)

/-- No tag stands twice in the queues of a line. -/
theorem nodup_queues (l : Line) : ((s.line l).urgent ++ (s.line l).normal).Nodup := by
  refine List.nodup_append'.mpr ⟨(k.1 l .urgent).1, (k.1 l .normal).1, fun g urgent normal => ?_⟩
  have isUrgent := ((k.1 l .urgent).2 g).mp urgent
  have isNormal := ((k.1 l .normal).2 g).mp normal
  exact absurd (isUrgent.2.2.symm.trans isNormal.2.2) (by decide)

/-- The tags in the queues of a line are its queued requests. -/
theorem mem_queues {l : Line} {g : Tag} :
    g ∈ (s.line l).urgent ++ (s.line l).normal ↔ (s.slot g).state = .queued ∧ (s.slot g).line = l := by
  rw [List.mem_append]
  constructor
  · rintro (urgent | normal)
    · have is := ((k.1 l .urgent).2 g).mp urgent
      exact ⟨is.1, is.2.1⟩
    · have is := ((k.1 l .normal).2 g).mp normal
      exact ⟨is.1, is.2.1⟩
  · rintro ⟨queued, line⟩
    cases priority : (s.slot g).priority with
    | urgent => exact .inl (((k.1 l .urgent).2 g).mpr ⟨queued, line, priority⟩)
    | normal => exact .inr (((k.1 l .normal).2 g).mpr ⟨queued, line, priority⟩)

theorem agree_completeAll (l : Line) (w : Slot → Bool) (o : TxnOutcome) : (s.completeAll l w o).QueuesAgree :=
  agree_foldl k ((nodup_queues k l).filter _) (fun _ inList => ((mem_queues k).mp (List.mem_filter.mp inList).1).1) o

/-- A queued request of a line is started there: it leaves its queue, ACTIVE (R97). -/
theorem agree_startRequest {l : Line} {g : Tag} (queued : g ∈ (s.line l).urgent ++ (s.line l).normal) :
    (s.startRequest l g).QueuesAgree := by
  obtain ⟨isQueued, isHere⟩ := (mem_queues k).mp queued
  have slot (i : Tag) := startRequest_slot s l g i
  refine agree_of_moved k g (fun i other => ?_) (fun m p => ?_) (fun m p i other => ?_) (fun m p => ?_) fun m i inHand => ?_
  · obtain ⟨retry, moved⟩ := slot i
    rw [moved, if_neg other]
  · rw [startRequest_queue, queueOf_unqueue k]
    exact (k.1 m p).1.filter _
  · rw [startRequest_queue, queueOf_unqueue k]
    simp [other]
  · obtain ⟨retry, moved⟩ := slot g
    rw [startRequest_queue, queueOf_unqueue k, moved, if_pos rfl]
    simp
  · rw [startRequest_txnTag] at inHand
    split at inHand
    · next here =>
      obtain rfl := Option.some.inj inHand
      obtain ⟨retry, moved⟩ := slot g
      rw [moved, if_pos rfl]
      exact .inr ⟨rfl, rfl, isHere.trans here.symm⟩
    · refine .inl ⟨?_, inHand⟩
      rintro rfl
      exact absurd (isQueued.symm.trans (k.2 m i inHand).1) (by decide)

end

/-- The controller of a line at IDLE has nothing in hand, and the queues stand (R59). -/
theorem idle_queue (s : State) (l m : Line) (p : Priority) :
    ((s.modLine l fun e => { e with ctl := e.ctl.toIdle }).line m).queueOf p = (s.line m).queueOf p := by
  rw [State.modLine_line]
  split
  · next same =>
    subst same
    cases p <;> rfl
  · rfl

theorem idle_txnTag (s : State) (l m : Line) :
    (s.modLine l fun e => { e with ctl := e.ctl.toIdle }).txnTag m = if m = l then none else s.txnTag m := by
  rw [txnTag_eq, txnTag_eq, State.modLine_line]
  split <;> rfl

section

variable {s : State} (k : s.QueuesAgree)

include k

/-- A request in hand is the one of its line alone. -/
theorem inHand_unique {l m : Line} {g : Tag} (inHand : s.txnTag l = some g) (there : s.txnTag m = some g) : m = l :=
  (k.2 m g there).2.symm.trans (k.2 l g inHand).2

/-- The request in hand is over: DONE (R59, R98). -/
theorem agree_closed {l : Line} {g : Tag} (inHand : s.txnTag l = some g) (o : TxnOutcome) (n : Nat) (b : Bool) :
    ((s.complete g o n b).modLine l fun e => { e with ctl := e.ctl.toIdle }).QueuesAgree := by
  have active := (k.2 l g inHand).1
  have out (m : Line) (p : Priority) : g ∉ (s.line m).queueOf p := not_queued k (by rw [active]; decide) m p
  refine agree_of_moved k g (fun i other => ?_) (fun m p => ?_) (fun m p i other => ?_) (fun m p => ?_) fun m i here => ?_
  · rw [State.modLine_slot, complete_slot, if_neg other]
  · rw [idle_queue, complete_line]
    exact (k.1 m p).1
  · rw [idle_queue, complete_line]
  · rw [idle_queue, complete_line, State.modLine_slot, complete_slot, if_pos rfl]
    simp [out]
  · rw [idle_txnTag] at here
    split at here
    · cases here
    · next elsewhere =>
      have was : s.txnTag m = some i := by rwa [txnTag_congr (s := s) (by rw [complete_line])] at here
      refine .inl ⟨?_, was⟩
      rintro rfl
      exact elsewhere (inHand_unique k inHand was)

/-- The request in hand is put back: QUEUED, at the front of its queue (R103). -/
theorem agree_putBack {l : Line} {g : Tag} (inHand : s.txnTag l = some g) (n : Nat) :
    ((s.modLine l fun e => { e with ctl := e.ctl.toIdle }).putBack g n).QueuesAgree := by
  obtain ⟨active, line⟩ := k.2 l g inHand
  have out (m : Line) (p : Priority) : g ∉ (s.line m).queueOf p := not_queued k (by rw [active]; decide) m p
  let u := s.modLine l fun e => { e with ctl := e.ctl.toIdle }
  have slot (i : Tag) : (u.putBack g n).slot i = if i = g then { s.slot g with state := .queued, lastLength := n } else s.slot i := by
    simp [u, State.putBack]
  have queue (m : Line) (p : Priority) : ((u.putBack g n).line m).queueOf p =
      if m = (s.slot g).line ∧ p = (s.slot g).priority then g :: (s.line m).queueOf p else (s.line m).queueOf p := by
    unfold State.putBack
    dsimp only
    rw [queueOf_modLine]
    simp only [State.modSlot_line, State.modSlot_slot, if_true, u, State.modLine_slot, idle_queue]
    split
    · next here => rw [here.1, here.2]
    · rfl
  refine agree_of_moved k g (fun i other => ?_) (fun m p => ?_) (fun m p i other => ?_) (fun m p => ?_) fun m i here => ?_
  · rw [slot, if_neg other]
  · rw [queue]
    split
    · exact List.nodup_cons.mpr ⟨out m p, (k.1 m p).1⟩
    · exact (k.1 m p).1
  · rw [queue]
    split
    · simp [other]
    · rfl
  · rw [queue, slot, if_pos rfl]
    split
    · next here => simp [here.1, here.2]
    · next elsewhere =>
      refine iff_of_false (out m p) fun is => elsewhere ?_
      exact ⟨is.2.1.symm, is.2.2.symm⟩
  · have was : u.txnTag m = some i := by
      obtain ⟨x, y, engine⟩ := putBack_line u m g n
      rwa [txnTag_congr (s := u) (by rw [engine])] at here
    rw [idle_txnTag] at was
    split at was
    · cases was
    · next elsewhere =>
      refine .inl ⟨?_, was⟩
      rintro rfl
      exact elsewhere (inHand_unique k inHand was)

/-- An accepted SUBMIT fills a FREE slot, and its tag joins the tail of its queue (R93). -/
theorem agree_placeRequest {r : Request} (judged : s.judgeSubmit = .ok r) : (s.placeRequest r).QueuesAgree := by
  obtain ⟨free, -, -⟩ := of_judgeSubmit judged
  have out (m : Line) (p : Priority) : r.tag ∉ (s.line m).queueOf p := not_queued k (by rw [free]; decide) m p
  have slot (i : Tag) : (s.placeRequest r).slot i = if i = r.tag then r.slot (s.sequence + 1) else s.slot i := by
    rw [placeRequest_eq, State.modLine_slot]
    exact State.setSlot_slot ..
  have queue (m : Line) (p : Priority) : ((s.placeRequest r).line m).queueOf p =
      if m = r.line ∧ p = r.priority then (s.line m).queueOf p ++ [r.tag] else (s.line m).queueOf p := by
    rw [placeRequest_eq, queueOf_modLine]
    split
    · next here =>
      rw [here.1, here.2]
      cases r.line <;> rfl
    · cases m <;> rfl
  refine agree_of_moved k r.tag (fun i other => ?_) (fun m p => ?_) (fun m p i other => ?_) (fun m p => ?_) fun m i here => ?_
  · rw [slot, if_neg other]
  · rw [queue]
    split
    · exact List.nodup_append'.mpr ⟨(k.1 m p).1, List.nodup_singleton _, by simpa using out m p⟩
    · exact (k.1 m p).1
  · rw [queue]
    split
    · simp [other]
    · rfl
  · rw [queue, slot, if_pos rfl]
    split
    · next here => simp [here.1, here.2, Request.slot]
    · next elsewhere =>
      refine iff_of_false (out m p) fun is => elsewhere ?_
      exact ⟨is.2.1.symm, is.2.2.symm⟩
  · have was : s.txnTag m = some i := by
      obtain ⟨x, y, engine⟩ := placeRequest_line s r m
      rwa [txnTag_congr (s := s) (by rw [engine])] at here
    refine .inl ⟨?_, was⟩
    rintro rfl
    exact absurd (free.symm.trans (k.2 m r.tag was).1) (by decide)

/-- RETIRE frees a DONE slot (R124). -/
theorem agree_retired {g : Tag} (done : (s.slot g).state = .done) :
    (s.modSlot g fun x => { x with state := .free }).QueuesAgree := by
  have out (m : Line) (p : Priority) : g ∉ (s.line m).queueOf p := not_queued k (by rw [done]; decide) m p
  refine agree_of_moved k g (fun i other => ?_) (fun m p => ?_) (fun m p i other => ?_) (fun m p => ?_) fun m i here => ?_
  · rw [State.modSlot_slot, if_neg other]
  · rw [State.modSlot_line]
    exact (k.1 m p).1
  · rw [State.modSlot_line]
  · rw [State.modSlot_line, State.modSlot_slot, if_pos rfl]
    simp [out]
  · have was : s.txnTag m = some i := by rwa [txnTag_congr (s := s) (by rw [State.modSlot_line])] at here
    refine .inl ⟨?_, was⟩
    rintro rfl
    exact absurd (done.symm.trans (k.2 m i was).1) (by decide)

end

/-- An engine that keeps its queues and has no new request in hand. -/
theorem sameQueues_setLine {s : State} {l : Line} {e : LineEngine} (urgent : e.urgent = (s.line l).urgent)
    (normal : e.normal = (s.line l).normal)
    (request : e.ctl.txn.bind Txn.request = (s.line l).ctl.txn.bind Txn.request ∨ e.ctl.txn.bind Txn.request = none) :
    SameQueues s (s.setLine l e) := by
  refine ⟨fun m p => ?_, fun g => by simp, fun m => ?_⟩
  · rw [State.setLine_line]
    split
    · next same => exact same ▸ queueOf_congr urgent normal p
    · rfl
  · rw [txnTag_eq, txnTag_eq, State.setLine_line]
    split
    · next same => exact same ▸ request
    · exact .inl rfl

theorem SameQueues.freeAssembling (s : State) (l : Line) : SameQueues s (s.freeAssembling l) :=
  .of_same (fun m => ⟨_, freeAssembling_line s l m, rfl, rfl, rfl⟩) fun g => by rw [State.freeAssembling_eq]; rfl

theorem agree_move {l : Line} {s t : State} (h : Move l s t) (k : s.QueuesAgree) : t.QueuesAgree := by
  cases h with
  | engine h => exact (sameQueues_setLine h.urgent h.normal h.request).agree k
  | told | drops => exact k
  | freed => exact (SameQueues.freeAssembling s l).agree k
  | claimed n m =>
    refine (SameQueues.of_same (fun j => ?_) (claimAssembly_slot s l n m)).agree k
    · obtain ⟨c, engine⟩ := claimAssembly_line s l j n m
      refine ⟨_, engine, ?_⟩
      split
      · next same => rw [same]; exact ⟨rfl, rfl, rfl⟩
      · exact ⟨rfl, rfl, rfl⟩
  | written => exact k
  | handed o g d a x =>
    refine (SameQueues.of_same (fun j => ?_) (handOver_slot s l o g d a x)).agree k
    · obtain ⟨c, engine⟩ := handOver_line s l j o g d a x
      refine ⟨_, engine, ?_⟩
      split
      · next same => rw [same]; exact ⟨rfl, rfl, rfl⟩
      · exact ⟨rfl, rfl, rfl⟩
  | started master queued => exact agree_startRequest k (List.mem_append.mpr queued)
  | closed o n b inHand => exact agree_closed k inHand o n b
  | putBack n inHand => exact agree_putBack k inHand n
  | noted g =>
    refine (⟨fun m p => by simp, fun i => ?_, fun m => .inl ?_⟩ : SameQueues s _).agree k
    · rw [State.setSlot_slot]
      split
      · next same => rw [same]; exact ⟨rfl, rfl, rfl⟩
      · exact ⟨rfl, rfl, rfl⟩
    · exact txnTag_congr (by simp)

theorem agree_turn {l : Line} {s t : State} (h : Turn l s t) (k : s.QueuesAgree) : t.QueuesAgree := by
  cases h with
  | move move => exact agree_move move k
  | rested h =>
    refine (sameQueues_setLine ?_ ?_ ?_).agree ((SameQueues.freeAssembling s l).agree k) <;> rw [freeAssembling_line]
    · exact h.urgent
    · exact h.normal
    · exact h.request

/-- Empty queues, FREE slots and nothing in hand agree (R90, R107). -/
theorem agree_of_empty {s : State} (queues : ∀ l p, (s.line l).queueOf p = []) (slots : ∀ g, (s.slot g).state = .free)
    (none : ∀ l, s.txnTag l = none) : s.QueuesAgree := by
  refine ⟨fun l p => ?_, fun l g inHand => ?_⟩
  · rw [queues]
    exact ⟨List.nodup_nil, fun g => by simp [slots]⟩
  · rw [none] at inHand
    cases inHand

theorem agree_act {s t : State} (h : Act s t) (k : s.QueuesAgree) : t.QueuesAgree := by
  cases h with
  | turn l turn => exact agree_turn turn k
  | aside | staged | clocked | hosted | enabled | opened => exact k
  | placed judged => exact agree_placeRequest k judged
  | retired done => exact agree_retired k done
  | dismissed o queued => exact agree_completeQueued k queued o
  | dismissedAll l w o => exact agree_completeAll k l w o
  | released =>
    unfold State.releaseHead
    split
    · exact k
    · exact k
  | reset =>
    refine agree_of_empty (fun l p => ?_) (fun g => ?_) fun l => ?_
    · cases l <;> cases p <;> rfl
    · change ((Vector.replicate 16 Slot.reset)[g.val]).state = _
      rw [Vector.getElem_replicate]
      rfl
    · cases l <;> rfl

theorem agree_reset : State.reset.QueuesAgree := by
  refine agree_of_empty (fun l p => ?_) (fun g => ?_) fun l => ?_
  · cases l <;> cases p <;> rfl
  · change ((Vector.replicate 16 Slot.reset)[g.val]).state = _
    rw [Vector.getElem_replicate]
    rfl
  · cases l <;> rfl

/-- Settles O11: a tag joins and leaves its queue as its slot becomes QUEUED or leaves that state, in every act. -/
theorem queuesStaySound : Obligations.QueuesStaySound := by
  unfold Obligations.QueuesStaySound
  intro s t agree taken
  exact step_keeps (P := State.QueuesAgree) (fun _ => Iff.rfl) agree_reset (fun _ _ => agree_act) agree taken

/-! ### One line beside the other -/

theorem line_otherLine (s : State) (l : Line) (e : LineEngine) : (s.setLine l e).line (otherLine l) = s.line (otherLine l) := by
  cases l <;> rfl

/-- A turn of a line leaves the other line's engine alone. -/
theorem turn_otherLine {l : Line} {s t : State} (h : Turn l s t) (k : s.QueuesAgree) :
    t.line (otherLine l) = s.line (otherLine l) := by
  have other : otherLine l ≠ l := by cases l <;> decide
  have beside (q : Line) (here : q = l) (u : State) (f : LineEngine → LineEngine) :
      (u.modLine q f).line (otherLine l) = u.line (otherLine l) := by
    rw [State.modLine_line, here, if_neg other]
  cases h with
  | rested => rw [State.setLine_line, if_neg other, freeAssembling_line]
  | move move =>
    cases move with
    | engine => rw [State.setLine_line, if_neg other]
    | told | drops => rfl
    | written | noted => simp
    | freed => rw [freeAssembling_line]
    | claimed n m =>
      obtain ⟨c, engine⟩ := claimAssembly_line s l (otherLine l) n m
      rw [engine, if_neg other]
    | handed o g d a x =>
      obtain ⟨c, engine⟩ := handOver_line s l (otherLine l) o g d a x
      rw [engine, if_neg other]
    | @started i master queued =>
      obtain ⟨-, here⟩ := (mem_queues k).mp (List.mem_append.mpr queued)
      obtain ⟨retry, x, -, start⟩ := startRequest_eq s l i
      rw [start, State.enterGuard, beside l rfl, State.modSlot_line, State.unqueue, beside _ here]
    | closed => rw [State.modCtl_eq, beside l rfl, complete_line]
    | @putBack i n inHand =>
      have here := (k.2 l i inHand).2
      unfold State.putBack
      dsimp only
      rw [State.modCtl_eq, State.modSlot_slot, if_pos rfl, State.modLine_slot, beside _ here, State.modSlot_line, beside l rfl]

/-- Settles O14: a row of a line is a chain of its turns, along which the queues go on agreeing. -/
theorem linesAreIndependent : Obligations.LinesAreIndependent := by
  unfold Obligations.LinesAreIndependent
  intro s t c l agree row answer
  obtain ⟨u, answers, turns⟩ := exec_turns row s
  rw [answers] at answer
  cases answer
  suffices kept : u.QueuesAgree ∧ u.line (otherLine l) = s.line (otherLine l) from (State.driveIrq_line ..).trans kept.2
  clear answers
  induction turns with
  | refl => exact ⟨agree, rfl⟩
  | tail _ last ih => exact ⟨agree_turn last ih.1, (turn_otherLine last ih.1).trans ih.2⟩

end Sys2Proof.Proofs.Queues

/-! The rows of the receiver, of the windows and of the silent times on a line, each by the engine it leaves. -/

namespace Sys2Proof.Proofs.LineRows

open Sys2Proof Sys2Proof.Machine Sys2Proof.Proofs.Rows Sys2Proof.Proofs.Work

/-! ### One engine written after another -/

section

variable (s : State) (l : Line) (e : LineEngine)

theorem modLine_eq (f : LineEngine → LineEngine) : s.modLine l f = s.setLine l (f (s.line l)) := rfl

theorem driveIrq_setLine : (s.setLine l e).driveIrq = { s.setLine l e with irqPin := (s.setLine l e).driveIrq.irqPin } := rfl

end

/-! ### The wait for a character that was being received (R51, R134) -/

section

variable {s : State} {l : Line}

theorem waitOver_eq (o : Observer) : waitOver o =
    if o.elapsed && o.call.isSome && !o.follow.inHand then
      { o with waiting := false, call := none, follow := .nothing, capture := .none }
    else { o with waiting := false } := by
  obtain ⟨call, lead, timer, window, elapsed, waiting, follow, capture⟩ := o
  cases elapsed <;> cases call <;> cases follow <;> rfl

variable {e : LineEngine}

theorem settleWait_timeout (deciding : e.ctl.deciding = true) (await : e.ctl.state = .await) :
    (s.setLine l e).settleWait l = (s.setLine l e).endAttempt l .timeout :=
  if_pos (by rw [line_setLine_self]; simp [deciding, await])

theorem settleWait_eq (noWait : e.ctl.deciding = false ∨ e.ctl.state ≠ .await) : (s.setLine l e).settleWait l =
    if e.observer.waiting then s.setLine l { e with observer := waitOver e.observer } else s.setLine l e := by
  have other : ¬ (decide (e.ctl.state = .await) && e.ctl.deciding) = true := by
    obtain off | elsewhere := noWait <;> simp [*]
  unfold State.settleWait
  rw [line_setLine_self]
  dsimp only
  rw [if_neg other]
  split
  · simp only [State.forgetCall, State.modObserver_eq, modLine_eq, line_setLine_self, setLine_setLine]
    rw [waitOver_eq]
    split <;> rfl
  · rfl

theorem settleWait_still (noWait : e.ctl.deciding = false ∨ e.ctl.state ≠ .await) (free : e.observer.waiting = false) :
    (s.setLine l e).settleWait l = s.setLine l e := by
  rw [settleWait_eq noWait, free]
  rfl

theorem settleWait_over (noWait : e.ctl.deciding = false ∨ e.ctl.state ≠ .await) (waits : e.observer.waiting = true) :
    (s.setLine l e).settleWait l = s.setLine l { e with observer := waitOver e.observer } := by
  rw [settleWait_eq noWait, if_pos waits]

end

/-! ### The receiver (R2, R3, R7) -/

section

variable {s : State} {l : Line}

theorem startBit_eq : s.startBit l = s.setLine l { s.line l with
    divisor := if (s.line l).reader.state = .hunt ∧ (s.line l).tx.enable = false then
        (s.line l).params.divisorFor s.clock.effective else (s.line l).divisor
    tx := (s.line l).tx.advance, stamping := (s.line l).stampAtSample
    rx := { state := .receiving, sampleNo := 1, samples := [], phase := 0, afterRelease := !(s.line l).tx.enable, idle := 0
            idleSamples := 0, stopTail := (s.line l).rx.stopTail - 1 } } := by
  unfold State.startBit State.reloadDivisor
  simp only [modLine_eq, line_setLine_self, State.setLine_clock, Bool.and_eq_true, decide_eq_true_eq, Bool.not_eq_true']
  split <;> simp only [line_setLine_self, setLine_setLine]

theorem onesAtEnd_eq (second : Bool) (v : Vote) : (⟨second, v⟩ : EdgeSamples).onesAtEnd =
    if v.s5 = false then 0 else if v.s4 = false then 1 else if v.s3 = false then 2 else if second = false then 3 else 4 := by
  simp only [EdgeSamples.onesAtEnd, Bool.not_eq_true']

/-- A line engine after a false start, before the wait for it is settled (R3, R7). -/
def missedStart (e : LineEngine) (second : Bool) (v : Vote) : LineEngine :=
  let ones := if v.s5 = false then 0 else if v.s4 = false then 1 else if v.s3 = false then 2 else if second = false then 3 else 4
  { e with counters := { e.counters with noise := satInc e.counters.noise }
           rx := { e.rx with state := .huntEdge, sampleNo := 0, samples := [], idle := 0
                             idleSamples := min ones (4 - e.rx.stopTail), stopTail := 0 }
           stamping := if 5 ≤ e.rx.sampleNo then e.stamping else none }

theorem falseStart_eq (second : Bool) (v : Vote) :
    s.falseStart l ⟨second, v⟩ = (s.setLine l (missedStart (s.line l) second v)).settleWait l := by
  unfold State.falseStart State.countNoise missedStart
  simp only [State.modCounters_eq, modLine_eq, line_setLine_self, setLine_setLine, onesAtEnd_eq]
  rfl

theorem advance_of_idle {x : Transmitter} (idle : x.sending = none) : x.advance = x := by
  unfold Transmitter.advance
  split
  · next sending => rw [idle] at sending; cases sending
  · rfl

theorem idleSample_eq (r : Receiver) (idle : r.idle = 0) : r.idleSample =
    if r.stopTail ≠ 0 then { r with idle := 0, stopTail := r.stopTail - 1 }
    else if r.idleSamples < 7 then { r with idle := 0, idleSamples := r.idleSamples + 1 }
    else { r with idle := 1, idleSamples := 0 } := by
  obtain ⟨state, sampleNo, samples, phase, afterRelease, idleCount, idleSamples, stopTail⟩ := r
  subst idle
  unfold Receiver.idleSample
  simp only [Nat.pos_iff_ne_zero, ne_eq]
  split
  · rfl
  · by_cases full : 7 ≤ idleSamples
    · rw [if_pos full, if_neg (by omega)]
      rfl
    · rw [if_neg full, if_pos (by omega)]

end

/-- Settles O44, row by row of the receiver. -/
theorem receiverRows : Obligations.ReceiverRows := by
  unfold Obligations.ReceiverRows
  intro s l on
  refine ⟨fun hunting => ?startBit, fun waiting => ?seenHigh, fun second vote receiving majority => ?falseStart⟩
  case startBit =>
    have row : exec (.startBit l) s = .next (s.startBit l).driveIrq := congrArg finish (if_pos (by simp [on, hunting]))
    refine ⟨_, row, ?_⟩
    rw [startBit_eq, State.driveIrq_line, line_setLine_self]
    exact ⟨by cases l <;> rfl, advance_of_idle⟩
  case seenHigh =>
    refine (congrArg finish (if_pos (by simp [on, waiting]))).trans ?_
    rw [modLine_eq]
    dsimp only
    rw [idleSample_eq { (s.line l).rx with state := .huntEdge, idle := 0 } rfl]
    rfl
  case falseStart =>
    have row : exec (.falseStart l ⟨second, vote⟩) s = .next (s.falseStart l ⟨second, vote⟩).driveIrq :=
      congrArg finish (if_pos (by simp [on, receiving, majority]))
    rw [row, falseStart_eq]
    exact ⟨fun deciding await => congrArg finish (settleWait_timeout deciding await),
      fun noWait => ⟨fun free => congrArg finish (settleWait_still noWait free),
        fun waits => congrArg finish (settleWait_over noWait waits)⟩⟩


/-! ### What the work of a line leaves of its engine -/

/-- A line engine without what the work selection and the end of a transaction move: the controller but for the reports kept during
SEND, the walk of the cycle, the schedule, the counts of skipped entries and lost replies, the queues. -/
def besideWork (e : LineEngine) : LineEngine :=
  { e with
    counters := { e.counters with skippedInvalid := 0, skippedOffline := 0 }
    ctl := { Controller.reset with kept := e.ctl.kept }
    cycle := { Cycle.reset with timer := e.cycle.timer, expiryDue := e.cycle.expiryDue }
    sched := .reset, urgent := [], normal := [] }

/-- `t` differs from `s` on a line only in what the line's work moves. -/
def OnlyWork (k : Line) (s t : State) : Prop :=
  besideWork (t.line k) = besideWork (s.line k)

namespace OnlyWork

variable {s t u : State} {k : Line}

theorem refl (s : State) : OnlyWork k s s := rfl

theorem trans (h : OnlyWork k s t) (j : OnlyWork k t u) : OnlyWork k s u := Eq.trans j h

theorem of_line (same : t.line k = s.line k) : OnlyWork k s t := congrArg besideWork same

theorem modLine (s : State) (l : Line) {f : LineEngine → LineEngine} (hf : ∀ e, besideWork (f e) = besideWork e) :
    OnlyWork k s (s.modLine l f) := by
  unfold OnlyWork
  rw [State.modLine_line]
  split
  · next same => rw [hf, same]
  · rfl

theorem post (s : State) (x : EventKind) (o : Option Line) (d : Option DropIx) (g : Option Tag) (c e : Byte) :
    OnlyWork k s (s.post x o d g c e) := of_line (post_line ..)

theorem modQueue (s : State) (q : Line) (p : Priority) (f : List Tag → List Tag) :
    OnlyWork k s (s.modLine q fun e => e.modQueue p f) := modLine s q fun e => by cases p <;> rfl

theorem enterGuard (s : State) (l : Line) (x : Txn) : OnlyWork k s (s.enterGuard l x) := modLine s l fun _ => rfl

theorem startRequest (s : State) (l : Line) (g : Tag) : OnlyWork k s (s.startRequest l g) := by
  obtain ⟨retry, x, -, start⟩ := startRequest_eq s l g
  rw [start]
  exact ((modQueue ..).trans (of_line (State.modSlot_line ..))).trans (enterGuard ..)

theorem countPerformed (s : State) (l : Line) : OnlyWork k s (s.countPerformed l) := modLine s l fun _ => rfl

theorem countSkippedInvalid (s : State) (l : Line) : OnlyWork k s (s.countSkippedInvalid l) := modLine s l fun _ => rfl

theorem countSkippedOffline (s : State) (l : Line) : OnlyWork k s (s.countSkippedOffline l) := modLine s l fun _ => rfl

theorem startPause (s : State) (l : Line) (n : Nat) : OnlyWork k s (s.startPause l n) :=
  (countPerformed s l).trans (modLine _ l fun _ => rfl)

theorem endCycle (s : State) (l : Line) : OnlyWork k s (s.endCycle l) :=
  (modLine (f := fun e => { e with cycle := { e.cycle with inProgress := false, mayRestart := 0 < e.cycle.performed } }) s l
    fun _ => rfl).trans (of_line (postCycleDone_line ..))

theorem walkBank (n : Nat) (l : Line) (s : State) : OnlyWork k s (Machine.walkBank n l s) := by
  induction n generalizing s with
  | zero => exact endCycle s l
  | succ n ih =>
    have walked : OnlyWork k s (s.modCycle l fun c => { c with walk := c.walk + 1 }) := modLine s l fun _ => rfl
    unfold Machine.walkBank
    dsimp only
    split
    · exact endCycle s l
    · refine walked.trans ?_
      split
      · exact enterGuard ..
      · exact startPause ..
      · split
        · exact (countSkippedInvalid ..).trans (ih _)
        · split
          · exact (countSkippedOffline ..).trans (ih _)
          · exact enterGuard ..

theorem scheduleStep (s : State) (l : Line) : OnlyWork k s (s.scheduleStep l) := by
  unfold State.scheduleStep
  split
  · exact walkBank ..
  · rfl

theorem startCycle (s : State) (l : Line) : OnlyWork k s (s.startCycle l) := by
  have owed : OnlyWork k s (s.modCycle l fun c => { c with owed := false }) := modLine s l fun _ => rfl
  unfold State.startCycle State.swapBanks
  dsimp only
  refine (owed.trans ?_).trans (modLine _ l fun _ => rfl)
  split
  · exact (modLine (f := fun e => { e with sched := { e.sched with active := !e.sched.active, swapPending := false } }) _ l
      fun _ => rfl).trans (post ..)
  · rfl

theorem cycleStep (s : State) (l : Line) : OnlyWork k s (s.cycleStep l) := by
  unfold State.cycleStep
  split
  · exact (startCycle ..).trans (scheduleStep ..)
  · rfl

theorem normalStep (s : State) (l : Line) : OnlyWork k s (s.normalStep l) := by
  unfold State.normalStep
  split
  · rfl
  · refine OnlyWork.trans ?_ (startRequest ..)
    exact modLine s l fun _ => rfl

theorem select (s : State) (l : Line) : OnlyWork k s (s.select l) := by
  have both (u : State) {f : State → State} (hf : OnlyWork k u (f u)) {p : Prop} [Decidable p] : OnlyWork k u (if p then f u else u) := by
    split
    · exact hf
    · rfl
  unfold State.select
  split
  · rfl
  · split
    · exact startRequest ..
    · split
      · exact (of_line (State.modDrop_line ..)).trans (enterGuard ..)
      · refine ((scheduleStep s l).trans ?_).trans (both (f := fun v => v.normalStep l) _ (normalStep ..))
        exact both (f := fun v => v.cycleStep l) _ (cycleStep ..)

theorem countEntry (s : State) (l : Line) (x : Txn) (o : TxnOutcome) : OnlyWork k s (s.countEntry l x o) := by
  unfold State.countEntry
  split_ifs
  · exact countPerformed ..
  · exact countSkippedInvalid ..
  all_goals rfl

theorem toIdle (s : State) (l : Line) : OnlyWork k s (s.modCtl l Controller.toIdle) := modLine s l fun _ => rfl

theorem putBack (s : State) (g : Tag) (n : Nat) : OnlyWork k s (s.putBack g n) := by
  obtain ⟨u, v, engine⟩ := putBack_line s k g n
  exact (congrArg besideWork engine).trans rfl

theorem finishTxn (s : State) (l : Line) : OnlyWork k s (s.finishTxn l) := by
  obtain ⟨-, same⟩ | ⟨x, -, ⟨g, -, same⟩ | ⟨o, same⟩⟩ := finishTxn_cases l s
  · rw [same]
    exact toIdle ..
  · rw [same]
    exact (toIdle ..).trans (putBack ..)
  · rw [same]
    exact (((countEntry ..).trans (of_line (reportEnd_line ..))).trans (of_line (completeTxn_line ..))).trans (toIdle ..)

theorem afterAttempt (s : State) (l : Line) (o : TxnOutcome) : OnlyWork k s (s.afterAttempt l o) := by
  unfold State.afterAttempt
  split
  · rfl
  · split
    · split
      · exact modLine s l fun _ => rfl
      · exact enterGuard ..
    · exact (finishTxn ..).trans (select ..)

/-! The single parts that stay. -/

theorem part {α : Sort _} (h : OnlyWork k s t) (f : LineEngine → α) : f (besideWork (t.line k)) = f (besideWork (s.line k)) :=
  congrArg f h

theorem role (h : OnlyWork k s t) : (t.line k).role = (s.line k).role := h.part LineEngine.role

theorem params (h : OnlyWork k s t) : (t.line k).params = (s.line k).params := h.part LineEngine.params

theorem divisor (h : OnlyWork k s t) : (t.line k).divisor = (s.line k).divisor := h.part LineEngine.divisor

theorem rx (h : OnlyWork k s t) : (t.line k).rx = (s.line k).rx := h.part LineEngine.rx

theorem reader (h : OnlyWork k s t) : (t.line k).reader = (s.line k).reader := h.part LineEngine.reader

theorem tx (h : OnlyWork k s t) : (t.line k).tx = (s.line k).tx := h.part LineEngine.tx

theorem contention (h : OnlyWork k s t) : (t.line k).contention = (s.line k).contention := h.part LineEngine.contention

theorem observer (h : OnlyWork k s t) : (t.line k).observer = (s.line k).observer := h.part LineEngine.observer

theorem silence (h : OnlyWork k s t) : (t.line k).silence = (s.line k).silence := h.part LineEngine.silence

theorem stamping (h : OnlyWork k s t) : (t.line k).stamping = (s.line k).stamping := h.part LineEngine.stamping

theorem kept (h : OnlyWork k s t) : (t.line k).ctl.kept = (s.line k).ctl.kept := h.part (·.ctl.kept)

theorem timer (h : OnlyWork k s t) : (t.line k).cycle.timer = (s.line k).cycle.timer := h.part (·.cycle.timer)

theorem expiryDue (h : OnlyWork k s t) : (t.line k).cycle.expiryDue = (s.line k).cycle.expiryDue := h.part (·.cycle.expiryDue)

theorem contentions (h : OnlyWork k s t) : (t.line k).counters.contention = (s.line k).counters.contention := h.part (·.counters.contention)

end OnlyWork

/-! ### The reports kept during SEND (R44) -/

section

variable {s : State} {l : Line}

theorem passKept_eq (s : State) (l : Line) : s.passKept l = keptJudged s l (s.line l).ctl.kept := by
  unfold State.passKept keptJudged
  simp only [State.modCtl_eq, modLine_eq, line_setLine_self]

theorem sinceEnd_eq (x : Transmitter) : x.sinceEnd = if x.sending = none ∧ x.tail = true then x.timer else .zero := by
  simp [Transmitter.sinceEnd]

/-- With no report kept nothing is judged. -/
theorem keptJudged_nil (s : State) (l : Line) :
    keptJudged s l [] = s.setLine l { s.line l with ctl := { (s.line l).ctl with kept := [] } } := by
  unfold keptJudged
  dsimp only
  split <;> rfl

/-- A mastering line's controller gets the reports kept, in their order. -/
theorem keptJudged_of_taken {e : LineEngine} {kept : List ReaderReport} (taken : e.role.mastering = true ∨ kept = []) :
    keptJudged (s.setLine l e) l kept =
      kept.foldl (fun s r => s.controllerReport l r) (s.setLine l { e with ctl := { e.ctl with kept := [] } }) := by
  unfold keptJudged
  simp only [line_setLine_self, setLine_setLine]
  obtain mastering | rfl := taken
  · rw [if_pos mastering]
  · split <;> rfl

/-- A SYNC has nobody to report to. -/
theorem reportAttempt_sync {x : Txn} (sync : x.source = .sync) (noDrop : x.drop = none) (s : State) (o : TxnOutcome) (a : Bool) :
    s.reportAttempt x o a = s := by
  simp [State.reportAttempt, State.reportToDrop, State.reportToSlot, noDrop, sync]

theorem finishTxn_sync {x : Txn} (inHand : (s.line l).ctl.txn = some x) (sync : x.source = .sync) (noDrop : x.drop = none)
    (good : x.lastOutcome = .ok) : s.finishTxn l = s.modCtl l Controller.toIdle := by
  simp [State.finishTxn, inHand, State.ending, good, State.countEntry, sync, State.reportEnd, noDrop, State.completeTxn]

/-- The transaction of a SYNC that is sent ends OK and leaves nothing behind but an idle controller (R64, R59). -/
theorem endAttempt_sync {e : LineEngine} {x : Txn} (inHand : e.ctl.txn = some x) (sync : x.source = .sync) (noDrop : x.drop = none)
    (empty : ∀ i, (s.buffer i).place ≠ .assembling l) :
    (s.setLine l e).endAttempt l .ok = (s.setLine l { e with ctl := e.ctl.resting }).select l := by
  have nothing : (s.setLine l e).freeAssembling l = s.setLine l e :=
    State.freeAssembling_of_none (State.assembling_eq_none.mpr fun i => by rw [State.setLine_buffer]; exact empty i)
  unfold State.endAttempt
  rw [line_setLine_self, inHand]
  dsimp only
  rw [nothing, reportAttempt_sync (by exact sync) (by exact noDrop), if_neg (by decide)]
  unfold State.afterAttempt
  simp only [State.modCtl_eq, modLine_eq, line_setLine_self, setLine_setLine]
  rw [if_neg (by simp [State.retryFollows])]
  rw [finishTxn_sync (x := x.withAttempt .ok e.ctl.reply) (by rw [line_setLine_self]) (by exact sync) (by exact noDrop) rfl]
  simp only [State.modCtl_eq, modLine_eq, line_setLine_self, setLine_setLine]
  rfl

end

/-- Settles O54, by the kind of the call sent. -/
theorem frameSentOpensWindow : Obligations.FrameSentOpensWindow := by
  unfold Obligations.FrameSentOpensWindow
  intro s l x send free sent heard inHand
  have row : exec (.frameSent l) s = finish (s.frameSent l) :=
    congrArg finish (if_pos (by simp [State.frameIsSent, send, free, sent, heard]))
  rw [row]
  unfold State.frameSent
  dsimp only
  simp only [modLine_eq, line_setLine_self, callKind_of_txn inHand]
  rw [passKept_eq]
  refine ⟨fun call gives => ?call, fun sync source noDrop empty => ?sync⟩
  case call =>
    rw [if_neg call]
    unfold State.enterAwait
    simp only [modLine_eq, line_setLine_self, setLine_setLine, sinceEnd_eq]
    exact congrArg finish (keptJudged_of_taken (by exact gives))
  case sync =>
    have ended := endAttempt_sync (s := s) (l := l) (e := { s.line l with tx := (s.line l).tx.ended, contention := 0 })
      inHand source noDrop empty
    rw [if_pos sync, ended, (OnlyWork.select (k := l) _ l).kept, line_setLine_self]
    rfl

/-! ### Frames that fail (R11, R12, R61, R62) -/

/-- What a line has of the calls it sent: transmitter, reports kept, contention and its counter. -/
def callSide (e : LineEngine) : Transmitter × List ReaderReport × Nat × Half :=
  (e.tx, e.ctl.kept, e.contention, e.counters.contention)

theorem OnlyWork.callSide {k : Line} {s t : State} (h : OnlyWork k s t) : callSide (t.line k) = callSide (s.line k) :=
  h.part LineRows.callSide

section

variable (s : State) (l : Line)

/-- Demotion leaves what a line has of its calls (R131). -/
theorem demote_callSide : callSide ((s.demote l).line l) = callSide (s.line l) := by
  have role : ∀ u : State, callSide ((u.modLine l fun e => { e with role := .standby }).line l) = callSide (u.line l) := fun u => by
    rw [State.modLine_line, if_pos rfl]; rfl
  have finished : ∀ u : State, callSide ((u.finishTxn l).line l) = callSide (u.line l) := fun u => (OnlyWork.finishTxn u l).callSide
  have left : ∀ u : State, callSide ((u.abandonCycle l).line l) = callSide (u.line l) := fun u => by
    unfold State.abandonCycle
    split
    · rw [postCycleDone_line, State.modCycle_eq, State.modLine_line, if_pos rfl]; rfl
    · rfl
  have flushed : ∀ u : State, callSide ((u.abandonFrame l).line l) = callSide (u.line l) := fun u => by
    unfold State.abandonFrame State.declareError State.flushReader
    rw [freeAssembling_line]
    split
    · rw [State.modLine_line, if_pos rfl]; rfl
    · rfl
  have begun : ∀ u : State, callSide ((u.startStandby l).line l) = callSide (u.line l) := fun u => by
    unfold State.startStandby
    rw [State.modLine_line, if_pos rfl]; rfl
  unfold State.demote
  dsimp only
  rw [begun, flushed, left, finished, raise_line, postRole_line, role]

/-- The line once the reports of an attempt have gone out, before contention and retry are judged (R57). -/
def attemptReported (o : TxnOutcome) (x : Txn) : State :=
  ((s.freeAssembling l).modLine l fun e => { e with ctl := { e.ctl with
    txn := some (x.withAttempt o (s.line l).ctl.reply), window := .none, deciding := false } }).reportAttempt
      (x.withAttempt o (s.line l).ctl.reply) o (s.line l).ctl.reply.attention

theorem endAttempt_eq {x : Txn} (inHand : (s.line l).ctl.txn = some x) (o : TxnOutcome) : s.endAttempt l o =
    if o = .contention then
      if (((attemptReported s l o x).meetContention l).line l).ctl.txn.isSome then
        ((attemptReported s l o x).meetContention l).afterAttempt l o
      else (attemptReported s l o x).meetContention l
    else (attemptReported s l o x).afterAttempt l o := by
  unfold State.endAttempt
  rw [inHand]
  rfl

theorem attemptReported_line (o : TxnOutcome) (x : Txn) : (attemptReported s l o x).line l = { s.line l with
    ctl := { (s.line l).ctl with txn := some (x.withAttempt o (s.line l).ctl.reply), window := .none, deciding := false } } := by
  unfold attemptReported
  rw [reportAttempt_line, State.modLine_line, if_pos rfl, freeAssembling_line]

theorem endAttempt_none (noTxn : (s.line l).ctl.txn = none) (o : TxnOutcome) : s.endAttempt l o = s := by
  unfold State.endAttempt
  rw [noTxn]

theorem countContention_callSide : callSide ((s.countContention l).line l) =
    ((s.line l).tx, (s.line l).ctl.kept, min 255 ((s.line l).contention + 1), satInc (s.line l).counters.contention) := by
  unfold State.countContention
  rw [State.modLine_line, if_pos rfl]
  rfl

theorem meetContention_callSide : callSide ((s.meetContention l).line l) = callSide ((s.countContention l).line l) := by
  unfold State.meetContention
  dsimp only
  split
  · exact demote_callSide ..
  · rfl

/-- An attempt's end counts contention on both counts, or nothing (R61). -/
theorem endAttempt_callSide {x : Txn} (inHand : (s.line l).ctl.txn = some x) (o : TxnOutcome) :
    callSide ((s.endAttempt l o).line l) = if o = .contention then callSide ((s.countContention l).line l) else callSide (s.line l) := by
  have after (u : State) : callSide ((u.afterAttempt l o).line l) = callSide (u.line l) := (OnlyWork.afterAttempt u l o).callSide
  have counted : callSide (((attemptReported s l o x).countContention l).line l) = callSide ((s.countContention l).line l) := by
    rw [countContention_callSide, countContention_callSide, attemptReported_line]
  rw [endAttempt_eq s l inHand]
  split
  · rw [← counted, ← meetContention_callSide (attemptReported s l o x) l]
    split
    · exact after _
    · rfl
  · rw [after, attemptReported_line]
    rfl

theorem endAttempt_kept (o : TxnOutcome) : ((s.endAttempt l o).line l).ctl.kept = (s.line l).ctl.kept := by
  cases inHand : (s.line l).ctl.txn with
  | none => rw [endAttempt_none s l inHand]
  | some x =>
    refine (congrArg (·.2.1) (endAttempt_callSide s l inHand o)).trans ?_
    rw [countContention_callSide]
    split <;> rfl

/-- The end of a call: the transmitter empty, the attempt over, then the reports kept (R11, R12, R44). -/
theorem endCall_eq (o : TxnOutcome) : s.endCall l o =
    keptJudged ((s.setLine l { s.line l with tx := txAfter (s.line l).tx }).endAttempt l o) l (s.line l).ctl.kept := by
  unfold State.endCall
  rw [passKept_eq, endAttempt_kept, State.modTx_eq, modLine_eq, line_setLine_self]
  rfl

theorem demote_role : ((s.demote l).line l).role = .standby := by
  have finished (u : State) : ((u.finishTxn l).line l).role = (u.line l).role := finishTxn_role l u
  unfold State.demote State.startStandby
  dsimp only
  rw [State.modLine_line, if_pos rfl]
  change ((State.abandonFrame _ l).line l).role = _
  rw [Moves.abandonFrame_role, Moves.abandonCycle_role, finished, raise_line, postRole_line, State.modLine_line, if_pos rfl]

/-- Only a demotion takes the role of a line at the end of an attempt (R131). -/
theorem endAttempt_role {x : Txn} (inHand : (s.line l).ctl.txn = some x) (o : TxnOutcome) : ((s.endAttempt l o).line l).role =
    if o = .contention ∧ (s.line l).role = .master ∧ (s.line l).params.contentionLimit ≤ min 255 ((s.line l).contention + 1) then
      .standby
    else (s.line l).role := by
  have after (u : State) : ((u.afterAttempt l o).line l).role = (u.line l).role := (OnlyWork.afterAttempt u l o).role
  have met : (((attemptReported s l o x).meetContention l).line l).role =
      if (s.line l).role = .master ∧ (s.line l).params.contentionLimit ≤ min 255 ((s.line l).contention + 1) then .standby
      else (s.line l).role := by
    have line : ((attemptReported s l o x).countContention l).line l = { (attemptReported s l o x).line l with
        contention := min 255 (((attemptReported s l o x).line l).contention + 1)
        counters := { ((attemptReported s l o x).line l).counters with
          contention := satInc ((attemptReported s l o x).line l).counters.contention } } := by
      unfold State.countContention
      rw [State.modLine_line, if_pos rfl]
    rw [attemptReported_line] at line
    unfold State.meetContention
    dsimp only
    simp only [line, Bool.and_eq_true, decide_eq_true_eq, ge_iff_le]
    split
    · exact demote_role ..
    · rw [line]
  rw [endAttempt_eq s l inHand]
  by_cases contention : o = .contention
  · rw [if_pos contention]
    simp only [contention, true_and]
    rw [← contention, ← met]
    split
    · exact after _
    · rfl
  · rw [if_neg contention, if_neg (fun h => contention h.1), after, attemptReported_line]

end

/-! ### What the end of work leaves of a drop record -/

section

open Sys2Proof.Proofs.DropTable

variable {α : Sort _} (part : Drop → α) (l : Line)

/-- The work selection can only take an attention flag (R86). -/
theorem select_dropPart (noted : ∀ (x : Drop) (a : Bool), part { x with attention := a } = part x) (s : State) (d : DropIx) :
    part ((s.select l).drop d) = part (s.drop d) := by
  have same {u v : State} (h : u.drops = v.drops) : part (u.drop d) = part (v.drop d) := by unfold State.drop; rw [h]
  unfold State.select
  split
  · rfl
  · split
    · exact same (startRequest_drops ..)
    · split
      · rw [same (startPoll_drops ..), State.modDrop_drop]
        split
        · next is => rw [noted, is]
        · rfl
      · refine same ?_
        dsimp only
        split_ifs <;> simp

/-- The outcomes that R59 can give to a transaction beside its last attempt's. -/
theorem ending_over {s : State} {x : Txn} {o : TxnOutcome} (ended : s.ending l x = .over o) :
    o = x.lastOutcome ∨ o = .aborted ∨ o = .dropDisabled ∨ o = .lineStopped := by
  unfold State.ending at ended
  dsimp only at ended
  split_ifs at ended with good
  · cases ended; exact .inl good.symm
  · cases ended; simp
  · cases ended; simp
  · cases ended; simp
  · split at ended <;> cases ended <;> simp
  · cases ended; simp

/-- The end of a transaction reaches drops by an end report alone (R25, R59). -/
theorem finishTxn_dropPart {s : State} {x : Txn} (inHand : (s.line l).ctl.txn = some x)
    (ended : ∀ y o, o = x.lastOutcome ∨ o = .aborted ∨ o = .dropDisabled ∨ o = .lineStopped →
      part (y.endReport o (0 < x.attempts)) = part y) (d : DropIx) :
    part ((s.finishTxn l).drop d) = part (s.drop d) := by
  have same {u v : State} (h : u.drops = v.drops) : part (u.drop d) = part (v.drop d) := by unfold State.drop; rw [h]
  unfold State.finishTxn
  rw [inHand]
  dsimp only
  split
  · exact same (by simp)
  · next o isOver =>
    have before : part ((s.countEntry l x o).drop d) = part (s.drop d) := same (countEntry_drops ..)
    rw [same (show (State.modCtl _ l _).drops = ((s.countEntry l x o).reportEnd x o).drops by simp), ← before]
    unfold State.reportEnd State.endReport
    split
    · next e _ =>
      rw [same (postIfChanged_drops ..), State.modDrop_drop]
      split
      · next is => rw [ended _ _ (ending_over l isOver), is]
      · rfl
    · rfl

/-- What follows an attempt reaches drops by the end report and the selection (R58, R59). -/
theorem afterAttempt_dropPart {s : State} {x : Txn} (inHand : (s.line l).ctl.txn = some x)
    (noted : ∀ (y : Drop) (a : Bool), part { y with attention := a } = part y)
    (ended : ∀ y o, o = x.lastOutcome ∨ o = .aborted ∨ o = .dropDisabled ∨ o = .lineStopped →
      part (y.endReport o (0 < x.attempts)) = part y) (o : TxnOutcome) (d : DropIx) :
    part ((s.afterAttempt l o).drop d) = part (s.drop d) := by
  have same {u v : State} (h : u.drops = v.drops) : part (u.drop d) = part (v.drop d) := by unfold State.drop; rw [h]
  unfold State.afterAttempt
  rw [inHand]
  dsimp only
  split
  · refine same ?_
    split <;> simp
  · rw [select_dropPart part l noted, finishTxn_dropPart part l inHand ended]

/-- The attempt's report reaches the drop's statistics and attention (R32, R35). -/
theorem attemptReported_dropPart (s : State) (x : Txn) (o : TxnOutcome) (d : DropIx)
    (noted : ∀ (y : Drop) (a : Bool), part { y with attention := a } = part y) :
    part ((attemptReported s l o x).drop d) =
      if x.drop = some d then part { s.drop d with stats := (s.drop d).stats.attempt o } else part (s.drop d) := by
  have same {u v : State} (h : u.drops = v.drops) : part (u.drop d) = part (v.drop d) := by unfold State.drop; rw [h]
  unfold attemptReported State.reportAttempt
  rw [same (reportToSlot_drops ..)]
  generalize before : State.modLine (s.freeAssembling l) l _ = u
  have drops : u.drop d = s.drop d := by
    rw [← before, State.modLine_drop, State.freeAssembling_eq]
    rfl
  unfold State.reportToDrop
  change part ((match x.drop with
    | some d => u.attemptReport d _ _ _ _
    | none => u).drop d) = _
  split
  · next e drop =>
    have counted : part ((u.modDrop e fun y => { y with stats := y.stats.attempt o }).drop d) =
        if x.drop = some d then part { s.drop d with stats := (s.drop d).stats.attempt o } else part (s.drop d) := by
      rw [State.modDrop_drop, drop]
      by_cases is : d = e
      · subst is
        rw [if_pos rfl, if_pos rfl, drops]
      · rw [if_neg is, if_neg (fun h => is (Option.some.inj h).symm), drops]
    rw [← counted]
    unfold State.attemptReport
    dsimp only
    split
    · split
      · rfl
      · exact same (post_drops ..)
      · split
        · rfl
        · rw [State.modDrop_drop]
          split
          · next is =>
            subst is
            rw [State.modDrop_drop, if_pos rfl]
            exact noted ..
          · rfl
    · rfl
  · next drop => rw [drop, if_neg (by simp), drops]

end

/-- The outcome CLOCK_FAULT, and what takes its place at the end of its transaction, leave a drop's state and failure count. -/
theorem endReport_neutral (y : Drop) (began : Bool) {o : TxnOutcome}
    (neutral : o = .clockFault ∨ o = .aborted ∨ o = .dropDisabled ∨ o = .lineStopped) :
    ((y.endReport o began).state, (y.endReport o began).failures) = (y.state, y.failures) := by
  unfold Drop.endReport Drop.classify
  obtain rfl | rfl | rfl | rfl := neutral <;> (dsimp only [TxnOutcome.cls]; split_ifs <;> rfl)

section

variable {s : State} {l : Line} {x : Txn} {o : TxnOutcome}

/-- The line whose call failed: the transmitter empty, before the attempt ends (R11, R12). -/
def emptied (s : State) (l : Line) : State :=
  s.setLine l { s.line l with tx := txAfter (s.line l).tx }

theorem emptied_line (s : State) (l : Line) : (emptied s l).line l = { s.line l with tx := txAfter (s.line l).tx } :=
  line_setLine_self ..

/-- The line after a call that failed with no report kept. -/
theorem failed_line (noKept : (s.line l).ctl.kept = []) :
    (keptJudged ((emptied s l).endAttempt l o) l (s.line l).ctl.kept).driveIrq.line l =
      { ((emptied s l).endAttempt l o).line l with ctl := { (((emptied s l).endAttempt l o).line l).ctl with kept := [] } } := by
  rw [State.driveIrq_line, noKept, keptJudged_nil, line_setLine_self]

theorem failed_calls (inHand : (s.line l).ctl.txn = some x) : callSide (((emptied s l).endAttempt l o).line l) =
    if o = .contention then
      (txAfter (s.line l).tx, (s.line l).ctl.kept, min 255 ((s.line l).contention + 1), satInc (s.line l).counters.contention)
    else (txAfter (s.line l).tx, (s.line l).ctl.kept, (s.line l).contention, (s.line l).counters.contention) := by
  rw [endAttempt_callSide _ l (x := x) (by rw [emptied_line]; exact inHand), countContention_callSide, emptied_line]
  rfl

/-- After CLOCK_FAULT no drop has moved in state or failure count (R62). -/
theorem clockFault_drop (inHand : (s.line l).ctl.txn = some x) (d : DropIx) :
    ((((emptied s l).endAttempt l .clockFault).drop d).state, (((emptied s l).endAttempt l .clockFault).drop d).failures) =
      ((s.drop d).state, (s.drop d).failures) := by
  have here : ((emptied s l).line l).ctl.txn = some x := by rw [emptied_line]; exact inHand
  have reported := attemptReported_dropPart (fun y => (y.state, y.failures)) l (emptied s l) x .clockFault d fun _ _ => rfl
  have left : (((attemptReported (emptied s l) l .clockFault x).line l).ctl.txn) =
      some (x.withAttempt .clockFault ((emptied s l).line l).ctl.reply) := by rw [attemptReported_line]
  rw [endAttempt_eq _ l here, if_neg (by decide)]
  refine (afterAttempt_dropPart (fun y => (y.state, y.failures)) l left (fun _ _ => rfl)
    (fun y _ neutral => endReport_neutral y _ neutral) _ d).trans (reported.trans ?_)
  rw [show (emptied s l).drop d = s.drop d from State.setLine_drop ..]
  split <;> rfl

end

/-- Settles O55: the two counts of contention, the role and the drop states through the end of an attempt. -/
theorem failedFrames : Obligations.FailedFrames := by
  unfold Obligations.FailedFrames
  intro s l
  dsimp only
  refine ⟨fun x rest going heard => ?missing, fun send stopped => ?contention, fun send stopped => ?fault⟩
  case missing =>
    have still : (s.line l).tx.advance = (s.line l).tx := by simp [Transmitter.advance, heard]
    refine (congrArg finish ?_ : exec (.echoMissing l) s = finish _)
    rw [State.modTx_eq, modLine_eq]
    dsimp only
    rw [still, if_pos (by simp [going, heard])]
  case contention =>
    have row : exec (.contentionReport l) s = finish (s.endCall l .contention) :=
      congrArg finish (if_pos (by simp [State.stoppedFor, send, stopped]))
    rw [endCall_eq] at row
    refine ⟨row, fun x inHand noKept => ⟨_, row, ?_⟩⟩
    have calls := failed_calls (o := .contention) inHand
    have role := endAttempt_role (emptied s l) l (x := x) (by rw [emptied_line]; exact inHand) .contention
    rw [emptied_line] at role
    simp only [true_and] at role
    rw [← emptied, failed_line noKept]
    simp only [if_true, callSide, Prod.mk.injEq] at calls
    obtain ⟨tx, -, contention, contentions⟩ := calls
    exact ⟨tx, contention, contentions, role, lineRowsLeaveHostSide s _ _ l rfl row⟩
  case fault =>
    have row : exec (.clockFaultReport l) s = finish (s.endCall l .clockFault) :=
      congrArg finish (if_pos (by simp [State.stoppedFor, send, stopped]))
    rw [endCall_eq] at row
    refine ⟨row, fun x inHand noKept => ⟨_, row, ?_⟩⟩
    have calls := failed_calls (o := .clockFault) inHand
    have role := endAttempt_role (emptied s l) l (x := x) (by rw [emptied_line]; exact inHand) .clockFault
    rw [emptied_line, if_neg (fun h => absurd h.1 (by decide))] at role
    rw [← emptied, failed_line noKept]
    simp only [reduceCtorEq, if_false, callSide, Prod.mk.injEq] at calls
    obtain ⟨tx, -, contention, contentions⟩ := calls
    refine ⟨tx, contention, contentions, role, fun d => ?_, lineRowsLeaveHostSide s _ _ l rfl row⟩
    rw [noKept, keptJudged_nil, State.driveIrq_drop, State.setLine_drop]
    exact Prod.ext_iff.mp (clockFault_drop inHand d)

end Sys2Proof.Proofs.LineRows

/-! Times that run out on a line, and the frame reader's gaps, each by the engine it leaves. -/

namespace Sys2Proof.Proofs.LineTimes

open Sys2Proof Sys2Proof.Machine Sys2Proof.Proofs.Rows Sys2Proof.Proofs.Work Sys2Proof.Proofs.LineRows

/-! ### No attempt is in flight after the selection (R84, R85) -/

/-- No attempt is in flight on the line. -/
def Settled (l : Line) (s : State) : Prop :=
  (s.line l).ctl.state.inFlight = false

namespace Settled

variable {s t : State} {l : Line}

theorem of_line (h : Settled l s) (same : (t.line l).ctl.state = (s.line l).ctl.state) : Settled l t := by
  unfold Settled
  rw [same]
  exact h

theorem enterGuard (s : State) (x : Txn) : Settled l (s.enterGuard l x) := by
  obtain ⟨c, state, -, line⟩ := enterGuard_line s l l x
  unfold Settled
  rw [line, if_pos rfl]
  exact state ▸ rfl

theorem startRequest (s : State) (g : Tag) : Settled l (s.startRequest l g) := by
  obtain ⟨retry, x, -, start⟩ := startRequest_eq s l g
  rw [start]
  exact enterGuard ..

theorem startPause (s : State) (n : Nat) : Settled l (s.startPause l n) := by
  unfold Settled State.startPause
  rw [State.modCtl_eq, State.modLine_line, if_pos rfl]
  rfl

theorem endCycle (h : Settled l s) : Settled l (s.endCycle l) := by
  refine h.of_line ?_
  unfold State.endCycle
  rw [postCycleDone_line, State.modCycle_eq, State.modLine_line, if_pos rfl]

theorem walkBank (n : Nat) (h : Settled l s) : Settled l (Machine.walkBank n l s) := by
  induction n generalizing s with
  | zero => exact h.endCycle
  | succ n ih =>
    have walked : Settled l (s.modCycle l fun c => { c with walk := c.walk + 1 }) := h.of_line (by simp)
    unfold Machine.walkBank
    dsimp only
    split
    · exact h.endCycle
    · split
      · exact enterGuard ..
      · exact startPause ..
      · split
        · exact ih (walked.of_line (by simp [State.countSkippedInvalid]))
        · split
          · exact ih (walked.of_line (by simp [State.countSkippedOffline]))
          · exact enterGuard ..

theorem scheduleStep (h : Settled l s) : Settled l (s.scheduleStep l) := by
  unfold State.scheduleStep
  split
  · exact h.walkBank 25
  · exact h

theorem startCycle (h : Settled l s) : Settled l (s.startCycle l) := by
  refine h.of_line ?_
  unfold State.startCycle State.swapBanks
  dsimp only
  split <;> simp

theorem cycleStep (h : Settled l s) : Settled l (s.cycleStep l) := by
  unfold State.cycleStep
  split
  · exact h.startCycle.scheduleStep
  · exact h

theorem normalStep (h : Settled l s) : Settled l (s.normalStep l) := by
  unfold State.normalStep
  split
  · exact h
  · exact startRequest ..

theorem select (h : Settled l s) : Settled l (s.select l) := by
  unfold State.select
  split
  · exact h
  · split
    · exact startRequest ..
    · split
      · exact enterGuard ..
      · have normal {u : State} (h : Settled l u) : Settled l (if (u.line l).atBoundary then u.normalStep l else u) := by
          split
          · exact h.normalStep
          · exact h
        refine normal (u := if ((s.scheduleStep l).line l).atBoundary then (s.scheduleStep l).cycleStep l else s.scheduleStep l) ?_
        split
        · exact h.scheduleStep.cycleStep
        · exact h.scheduleStep

theorem finishTxn (s : State) (l : Line) : Settled l (s.finishTxn l) := by
  unfold Settled
  rw [finishTxn_state]
  rfl

theorem afterAttempt {x : Txn} (inHand : (s.line l).ctl.txn = some x) (o : TxnOutcome) : Settled l (s.afterAttempt l o) := by
  unfold State.afterAttempt
  rw [inHand]
  dsimp only
  split
  · split
    · unfold Settled State.enterBackoff
      rw [State.modLine_line, if_pos rfl]
      rfl
    · exact enterGuard ..
  · exact (finishTxn s l).select

/-- An attempt that ends without contention leaves none in flight (R58, R59). -/
theorem endAttempt {x : Txn} (inHand : (s.line l).ctl.txn = some x) {o : TxnOutcome} (other : o ≠ .contention) :
    Settled l (s.endAttempt l o) := by
  rw [endAttempt_eq s l inHand, if_neg other]
  exact afterAttempt (by rw [attemptReported_line]) o

end Settled

/-! ### Response window and backoff (R51, R63) -/

section

variable {s : State} {l : Line}

/-- A line whose response window has elapsed (R51). -/
def windowOver (e : LineEngine) : LineEngine :=
  { e with ctl := { e.ctl with window := .elapsed, windowTimer := { e.ctl.windowTimer with bits := e.ctl.windowLength } } }

theorem exec_responseWindowElapsed (running : (s.line l).ctl.window = .running)
    (counts : (s.line l).ctl.state = .await ∨ (s.line l).ctl.state = .receive ∨
      ((s.line l).ctl.state = .discard ∧ (s.line l).ctl.discard = .passing)) :
    exec (.responseWindowElapsed l) s = finish (if (s.line l).ctl.state = .await then
      if (s.line l).rx.state = .receiving then
        s.setLine l { windowOver (s.line l) with ctl := { (windowOver (s.line l)).ctl with deciding := true } }
      else (s.setLine l (windowOver (s.line l))).endAttempt l .timeout
    else s.setLine l (windowOver (s.line l))) := by
  have runs : (s.line l).ctl.windowRuns = true := by
    simp only [Controller.windowRuns, running, Bool.and_eq_true, Bool.or_eq_true, decide_eq_true_eq, true_and, or_assoc]
    exact counts
  refine (congrArg finish (if_pos runs)).trans (congrArg finish ?_)
  unfold State.windowElapsed
  simp only [State.modCtl_eq, modLine_eq, line_setLine_self, setLine_setLine]
  rfl

theorem endReport_timeouts (x : Drop) (o : TxnOutcome) (began : Bool) :
    (x.endReport o began).stats.timeouts = x.stats.timeouts := by
  have counted : (x.stats.transaction o.cls).timeouts = x.stats.timeouts := by cases o <;> rfl
  have classified (y : Drop) (c : OutcomeClass) : (y.classify c).stats = y.stats := by
    unfold Drop.classify
    split_ifs
    · cases c <;> rfl
    · rfl
  unfold Drop.endReport
  dsimp only
  rw [classified]
  exact counted

/-- An attempt that ends TIMEOUT is counted as one for its drop (R35). -/
theorem endAttempt_timeouts {x : Txn} {d : DropIx} (inHand : (s.line l).ctl.txn = some x) (called : x.drop = some d) :
    ((s.endAttempt l .timeout).drop d).stats.timeouts = satInc (s.drop d).stats.timeouts := by
  have reported := attemptReported_dropPart (·.stats.timeouts) l s x .timeout d fun _ _ => rfl
  have left : ((attemptReported s l .timeout x).line l).ctl.txn = some (x.withAttempt .timeout (s.line l).ctl.reply) := by
    rw [attemptReported_line]
  rw [if_pos called] at reported
  rw [endAttempt_eq s l inHand, if_neg (by decide)]
  exact (afterAttempt_dropPart (·.stats.timeouts) l left (fun _ _ => rfl) (fun y o _ => endReport_timeouts y o _) _ d).trans reported

/-- The observer of a line whose response timer has elapsed (R134). -/
def timerOver (o : Observer) : Observer :=
  { o with elapsed := true, timer := { o.timer with bits := o.window } }

theorem exec_observerTimerElapsed (standby : (s.line l).role = .standby) (observed : (s.line l).observer.call ≠ none)
    (going : (s.line l).observer.elapsed = false) :
    exec (.observerTimerElapsed l) s = finish (s.setLine l { s.line l with
      observer := if (s.line l).observer.follow.inHand then timerOver (s.line l).observer
        else if (s.line l).rx.state = .receiving then { timerOver (s.line l).observer with waiting := true }
        else { timerOver (s.line l).observer with call := none, follow := .nothing, capture := .none } }) := by
  have runs : (s.line l).observerTimerRuns = true := by
    simp [LineEngine.observerTimerRuns, standby, going, Option.isSome_iff_ne_none, observed]
  refine (congrArg finish (if_pos runs)).trans (congrArg finish ?_)
  unfold State.observerTimerElapsed
  simp only [State.forgetCall, State.modObserver_eq, modLine_eq, line_setLine_self, setLine_setLine]
  split
  · rfl
  · split <;> rfl

/-- The control character of a call, bit by bit (R179). -/
theorem callControl_eq (k : FrameKind) (toggle restart : Bool) :
    callControl k toggle restart = k.code ||| (if toggle then 0x20 else 0) ||| (if restart then 0x40 else 0) := by
  cases toggle <;> cases restart <;> rfl

/-- What a call to a drop carries (R43). -/
def callPayload (s : State) (x : Txn) : List Byte :=
  match x.kind, x.source with
  | .data, .request g => s.payloadOf g
  | _, _ => []

theorem buildCall_eq {x : Txn} {d : DropIx} (called : x.drop = some d) : s.buildCall x =
    { address := x.address.setWidth 8
      control := x.kind.code ||| (if (s.drop d).toggle then 0x20 else 0) ||| (if (s.drop d).fresh then 0x40 else 0)
      payload := callPayload s x } := by
  unfold State.buildCall
  rw [called, ← callControl_eq]
  rfl

theorem exec_backoffElapsed {x : Txn} (backoff : (s.line l).ctl.state = .backoff)
    (passed : (s.line l).ctl.backoffLength ≤ (s.line l).ctl.backoffCount) (inHand : (s.line l).ctl.txn = some x) :
    exec (.backoffElapsed l) s = finish (s.enterGuard l x) := by
  have isOver : (s.line l).ctl.backoffOver = true := by simp [Controller.backoffOver, backoff, passed]
  refine (congrArg finish ?_ : exec (.backoffElapsed l) s = finish _)
  unfold State.takeBackoff
  rw [inHand]
  exact if_pos isOver

end

/-- Settles O56, time by time. -/
theorem elapsedTimes : Obligations.ElapsedTimes := by
  unfold Obligations.ElapsedTimes
  intro s l
  dsimp only
  refine ⟨fun running elsewhere => ?marked, fun running await receiving => ?waits, fun running await free => ?timeout,
    fun x d running await free inHand called => ?counted, fun standby observed going => ?observer,
    fun x d backoff passed inHand called => ?backoff⟩
  case marked =>
    rw [exec_responseWindowElapsed running (by simp only [elsewhere, or_true]), if_neg]
    · rfl
    · rintro await
      rw [await] at elsewhere
      simp at elsewhere
  case waits =>
    rw [exec_responseWindowElapsed running (.inl await), if_pos await, if_pos receiving]
    rfl
  case timeout =>
    rw [exec_responseWindowElapsed running (.inl await), if_pos await, if_neg free]
    rfl
  case counted =>
    have row : exec (.responseWindowElapsed l) s = finish ((s.setLine l (windowOver (s.line l))).endAttempt l .timeout) := by
      rw [exec_responseWindowElapsed running (.inl await), if_pos await, if_neg free]
    have here : ((s.setLine l (windowOver (s.line l))).line l).ctl.txn = some x := by
      rw [line_setLine_self]
      exact inHand
    refine ⟨_, row, ?_, ?_, lineRowsLeaveHostSide s _ _ l rfl row⟩
    · rw [State.driveIrq_drop, endAttempt_timeouts here called, State.setLine_drop]
    · have settled := Settled.endAttempt (o := .timeout) here (by decide)
      rw [State.driveIrq_line]
      intro await
      unfold Settled at settled
      rw [await] at settled
      cases settled
  case observer =>
    rw [exec_observerTimerElapsed standby observed going]
    refine ⟨fun inHand => ?_, fun off receiving => ?_, fun off free => ?_⟩
    · rw [if_pos inHand]
      rfl
    · rw [off, if_neg (by decide), if_pos receiving]
      rfl
    · rw [off, if_neg (by decide), if_neg free]
      rfl
  case backoff =>
    have built (code : Byte) (payload : List Byte) (kind : x.kind.code = code) (carried : callPayload s x = payload) :
        exec (.backoffElapsed l) s = .next (State.driveIrq (s.setLine l { s.line l with
          ctl := { (s.line l).ctl with
            state := .guard, guard := (s.line l).params.guard, window := .none, deciding := false, discard := .passing
            reply := .empty
            call := { address := x.address.setWidth 8
                      control := code ||| (if (s.drop d).toggle then 0x20 else 0) ||| (if (s.drop d).fresh then 0x40 else 0)
                      payload } } })) := by
      rw [exec_backoffElapsed backoff passed inHand]
      unfold State.enterGuard
      rw [buildCall_eq called, kind, carried, ← inHand]
      rfl
    refine ⟨fun poll => built 4 [] (by rw [poll]; rfl) (by unfold callPayload; rw [poll]), fun g data source => ?_⟩
    have code : x.kind.code = 5 := by rw [data]; rfl
    have carried : callPayload s x = s.payloadOf g := by unfold callPayload; rw [data, source]
    refine ⟨fun empty => built 5 [] code ?_, fun b holds => built 5 _ code ?_⟩
    · rw [carried, State.payloadOf, empty]
    · rw [carried, State.payloadOf, holds]

end Sys2Proof.Proofs.LineTimes

/-! The frame reader's silent ends, GAP_FAULT and QUIET_END, by the consumer that they reach. -/

namespace Sys2Proof.Proofs.SilentEnds

open Sys2Proof Sys2Proof.Machine Sys2Proof.Proofs.Rows Sys2Proof.Proofs.Work Sys2Proof.Proofs.LineRows

section

variable {s : State} {l : Line} {e : LineEngine} {r : ReaderReport}

/-! ### The consumer of a report (R6) -/

theorem deliver_of_mastering (mastering : (s.line l).role.mastering = true) : s.deliver l r = s.controllerReport l r := by
  unfold State.deliver
  revert mastering
  cases (s.line l).role <;> simp [Role.mastering]

theorem deliver_of_standby (standby : (s.line l).role = .standby) : s.deliver l r = s.observerReport l r := by
  unfold State.deliver
  rw [standby]

/-! ### The rows -/

/-- A line engine whose frame reader has returned to HUNT after the silence that it waits for (R16, R17). -/
def hunted (e : LineEngine) : LineEngine :=
  { e with rx := idleAtLeast e.rx (e.reader.gap + 1), stamping := stampIdle e (e.reader.gap + 1)
           reader := { e.reader with state := .hunt } }

theorem gapPassed_eq (s : State) (l : Line) : s.gapPassed l = s.setLine l (hunted (s.line l)) := rfl

/-- A silent end is the frame reader's gap fault or quiet end, each by its own row. -/
def SilentEnd (s : State) (l : Line) (c : Instr) (r : ReaderReport) : Prop :=
  (c = .gapFault l ∧ (s.line l).reader.state = .inFrame ∧ r = .fault .gap) ∨
    (c = .quietEnd l ∧ (s.line l).reader.state = .flush ∧ r = .closed)

namespace SilentEnd

variable {c : Instr}

theorem of_gap (gap : c = .gapFault l ∧ (s.line l).reader.state = .inFrame) (h : SilentEnd s l c r) : r = .fault .gap := by
  obtain ⟨-, -, is⟩ | ⟨other, -⟩ := h
  · exact is
  · cases gap.1.symm.trans other

theorem of_closed (closed : c = .quietEnd l ∧ (s.line l).reader.state = .flush) (h : SilentEnd s l c r) : r = .closed := by
  obtain ⟨other, -⟩ | ⟨-, -, is⟩ := h
  · cases closed.1.symm.trans other
  · exact is

theorem cases (h : SilentEnd s l c r) : r = .fault .gap ∨ r = .closed :=
  h.imp (fun gap => gap.2.2) fun closed => closed.2.2

theorem exec (h : SilentEnd s l c r) (on : (s.line l).role ≠ .off) (edge : (s.line l).rx.state = .huntEdge) :
    Machine.exec c s = finish ((s.setLine l (hunted (s.line l))).deliver l r) := by
  obtain ⟨rfl, reading, rfl⟩ | ⟨rfl, reading, rfl⟩ := h
  · exact congrArg finish (if_pos (by simp [LineEngine.idleWith, on, reading, edge]))
  · exact congrArg finish (if_pos (by simp [LineEngine.idleWith, on, reading, edge]))

end SilentEnd

/-! ### At the transaction controller (R44, R50, R61, R65) -/

theorem controllerReport_silent_quiet (silent : r = .fault .gap ∨ r = .closed) (waits : e.ctl.state = .idle ∨ e.ctl.state = .guard ∨
    e.ctl.state = .backoff ∨ e.ctl.state = .pause ∨ e.ctl.state = .await) :
    (s.setLine l e).controllerReport l r = s.setLine l e := by
  unfold State.controllerReport
  rw [line_setLine_self]
  obtain is | is | is | is | is := waits <;> rw [is] <;> obtain rfl | rfl := silent <;> rfl

theorem controllerReport_send (send : e.ctl.state = .send) : (s.setLine l e).controllerReport l r =
    s.setLine l { e with ctl := { e.ctl with kept := e.ctl.kept ++ [r] } } := by
  unfold State.controllerReport
  rw [line_setLine_self, send]
  dsimp only
  rw [State.modCtl_eq, modLine_eq, line_setLine_self, setLine_setLine, send]

theorem controllerReport_gap_receive (receive : e.ctl.state = .receive) :
    (s.setLine l e).controllerReport l (.fault .gap) = (s.setLine l e).endAttempt l .gap := by
  unfold State.controllerReport
  rw [line_setLine_self, receive]
  rfl

theorem controllerReport_discard (silent : r = .fault .gap ∨ r = .closed) (discard : e.ctl.state = .discard) :
    (s.setLine l e).controllerReport l r = (s.setLine l e).discardEnd l := by
  unfold State.controllerReport
  rw [line_setLine_self, discard]
  obtain rfl | rfl := silent <;> rfl

theorem discardEnd_faulty {y : TxnOutcome} (faulty : e.ctl.discard = .faulty y) :
    (s.setLine l e).discardEnd l = (s.setLine l e).endAttempt l y := by
  unfold State.discardEnd
  rw [line_setLine_self, faulty]

theorem discardEnd_passing (passing : e.ctl.discard = .passing) : (s.setLine l e).discardEnd l =
    if e.ctl.window = .elapsed then (s.setLine l e).endAttempt l .timeout
    else s.setLine l { e with ctl := { e.ctl with state := .await } } := by
  unfold State.discardEnd
  rw [line_setLine_self, passing]
  dsimp only
  rw [State.modCtl_eq, modLine_eq, line_setLine_self, setLine_setLine, passing]

/-! ### At the standby observer (R133, R134) -/

/-- The observer that has forgotten the observed call. -/
def forgotten (o : Observer) : Observer :=
  { o with call := none, follow := .nothing, capture := .none }

theorem forgetCall_eq : (s.setLine l e).forgetCall l = s.setLine l { e with observer := forgotten e.observer } := by
  unfold State.forgetCall
  rw [State.modObserver_eq, modLine_eq, line_setLine_self, setLine_setLine]
  rfl

theorem observeUnmatchedEnd_eq : (s.setLine l e).observeUnmatchedEnd l = s.setLine l { e with
    observer := if e.observer.elapsed then forgotten e.observer else { e.observer with follow := .nothing } } := by
  unfold State.observeUnmatchedEnd
  rw [line_setLine_self, forgetCall_eq, State.modObserver_eq, modLine_eq, line_setLine_self, setLine_setLine]
  split <;> rfl

/-- A reply that fails returns its capture buffer and is forgotten with its call: what that leaves of the state. -/
theorem forget_freeAssembling (t : State) (is : t = (((s.setLine l e).freeAssembling l).forgetCall l).driveIrq) :
    t = { s.setLine l { e with observer := forgotten e.observer } with buffers := t.buffers, irqPin := t.irqPin } ∧
      ∀ b, t.buffer b = if s.assembling l = some b then { s.buffer b with place := .free } else s.buffer b := by
  subst is
  refine ⟨?_, fun b => ?_⟩
  · rw [State.freeAssembling_eq]
    unfold State.forgetCall forgotten
    cases l <;> rfl
  · have placed : (s.setLine l e).assembling l = s.assembling l := by
      unfold State.assembling
      simp only [State.setLine_buffer]
    have buffer : (((s.setLine l e).freeAssembling l).forgetCall l).driveIrq.buffer b = ((s.setLine l e).freeAssembling l).buffer b :=
      State.setLine_buffer ..
    rw [buffer, State.freeAssembling_buffer, placed, State.setLine_buffer]

end

/-- Settles O57, by the consumer of the line and what it follows. -/
theorem gapAndQuietEnds : Obligations.GapAndQuietEnds := by
  unfold Obligations.GapAndQuietEnds
  intro s l c
  dsimp only
  intro edge row
  obtain ⟨r, silent⟩ : ∃ r, SilentEnd s l c r := by
    obtain ⟨is, reading⟩ | ⟨is, reading⟩ := row
    · exact ⟨_, .inl ⟨is, reading, rfl⟩⟩
    · exact ⟨_, .inr ⟨is, reading, rfl⟩⟩
  refine ⟨fun mastering => ?controller, fun standby => ?observer⟩
  case controller =>
    have on : (s.line l).role ≠ .off := fun off => by rw [off] at mastering; cases mastering
    have here : ((s.setLine l (hunted (s.line l))).line l).role.mastering = true := by rw [line_setLine_self]; exact mastering
    have gives {t : State} (is : (s.setLine l (hunted (s.line l))).controllerReport l r = t) : exec c s = .next t.driveIrq := by
      rw [silent.exec on edge, deliver_of_mastering here, is]
      rfl
    have atEnd (discard : (s.line l).ctl.state = .discard) := controllerReport_discard (s := s) (l := l) (e := hunted (s.line l))
      silent.cases discard
    refine ⟨fun waits => gives (controllerReport_silent_quiet silent.cases waits), fun send => ⟨fun gap => ?_, fun closed => ?_⟩,
      fun receive gap => ?_, fun discard => ⟨fun y faulty => ?_, fun passing elapsed => ?_, fun passing going => ?_⟩⟩
    · exact gives (silent.of_gap gap ▸ controllerReport_send send)
    · exact gives (silent.of_closed closed ▸ controllerReport_send send)
    · exact gives (silent.of_gap gap ▸ controllerReport_gap_receive receive)
    · exact gives ((atEnd discard).trans (discardEnd_faulty (e := hunted (s.line l)) faulty))
    · exact gives ((atEnd discard).trans ((discardEnd_passing (e := hunted (s.line l)) passing).trans (if_pos elapsed)))
    · exact gives ((atEnd discard).trans ((discardEnd_passing (e := hunted (s.line l)) passing).trans (if_neg going)))
  case observer =>
    have on : (s.line l).role ≠ .off := fun off => by rw [off] at standby; cases standby
    have here : ((s.setLine l (hunted (s.line l))).line l).role = .standby := by rw [line_setLine_self]; exact standby
    have followed : ((s.setLine l (hunted (s.line l))).line l).observer = (s.line l).observer := by rw [line_setLine_self]; rfl
    have gives {t : State} (is : (s.setLine l (hunted (s.line l))).observerReport l r = t) : exec c s = .next t.driveIrq := by
      rw [silent.exec on edge, deliver_of_standby here, is]
      rfl
    have freed (is : (s.setLine l (hunted (s.line l))).observerReport l r =
        ((s.setLine l (hunted (s.line l))).freeAssembling l).forgetCall l) : ∃ t, exec c s = .next t ∧ t =
          { s.setLine l { hunted (s.line l) with observer := forgotten (s.line l).observer } with
            buffers := t.buffers, irqPin := t.irqPin } ∧
          ∀ b, t.buffer b = if s.assembling l = some b then { s.buffer b with place := .free } else s.buffer b :=
      ⟨_, gives is, forget_freeAssembling _ rfl⟩
    refine ⟨fun following => gives ?_, fun a k n following gap => gives ?_, fun unmatched => gives ?_,
      fun k a n following gap => freed ?_, fun following => freed ?_⟩
    · obtain rfl | rfl := silent.cases
      · unfold State.observerReport State.observeGap
        rw [followed, following]
        rfl
      · unfold State.observerReport State.observeClosed
        rw [followed, following]
        rfl
    · rw [silent.of_gap gap]
      unfold State.observerReport State.observeGap
      rw [followed, following]
      exact forgetCall_eq
    · obtain following | ⟨following, gap⟩ := unmatched
      · obtain rfl | rfl := silent.cases
        · unfold State.observerReport State.observeGap
          rw [followed, following]
          exact observeUnmatchedEnd_eq
        · unfold State.observerReport State.observeClosed
          rw [followed, following]
          exact observeUnmatchedEnd_eq
      · rw [silent.of_gap gap]
        unfold State.observerReport State.observeGap
        rw [followed, following]
        exact observeUnmatchedEnd_eq
    · rw [silent.of_gap gap]
      unfold State.observerReport State.observeGap
      rw [followed, following]
    · obtain rfl | rfl := silent.cases
      · unfold State.observerReport State.observeGap
        rw [followed, following]
      · unfold State.observerReport State.observeClosed
        rw [followed, following]

end Sys2Proof.Proofs.SilentEnds

/-! What time does while no command waits (log 3): nothing more is due, and one period of the effective source passes. -/

namespace Sys2Proof.Proofs.Period

open Sys2Proof Sys2Proof.Machine

/-! ### Nothing is due -/

section

variable {s : State} {l : Line}

/-- With nothing due no row of the line's list is. -/
theorem not_due (noneDue : s.due = none) (n : Nat) {b : Bool} {c : Instr} (at_n : (s.lineDue l)[n]? = some (b, c)) : b = false := by
  have all : ∀ x ∈ s.partDue ++ s.lineDue .a ++ s.lineDue .b, ¬ x.1 = true := by
    unfold State.due at noneDue
    rwa [Option.map_eq_none_iff, List.find?_eq_none] at noneDue
  have row := List.mem_of_getElem? at_n
  have among : (b, c) ∈ s.partDue ++ s.lineDue .a ++ s.lineDue .b := by
    cases l
    · exact List.mem_append_left _ (List.mem_append_right _ row)
    · exact List.mem_append_right _ row
  exact Bool.eq_false_iff.mpr (all _ among)

/-- What no row being due says of a line's times. -/
theorem times_of_not_due (noneDue : s.due = none) (l : Line) :
    let e := s.line l
    e.cycle.expiryDue = false ∧ (e.role = .standby → e.silence.due = false) ∧
    (e.role ≠ .off → e.rx.state = .huntEdge → e.reader.state ≠ .hunt → e.rx.idle ≤ e.reader.gap) ∧
    (e.ctl.window = .running → e.ctl.state = .await ∨ e.ctl.state = .receive → e.ctl.windowTimer.bits < e.ctl.windowLength) ∧
    (e.ctl.state = .pause → e.ctl.pauseTimer.bits < e.ctl.pauseLength) ∧
    (e.ctl.txn ≠ none → e.ctl.state = .backoff → e.ctl.backoffCount < e.ctl.backoffLength) ∧
    (e.role = .yielding ∨ e.role = .stopping → e.ctl.state.inFlight = true) := by
  have row (n : Nat) {b : Bool} {c : Instr} (at_n : (s.lineDue l)[n]? = some (b, c)) : b = false := not_due noneDue n at_n
  refine ⟨row 7 (c := .cycleTimerExpiry l) rfl, fun standby => ?silence, fun on edge reading => ?gap, fun running counts => ?window,
    fun pause => ?pause, fun inHand backoff => ?backoff, fun leaving => ?flight⟩
  case silence =>
    have silent := row 9 (c := .lineSilent l) rfl
    simpa [standby] using silent
  case gap =>
    have gap := row 10 (c := .gapFault l) rfl
    have quiet := row 11 (c := .quietEnd l) rfl
    cases state : (s.line l).reader.state with
    | hunt => exact absurd state reading
    | inFrame => simpa [LineEngine.idleWith, on, edge, state] using gap
    | flush => simpa [LineEngine.idleWith, on, edge, state] using quiet
  case window =>
    have elapsed := row 12 (c := .responseWindowElapsed l) rfl
    have runs : (s.line l).ctl.windowRuns = true := by
      obtain is | is := counts <;> simp [Controller.windowRuns, running, is]
    simpa [runs] using elapsed
  case pause =>
    have elapsed := row 15 (c := .pauseElapsed l) rfl
    simpa [pause] using elapsed
  case backoff =>
    have elapsed := row 8 (c := .backoffElapsed l) rfl
    simpa [Controller.backoffOver, backoff, Option.isSome_iff_ne_none.mpr inHand] using elapsed
  case flight =>
    have yields := row 5 (c := .yieldEnd l) rfl
    have stops := row 6 (c := .stopEnd l) rfl
    obtain is | is := leaving
    · simpa [LineEngine.mayEnd, is] using yields
    · simpa [LineEngine.mayEnd, is] using stops

end

/-! ### One period, part by part -/

theorem bitTimer_period (t : BitTimer) (divisor : Nat) : t.period divisor = timerAfterPeriod divisor t := by
  unfold BitTimer.period timerAfterPeriod
  by_cases full : 8 * divisor ≤ t.phase + 1
  · rw [if_pos full, if_neg (by omega)]
  · rw [if_neg full, if_pos (by omega)]

theorem echoes_period (xs : List Echo) (divisor : Nat) : xs.map (Echo.period divisor) = echoesAfterPeriod divisor xs := by
  refine List.map_congr_left fun x _ => ?_
  unfold Echo.period
  rw [bitTimer_period]

theorem transmitter_period (x : Transmitter) (divisor : Nat) : x.period divisor = txAfterPeriod divisor x := by
  unfold Transmitter.period txAfterPeriod
  dsimp only
  rw [bitTimer_period, echoes_period]
  cases sending : x.sending with
  | none =>
    dsimp only
    by_cases waits : x.echoes = []
    · have still : echoesAfterPeriod divisor x.echoes = x.echoes := by rw [waits]; rfl
      rw [if_pos waits, still, if_pos (by simp [waits]), ← sending]
    · rw [if_neg waits, if_neg (by simp [echoesAfterPeriod, waits])]
  | some c =>
    dsimp only
    by_cases ended : 11 ≤ (timerAfterPeriod divisor x.timer).bits
    · rw [if_pos ended, if_neg (by omega)]
      unfold Transmitter.charEnd Transmitter.begin Transmitter.endEchoes
      cases x.stop <;> cases x.toSend <;> rfl
    · rw [if_neg ended, if_pos (by omega)]
      rfl

theorem openStamp_period (x : Option OpenStamp) : x.bind OpenStamp.period = stampAfter 1 x := by
  cases x with
  | none => rfl
  | some x =>
    unfold stampAfter
    simp only [Option.bind_some, OpenStamp.period, Nat.lt_one_iff]

/-- The samples of a bit that are recorded, 3, 4 and 5 of its eight, by the count before the sample (R3 to R5). -/
theorem recorded_iff (n : Nat) : (3 ≤ (n + 1 - 1) % 8 + 1 ∧ (n + 1 - 1) % 8 + 1 ≤ 5) ↔ n % 8 = 2 ∨ n % 8 = 3 ∨ n % 8 = 4 := by
  omega

theorem receiver_period (e : LineEngine) (l : Line) (level : Bool) : e.rx.period l e.divisor level = rxAfterPeriod l e level := by
  unfold Receiver.period rxAfterPeriod
  dsimp only
  by_cases sampled : e.divisor ≤ e.rx.phase + 1
  · rw [if_pos sampled, if_neg (by omega)]
    unfold Receiver.sample
    dsimp only
    cases e.rx.state with
    | waitHigh => cases level <;> rfl
    | huntEdge =>
      cases level
      · rfl
      · dsimp only
        rw [if_pos rfl]
        unfold Receiver.idleSample
        simp only [Nat.pos_iff_ne_zero, ne_eq]
        by_cases tail : e.rx.stopTail = 0
        · by_cases full : 7 ≤ e.rx.idleSamples
          · rw [if_neg (by simp [tail]), if_pos full, if_neg (by simp [tail]), if_neg (by omega)]
            rfl
          · rw [if_neg (by simp [tail]), if_neg full, if_neg (by simp [tail]), if_pos (by omega)]
        · rw [if_pos tail, if_pos tail]
    | receiving =>
      unfold Receiver.charSample voteOf
      simp only [recorded_iff, Nat.reduceEqDiff]
      generalize (if e.rx.sampleNo % 8 = 2 ∨ e.rx.sampleNo % 8 = 3 ∨ e.rx.sampleNo % 8 = 4 then e.rx.samples ++ [level]
        else e.rx.samples) = taken
      split
      · rfl
      · split <;> rfl
  · rw [if_neg sampled, if_pos (by omega)]

theorem controller_period (c : Controller) (divisor : Nat) : c.period divisor = { c with
    windowTimer := if c.window = .running ∧ (c.state = .await ∨ c.state = .receive ∨
      (c.state = .discard ∧ c.discard = .passing)) then timerAfterPeriod divisor c.windowTimer else c.windowTimer
    pauseTimer := if c.state = .pause then timerAfterPeriod divisor c.pauseTimer else c.pauseTimer } := by
  have runs : c.windowRuns = true ↔ c.window = .running ∧ (c.state = .await ∨ c.state = .receive ∨
      (c.state = .discard ∧ c.discard = .passing)) := by
    simp [Controller.windowRuns, or_assoc]
  unfold Controller.period
  simp only [bitTimer_period, runs]

theorem observer_period (o : Observer) (divisor : Nat) : o.period divisor =
    if o.lead = 0 then { o with timer := timerAfterPeriod divisor o.timer } else { o with lead := o.lead - 1 } := by
  unfold Observer.period
  rw [bitTimer_period]
  by_cases led : o.lead = 0
  · rw [if_pos led, if_neg (by omega)]
  · rw [if_neg led, if_pos (by omega)]

theorem observerTimerRuns_iff (e : LineEngine) :
    e.observerTimerRuns = true ↔ e.role = .standby ∧ e.observer.call ≠ none ∧ e.observer.elapsed = false := by
  simp [LineEngine.observerTimerRuns, Option.isSome_iff_ne_none, and_assoc]

/-- One period on a line that is not OFF, with the rows at its end. -/
theorem lineEngine_period {e : LineEngine} (on : e.role ≠ .off) (l : Line) : e.period l =
    ({ e with
        rx := (rxAfterPeriod l e (!e.tx.enable || e.tx.pin)).1
        tx := txAfterPeriod e.divisor e.tx
        stamping := stampAfter 1 e.stamping
        ctl := { e.ctl with
          windowTimer := if e.ctl.window = .running ∧ (e.ctl.state = .await ∨ e.ctl.state = .receive ∨
            (e.ctl.state = .discard ∧ e.ctl.discard = .passing)) then timerAfterPeriod e.divisor e.ctl.windowTimer
            else e.ctl.windowTimer
          pauseTimer := if e.ctl.state = .pause then timerAfterPeriod e.divisor e.ctl.pauseTimer else e.ctl.pauseTimer }
        observer := if e.role = .standby ∧ e.observer.call ≠ none ∧ e.observer.elapsed = false then
            (if e.observer.lead = 0 then { e.observer with timer := timerAfterPeriod e.divisor e.observer.timer }
             else { e.observer with lead := e.observer.lead - 1 })
          else e.observer },
      (rxAfterPeriod l e (!e.tx.enable || e.tx.pin)).2) := by
  unfold LineEngine.period
  dsimp only
  rw [if_neg on, receiver_period, transmitter_period, controller_period, observer_period, openStamp_period]
  simp only [observerTimerRuns_iff]
  rfl

theorem lineEngine_period_off {e : LineEngine} (off : e.role = .off) (l : Line) :
    e.period l = ({ e with stamping := stampAfter 1 e.stamping }, []) := by
  unfold LineEngine.period
  dsimp only
  rw [if_pos off, openStamp_period]

theorem lineEngine_rows (e : LineEngine) (l : Line) :
    (e.period l).2 = if e.role = .off then [] else (rxAfterPeriod l e (!e.tx.enable || e.tx.pin)).2 := by
  by_cases off : e.role = .off
  · rw [lineEngine_period_off off, if_pos off]
  · rw [lineEngine_period off, if_neg off]

theorem clockUnit_period (c : ClockUnit) : c.period =
    ({ c with prescaler := c.prescaler + 1
              quiet := if c.effective = .xref then 0
                else if c.xrefEnable = true ∧ c.monitor ≠ .absent then c.quiet + 1 else c.quiet },
      if c.divider.toNat * 64 ≤ c.prescaler + 1 then [.tick] else []) := by
  have due : c.toTick ≤ 1 ↔ c.divider.toNat * 64 ≤ c.prescaler + 1 := by
    unfold ClockUnit.toTick
    omega
  unfold ClockUnit.period
  cases is : c.effective <;> simp [due]

theorem period_line (s : State) (l : Line) : s.period.line l = ((s.line l).period l).1 := by
  cases l <;> rfl

/-- Settles O16: nothing more is due, and one period by its parts. -/
theorem emptyQueueLetsTimePass : Obligations.EmptyQueueLetsTimePass := by
  unfold Obligations.EmptyQueueLetsTimePass
  refine ⟨fun s c empty due => ?taken, fun s noneDue l => times_of_not_due noneDue l, fun s empty noneDue => ?passes⟩
  case taken =>
    unfold step
    rw [empty, due]
  case passes =>
    have stepped : step s = .next s.period := by
      unfold step
      rw [empty, noneDue]
    refine ⟨_, stepped, ?_, fun l => ⟨fun off => ?_, fun on => ?_⟩⟩
    · dsimp only
      rw [← lineEngine_rows (s.line .a) .a, ← lineEngine_rows (s.line .b) .b]
      have clock := clockUnit_period s.clock
      unfold State.period
      rw [clock, empty]
      rfl
    · rw [period_line, lineEngine_period_off off]
    · rw [period_line, lineEngine_period on]

end Sys2Proof.Proofs.Period

/-! The access port: the objects by their bytes (R179), the selection (R171) and the data writes by the owners of the fields
(R173). -/

namespace Sys2Proof.Proofs.AccessPort

open Sys2Proof Sys2Proof.Machine Sys2Proof.Proofs.ClockRegisters Sys2Proof.Proofs.DropTable

/-! ### The layouts (R179) -/

theorem flagField_one (a : Bool) : flagField [a] = flagBit a 0 := by
  cases a <;> rfl

theorem flagField_two (a b : Bool) : flagField [a, b] = flagBit a 0 ||| flagBit b 1 := by
  cases a <;> cases b <;> rfl

theorem flagField_three (a b c : Bool) : flagField [a, b, c] = flagBit a 0 ||| flagBit b 1 ||| flagBit c 2 := by
  cases a <;> cases b <;> cases c <;> rfl

theorem fieldOrNone_eq {α : Type} (f : α → Nat) (x : Option α) : fieldOrNone (x.map f) = noneOr (fun a => byteOf (f a)) x := by
  cases x <;> rfl

/-- The two halves of a timestamp give its four bytes, the most significant one first. -/
theorem halfField_stamp (x : Stamp) (rest : List Byte) :
    halfField ((x >>> 16).setWidth 16) ++ (halfField (x.setWidth 16) ++ rest) =
      [stampByte x 3, stampByte x 2, stampByte x 1, stampByte x 0] ++ rest := by
  have upper : (((x >>> 16).setWidth 16 : Half) >>> 8).setWidth 8 = stampByte x 3 := by
    apply BitVec.eq_of_toNat_eq
    simp [stampByte, Nat.shiftRight_eq_div_pow]
    omega
  have second : ((x >>> 16).setWidth 16 : Half).setWidth 8 = stampByte x 2 := by
    apply BitVec.eq_of_toNat_eq
    simp [stampByte, Nat.shiftRight_eq_div_pow]
  have third : ((x.setWidth 16 : Half) >>> 8).setWidth 8 = stampByte x 1 := by
    apply BitVec.eq_of_toNat_eq
    simp [stampByte, Nat.shiftRight_eq_div_pow]
    omega
  have lowest : (x.setWidth 16 : Half).setWidth 8 = stampByte x 0 := by
    apply BitVec.eq_of_toNat_eq
    simp [stampByte]
  unfold halfField
  rw [upper, second, third, lowest]
  rfl

theorem heldBy_isSome (s : State) (g : Tag) : (s.heldBy g).isSome = decide (∃ b, (s.buffer b).place = .held g) := by
  rw [Bool.eq_iff_iff, decide_eq_true_iff, Option.isSome_iff_exists]
  refine ⟨fun ⟨b, found⟩ => ⟨b, State.heldBy_place found⟩, fun ⟨b, held⟩ => ?_⟩
  rw [← Option.isSome_iff_exists, Option.isSome_iff_ne_none]
  exact fun noneHeld => State.heldBy_eq_none.mp noneHeld b held

theorem openBuffer_eq (s : State) : s.openBuffer = match s.opened, s.ready with
    | true, b :: _ => some b
    | _, _ => none := by
  unfold State.openBuffer
  cases s.opened <;> cases s.ready <;> rfl

/-- The bytes of each object are laid out as R179 says. -/
theorem objectBytes_eq (s : State) (o : ObjectSel) : s.objectBytes o = layoutOf s o := by
  cases o with
  | drop d =>
    simp only [State.objectBytes, layoutOf, flagField_three]
    rfl
  | sched l n =>
    have entry : Entry.bytes = fun
        | .poll d => [1, numField d.val]
        | .sync => [2, 0]
        | .pause k => [3, numField k] := by
      funext x
      cases x <;> rfl
    simp only [State.objectBytes, layoutOf, Bank.bytes, entry]
    rfl
  | staging => rfl
  | slot g =>
    simp only [State.objectBytes, layoutOf, flagField_three, ← heldBy_isSome]
    cases x : (s.slot g).retry <;> simp [Slot.bytes, halfField, x, fieldOrNone, noneOr, msb, lsb, byteOf, numField]
  | buffer =>
    simp only [State.objectBytes, layoutOf, openBuffer_eq]
    cases s.opened with
    | false => rfl
    | true =>
      cases s.ready with
      | nil => rfl
      | cons b rest =>
        dsimp only
        simp only [List.append_assoc, halfField_stamp, flagField_two, fieldOrNone_eq]
        rfl
  | params l =>
    simp only [State.objectBytes, layoutOf, flagField_three]
    rfl
  | counters l => rfl

/-! ### The selection (R171) -/

theorem bank_length (b : Bank) : b.bytes.length = 49 := by
  have entry (x : Entry) : x.bytes.length = 2 := by cases x <;> rfl
  unfold Bank.bytes
  rw [List.length_cons, List.length_flatMap]
  simp only [entry, List.map_const', List.sum_replicate, Vector.length_toList]
  rfl

theorem objectBytes_length {s : State} {o : ObjectSel} (isOpen : o = .buffer → s.openBuffer.isSome) :
    (s.objectBytes o).length = o.size := by
  cases o with
  | drop d => rfl
  | sched l n => exact bank_length _
  | staging => simp [State.objectBytes, Staging.bytes, ObjectSel.size]
  | slot g => rfl
  | buffer =>
    obtain ⟨b, opened⟩ := Option.isSome_iff_exists.mp (isOpen rfl)
    simp [State.objectBytes, opened, Buffer.bytes, ObjectSel.size]
  | params l => rfl
  | counters l => rfl

section

variable {s : State} {code index : Byte}

theorem named_none (is : code.toNat = 0) : s.objectNamed code index = .ok none := by
  unfold State.objectNamed
  simp only [is]

theorem named_drop (is : code.toNat = 1) (h : index.toNat < 32) :
    s.objectNamed code index = .ok (some (.drop ⟨index.toNat, h⟩)) := by
  unfold State.objectNamed
  simp only [is]
  rw [dropOf_eq_some (d := ⟨index.toNat, h⟩) rfl]

theorem named_sched (is : code.toNat = 2) :
    (index.toNat = 0 → s.objectNamed code index = .ok (some (.sched .a false))) ∧
    (index.toNat = 1 → s.objectNamed code index = .ok (some (.sched .a true))) ∧
    (index.toNat = 2 → s.objectNamed code index = .ok (some (.sched .b false))) ∧
    (index.toNat = 3 → s.objectNamed code index = .ok (some (.sched .b true))) := by
  unfold State.objectNamed
  simp only [is]
  exact ⟨fun h => by simp only [h], fun h => by simp only [h], fun h => by simp only [h], fun h => by simp only [h]⟩

theorem named_staging (is : code.toNat = 3) (h : index.toNat = 0) : s.objectNamed code index = .ok (some .staging) := by
  unfold State.objectNamed
  rw [is]
  exact if_pos (BitVec.eq_of_toNat_eq h)

theorem named_slot (is : code.toNat = 4) (h : index.toNat < 16) :
    s.objectNamed code index = .ok (some (.slot ⟨index.toNat, h⟩)) := by
  have tag : tagOf index = some ⟨index.toNat, h⟩ := dif_pos h
  unfold State.objectNamed
  simp only [is]
  rw [tag]

theorem named_buffer (is : code.toNat = 5) (h : index.toNat = 0) :
    s.objectNamed code index = if s.openBuffer.isSome then .ok (some .buffer) else .error .noneOpen := by
  unfold State.objectNamed
  rw [is]
  exact if_neg (not_not.mpr (BitVec.eq_of_toNat_eq h))

/-- An index that is the code of a line names the line. -/
theorem lineOf_of_toNat {l : Line} (h : index.toNat = l.code.toNat) : lineOf index = some l := by
  rw [BitVec.eq_of_toNat_eq h, lineOf_code]

theorem named_params {l : Line} (is : code.toNat = 6) (h : index.toNat = l.code.toNat) :
    s.objectNamed code index = .ok (some (.params l)) := by
  unfold State.objectNamed
  simp only [is]
  rw [lineOf_of_toNat h]

theorem named_counters {l : Line} (is : code.toNat = 7) (h : index.toNat = l.code.toNat) :
    s.objectNamed code index = .ok (some (.counters l)) := by
  unfold State.objectNamed
  simp only [is]
  rw [lineOf_of_toNat h]

/-- A code or an index out of range names no object. -/
theorem named_badObject (out : (code.toNat = 1 ∧ 32 ≤ index.toNat) ∨ (code.toNat = 2 ∧ 4 ≤ index.toNat) ∨
    (code.toNat = 3 ∧ 1 ≤ index.toNat) ∨ (code.toNat = 4 ∧ 16 ≤ index.toNat) ∨ (code.toNat = 5 ∧ 1 ≤ index.toNat) ∨
    (code.toNat = 6 ∧ 2 ≤ index.toNat) ∨ (code.toNat = 7 ∧ 2 ≤ index.toNat) ∨ 8 ≤ code.toNat) :
    s.objectNamed code index = .error .badObject := by
  have nonzero (h : 1 ≤ index.toNat) : index ≠ 0 := by rintro rfl; exact absurd h (by decide)
  have noTag (h : 16 ≤ index.toNat) : tagOf index = none := dif_neg (by omega)
  unfold State.objectNamed
  obtain ⟨is, h⟩ | ⟨is, h⟩ | ⟨is, h⟩ | ⟨is, h⟩ | ⟨is, h⟩ | ⟨is, h⟩ | ⟨is, h⟩ | h := out
  · simp only [is]
    rw [dropOf_eq_none h]
  · simp only [is]
    split
    case h_5 => rfl
    all_goals omega
  · simp only [is]
    exact if_neg (nonzero h)
  · simp only [is]
    rw [noTag h]
  · simp only [is]
    exact if_pos (nonzero h)
  · simp only [is]
    rw [lineOf_eq_none h]
  · simp only [is]
    rw [lineOf_eq_none h]
  · split
    case h_9 => rfl
    all_goals omega

/-- BUFFER is named only with a buffer open (R171). -/
theorem openBuffer_of_named (named : s.objectNamed code index = .ok (some .buffer)) : s.openBuffer.isSome := by
  unfold State.objectNamed at named
  split at named
  case h_1 | h_9 => cases named
  case h_2 | h_3 | h_5 | h_7 | h_8 => split at named <;> cases named
  case h_4 =>
    split_ifs at named
    cases named
  case h_6 =>
    split_ifs at named with other isOpen
    exact isOpen

/-! ### The row of a selection -/

/-- What a write of a selector register selects, and the status with it. -/
def picked (s : State) (code index : Byte) : Option ObjectSel × AccessStatus :=
  match s.objectNamed code index with
  | .ok o => (o, .none)
  | .error why => (none, why)

theorem selectObject_eq (s : State) : s.selectObject =
    s.setSelection (picked s s.bus.objectReg s.bus.indexReg).1 (picked s s.bus.objectReg s.bus.indexReg).2 := by
  unfold State.selectObject picked
  cases s.objectNamed s.bus.objectReg s.bus.indexReg <;> rfl

theorem picked_of_named {o : Option ObjectSel} (named : s.objectNamed code index = .ok o) : picked s code index = (o, .none) := by
  unfold picked
  rw [named]

theorem picked_of_refused {why : AccessStatus} (named : s.objectNamed code index = .error why) :
    picked s code index = (none, why) := by
  unfold picked
  rw [named]

/-- An object selected is one that is named. -/
theorem named_of_picked {o : ObjectSel} (is : (picked s code index).1 = some o) : s.objectNamed code index = .ok (some o) := by
  cases named : s.objectNamed code index with
  | ok x => rw [picked_of_named named] at is; rw [show x = some o from is]
  | error why => rw [picked_of_refused named] at is; cases is

end

/-- The selector registers after a write of one of them. -/
def selectors (u : BusUnit) (r : SelectReg) (v : Byte) : Byte × Byte :=
  match r with
  | .object => (v, u.indexReg)
  | .index => (u.objectReg, v)

/-- The bus unit after a selection (R171). -/
def selection (s : State) (code index : Byte) : BusUnit :=
  { s.bus with objectReg := code, indexReg := index, hold := none, offset := 0, selected := (picked s code index).1
               status := (picked s code index).2
               snapshot := match (picked s code index).1 with
                 | some o => s.objectBytes o
                 | none => [] }

section

variable {s : State} {code index : Byte}

theorem selection_of_none (is : (picked s code index).1 = none) :
    (selection s code index).snapshot = [] ∧ (selection s code index).size = 0 := by
  unfold selection BusUnit.size
  rw [is]
  exact ⟨rfl, rfl⟩

theorem selection_of_some {o : ObjectSel} (is : (picked s code index).1 = some o) :
    (selection s code index).snapshot = s.objectBytes o ∧ (selection s code index).size = o.size ∧
      (selection s code index).status = .none := by
  have named := picked_of_named (named_of_picked is)
  unfold selection BusUnit.size
  rw [named]
  exact ⟨rfl, rfl, rfl⟩

end

theorem exec_accessSelect {s : State} (writable : s.writable) (r : SelectReg) (v : Byte) : exec (.accessSelect r v) s =
    finish { s with bus := selection s (selectors s.bus r v).1 (selectors s.bus r v).2 } := by
  cases r
  · exact (congrArg finish (write_of_writable writable 0x08 v)).trans (congrArg finish (selectObject_eq _))
  · exact (congrArg finish (write_of_writable writable 0x09 v)).trans (congrArg finish (selectObject_eq _))

/-- Settles O21: the layouts, and the selection by what the selector registers name. -/
theorem accessSelectTakesSnapshot : Obligations.AccessSelectTakesSnapshot := by
  unfold Obligations.AccessSelectTakesSnapshot
  refine ⟨objectBytes_eq, fun s r v writable => ⟨_, exec_accessSelect writable r v, rfl, ?_⟩⟩
  generalize registers : selectors s.bus r v = named
  obtain ⟨code, index⟩ := named
  change (_ → code = v ∧ index = s.bus.indexReg) ∧ (_ → code = s.bus.objectReg ∧ index = v) ∧ _
  have noOpen (shut : s.opened = false) : ¬ s.openBuffer.isSome = true := by simp [State.openBuffer, shut]
  have isOpen (opened : s.opened = true) (some : s.ready ≠ []) : s.openBuffer.isSome = true := by
    obtain ⟨b, rest, is⟩ := List.exists_cons_of_ne_nil some
    simp [State.openBuffer, opened, is]
  have selects {o : Option ObjectSel} (is : s.objectNamed code index = .ok o) : (picked s code index).1 = o :=
    congrArg Prod.fst (picked_of_named is)
  have refuses {why : AccessStatus} (is : s.objectNamed code index = .error why) :
      (picked s code index).1 = none ∧ (picked s code index).2 = why :=
    Prod.ext_iff.mp (picked_of_refused is)
  refine ⟨fun object => ?_, fun index => ?_, fun noneSelected => ⟨?_, ?_⟩, fun o is => ⟨?_, ?_, ?_, ?_⟩,
    fun c => Prod.ext_iff.mp (picked_of_named (named_none c)), fun h c => selects (named_drop c h),
    fun c => ⟨fun i => selects ((named_sched c).1 i), fun i => selects ((named_sched c).2.1 i),
      fun i => selects ((named_sched c).2.2.1 i), fun i => selects ((named_sched c).2.2.2 i)⟩,
    fun c i => selects (named_staging c i), fun h c => selects (named_slot c h),
    fun c i opened some => selects ((named_buffer c i).trans (if_pos (isOpen opened some))),
    fun c i shut => refuses ((named_buffer c i).trans (if_neg (noOpen shut))),
    fun c => ⟨fun i => selects (named_params c i), fun i => selects (named_params c i)⟩,
    fun c => ⟨fun i => selects (named_counters c i), fun i => selects (named_counters c i)⟩,
    fun out => refuses (named_badObject out)⟩
  · subst object
    exact ⟨(Prod.ext_iff.mp registers).1.symm, (Prod.ext_iff.mp registers).2.symm⟩
  · subst index
    exact ⟨(Prod.ext_iff.mp registers).1.symm, (Prod.ext_iff.mp registers).2.symm⟩
  · exact (selection_of_none noneSelected).1
  · exact congrArg byteOf (selection_of_none noneSelected).2
  · exact (selection_of_some is).1
  · refine (congrArg List.length (selection_of_some is).1).trans (objectBytes_length fun buffer => ?_)
    exact openBuffer_of_named (buffer ▸ named_of_picked is)
  · exact congrArg byteOf (selection_of_some is).2.1
  · exact (selection_of_some is).2.2

end Sys2Proof.Proofs.AccessPort

/-! Data writes at the access port, by the part of its field that the byte is and the owner's judgement (R173). -/

namespace Sys2Proof.Proofs.DataWrites

open Sys2Proof Sys2Proof.Machine Sys2Proof.Proofs.ClockRegisters Sys2Proof.Proofs.DropTable Sys2Proof.Proofs.AccessPort

/-! ### The row -/

section

variable {s t : State} {o : ObjectSel} {k : Nat} {v hi : Byte} {why : AccessStatus}

theorem exec_accessDataWrite (writable : s.writable) (v : Byte) : exec (.accessDataWrite v) s = finish (s.writeData v) :=
  congrArg finish (write_of_writable writable 0x0B v)

theorem exec_of_atField (writable : s.writable) (field : s.atField o k) (v : Byte) :
    exec (.accessDataWrite v) s = finish ((s.writeObject o k v).modBus (·.advance)) := by
  obtain ⟨selected, offset, inside, -⟩ := field
  rw [exec_accessDataWrite writable]
  unfold State.writeData
  rw [selected, offset]
  exact congrArg finish (if_neg (by omega))

/-- The offset advances inside an object. -/
theorem advance_eq {u : BusUnit} (selected : u.selected = some o) (offset : u.offset = k) (inside : k < o.size) :
    u.advance = { u with offset := k + 1 } := by
  unfold BusUnit.advance
  rw [WindowReads.size_of_selected selected, offset, min_eq_right (by omega)]

theorem exec_upper (writable : s.writable) (field : s.atField o k) (part : o.part k = .upper) :
    exec (.accessDataWrite v) s = .next (s.writeRefused k (some (.field o k, v)) .none) := by
  rw [exec_of_atField writable field]
  obtain ⟨selected, offset, inside, -⟩ := field
  unfold State.writeObject State.writeRefused
  rw [part]
  refine congrArg finish (congrArg (fun u => { s with bus := u }) ?_)
  exact advance_eq (u := { s.bus with hold := some (.field o k, v), status := .none }) selected offset inside

theorem exec_byte_refused (writable : s.writable) (field : s.atField o k) (part : o.part k = .byte)
    (judged : s.commitByte o k v = .error why) :
    exec (.accessDataWrite v) s = .next (s.writeRefused k s.bus.hold why) := by
  rw [exec_of_atField writable field]
  obtain ⟨selected, offset, inside, -⟩ := field
  unfold State.writeObject State.writeRefused
  rw [part, judged]
  refine congrArg finish (congrArg (fun u => { s with bus := u }) ?_)
  exact advance_eq (u := { s.bus with status := why }) selected offset inside

theorem exec_lower_refused (writable : s.writable) (field : s.atField o k) (part : o.part k = .lower)
    (judged : s.emptyHold.commitHalf o k (s.upperHalf (.field o (k - 1)) ((s.objectBytes o).getD (k - 1) 0)) v = .error why) :
    exec (.accessDataWrite v) s = .next (s.writeRefused k none why) := by
  rw [exec_of_atField writable field]
  obtain ⟨selected, offset, inside, -⟩ := field
  unfold State.writeObject State.writeRefused
  rw [part]
  dsimp only
  rw [judged]
  refine congrArg finish (congrArg (fun u => { s with bus := u }) ?_)
  exact advance_eq (u := { s.bus with hold := none, status := why }) selected offset inside

theorem take_append_drop_one (xs : List Byte) (inside : k < xs.length) : xs.take k ++ [v] ++ xs.drop (k + 1) = xs.set k v := by
  rw [List.set_eq_take_append_cons_drop, if_pos inside]
  simp

theorem take_append_drop_two (xs : List Byte) {j : Nat} (inside : j + 1 < xs.length) :
    xs.take j ++ [hi, v] ++ xs.drop (j + 2) = (xs.set j hi).set (j + 1) v := by
  induction xs generalizing j with
  | nil => simp at inside
  | cons x xs ih =>
    cases j with
    | zero =>
      cases xs with
      | nil => simp at inside
      | cons y ys => simp
    | succ j => simpa using ih (j := j) (by simpa using inside)

theorem exec_byte_taken (writable : s.writable) (field : s.atField o k) (part : o.part k = .byte)
    (judged : s.commitByte o k v = .ok t) (bus : t.bus = s.bus) :
    exec (.accessDataWrite v) s = finish { t with bus := s.bus.tookByte k v } := by
  rw [exec_of_atField writable field]
  obtain ⟨selected, offset, inside, length⟩ := field
  unfold State.writeObject
  rw [part, judged]
  refine congrArg finish (congrArg (fun u => { t with bus := u }) ?_)
  change BusUnit.advance { t.bus with snapshot := t.bus.snapshot.take k ++ [v] ++ t.bus.snapshot.drop (k + 1), status := .none } = _
  rw [bus, take_append_drop_one _ (by omega)]
  exact advance_eq (u := { s.bus with snapshot := s.bus.snapshot.set k v, status := .none }) selected offset inside

theorem exec_lower_taken (writable : s.writable) (field : s.atField o k) (part : o.part k = .lower) (second : 1 ≤ k)
    (upper : s.upperHalf (.field o (k - 1)) ((s.objectBytes o).getD (k - 1) 0) = hi)
    (judged : s.emptyHold.commitHalf o k hi v = .ok t) (bus : t.bus = { s.bus with hold := none }) :
    exec (.accessDataWrite v) s = finish { t with bus := s.bus.tookHalf k hi v } := by
  rw [exec_of_atField writable field]
  obtain ⟨selected, offset, inside, length⟩ := field
  unfold State.writeObject
  rw [part]
  dsimp only
  rw [upper, judged]
  refine congrArg finish (congrArg (fun u => { t with bus := u }) ?_)
  change BusUnit.advance { t.bus with snapshot := t.bus.snapshot.take (k - 1) ++ [hi, v] ++ t.bus.snapshot.drop (k - 1 + 2)
                                      status := .none } = _
  rw [bus]
  dsimp only
  rw [take_append_drop_two _ (by omega), show k - 1 + 1 = k by omega]
  exact advance_eq (u := { s.bus with hold := none, snapshot := (s.bus.snapshot.set (k - 1) hi).set k v, status := .none })
    selected offset inside

theorem upperHalf_of_upperIs {current : Byte} (upper : s.upperIs o k current hi) : s.upperHalf (.field o (k - 1)) current = hi := by
  obtain held | ⟨notHeld, is⟩ := upper
  · exact upperHalf_of_held held
  · rw [upperHalf_of_not_held notHeld, is]

end

/-! ### The staging area (R91) -/

theorem staging_write_bytes (x : Staging) (k : Nat) (v : Byte) : (x.write k v).bytes = x.bytes.set k v := by
  match k with
  | 0 | 1 | 2 | 3 => rfl
  | j + 4 => simp [Staging.write, Staging.bytes]

/-! ### Drop records (R37) -/

theorem inRange_eq_none {lo hi n : Nat} : inRange lo hi n = none ↔ ¬ (lo ≤ n ∧ n ≤ hi) := by
  unfold inRange
  split_ifs with fits
  · simp [fits]
  · simp [fits]

theorem inRange_of_fits {lo hi n : Nat} (fits : lo ≤ n ∧ n ≤ hi) : inRange lo hi n = some n :=
  if_pos fits

section

variable {v : Byte}

theorem byte_cases_two (fits : v.toNat ≤ 1) : v = 0 ∨ v = 1 := by
  obtain is | is : v.toNat = 0 ∨ v.toNat = 1 := by omega
  · exact .inl (BitVec.eq_of_toNat_eq is)
  · exact .inr (BitVec.eq_of_toNat_eq is)

theorem byte_cases_three (fits : v.toNat ≤ 2) : v = 0 ∨ v = 1 ∨ v = 2 := by
  obtain small | is : v.toNat ≤ 1 ∨ v.toNat = 2 := by omega
  · exact (byte_cases_two small).imp_right .inl
  · exact .inr (.inr (BitVec.eq_of_toNat_eq is))

theorem ne_of_large (large : 2 < v.toNat) : v ≠ 0 ∧ v ≠ 1 ∧ v ≠ 2 := by
  refine ⟨?_, ?_, ?_⟩ <;> (rintro rfl; exact absurd large (by decide))

theorem lineOf_of_fits (fits : v.toNat ≤ 1) : ∃ l : Line, lineOf v = some l ∧ l.code = v := by
  obtain rfl | rfl := byte_cases_two fits
  · exact ⟨.a, rfl, rfl⟩
  · exact ⟨.b, rfl, rfl⟩

theorem replyPolicyOf_of_fits (fits : v.toNat ≤ 2) : ∃ p : ReplyPolicy, replyPolicyOf v = some p ∧ p.code = v := by
  obtain rfl | rfl | rfl := byte_cases_three fits
  · exact ⟨.queue, rfl, rfl⟩
  · exact ⟨.replace, rfl, rfl⟩
  · exact ⟨.discard, rfl, rfl⟩

theorem replyPolicyOf_eq_none (large : 2 < v.toNat) : replyPolicyOf v = none := by
  obtain ⟨not0, not1, not2⟩ := ne_of_large large
  unfold replyPolicyOf
  rw [if_neg not0, if_neg not1, if_neg not2]

theorem attnPolicyOf_of_fits (fits : v.toNat ≤ 2) : ∃ p : AttnPolicy, attnPolicyOf v = some p ∧ p.code = v := by
  obtain rfl | rfl | rfl := byte_cases_three fits
  · exact ⟨.ignore, rfl, rfl⟩
  · exact ⟨.report, rfl, rfl⟩
  · exact ⟨.extraPoll, rfl, rfl⟩

theorem attnPolicyOf_eq_none (large : 2 < v.toNat) : attnPolicyOf v = none := by
  obtain ⟨not0, not1, not2⟩ := ne_of_large large
  unfold attnPolicyOf
  rw [if_neg not0, if_neg not1, if_neg not2]

theorem byteOf_toNat (v : Byte) : byteOf v.toNat = v :=
  BitVec.eq_of_toNat_eq (by simp [byteOf])

theorem address_toByte (fits : v.toNat ≤ 127) : (v.setWidth 7).setWidth 8 = v := by
  apply BitVec.eq_of_toNat_eq
  simp
  omega

variable {x : Drop} {k : Nat}

theorem drop_write_eq_none (inside : k < 7) (misfits : ¬ dropValueFits k v) : x.write k v = none := by
  match k with
  | 0 => exact Option.map_eq_none_iff.mpr (inRange_eq_none.mpr (by omega))
  | 1 => exact Option.map_eq_none_iff.mpr (lineOf_eq_none (by omega))
  | 2 => exact Option.map_eq_none_iff.mpr (inRange_eq_none.mpr (by omega))
  | 3 => exact Option.map_eq_none_iff.mpr (inRange_eq_none.mpr (by omega))
  | 4 => exact Option.map_eq_none_iff.mpr (inRange_eq_none.mpr (by omega))
  | 5 => exact Option.map_eq_none_iff.mpr (replyPolicyOf_eq_none (by omega))
  | 6 => exact Option.map_eq_none_iff.mpr (attnPolicyOf_eq_none (by omega))

/-- A configuration value that fits is taken, and shows at its offset (R37). -/
theorem drop_write_of_fits (inside : k < 7) (fits : dropValueFits k v) :
    ∃ y, x.write k v = some y ∧ y.bytes = x.bytes.set k v := by
  have number {lo hi : Nat} (inside : lo ≤ v.toNat ∧ v.toNat ≤ hi) (f : Nat → Drop) :
      (inRange lo hi v.toNat).map f = some (f v.toNat) := by
    rw [inRange_of_fits inside]
    rfl
  match k with
  | 0 =>
    refine ⟨_, number (by omega) _, ?_⟩
    simp [Drop.bytes, address_toByte (v := v) (by omega)]
  | 1 =>
    obtain ⟨l, named, code⟩ := lineOf_of_fits (v := v) (by omega)
    refine ⟨_, congrArg (Option.map _) named, ?_⟩
    simp [Drop.bytes, code]
  | 2 =>
    refine ⟨_, number (by omega) _, ?_⟩
    simp [Drop.bytes, byteOf_toNat]
  | 3 =>
    refine ⟨_, number (by omega) _, ?_⟩
    simp [Drop.bytes, byteOf_toNat]
  | 4 =>
    refine ⟨_, number (by omega) _, ?_⟩
    simp [Drop.bytes, byteOf_toNat]
  | 5 =>
    obtain ⟨p, named, code⟩ := replyPolicyOf_of_fits (v := v) (by omega)
    refine ⟨_, congrArg (Option.map _) named, ?_⟩
    simp [Drop.bytes, code]
  | 6 =>
    obtain ⟨p, named, code⟩ := attnPolicyOf_of_fits (v := v) (by omega)
    refine ⟨_, congrArg (Option.map _) named, ?_⟩
    simp [Drop.bytes, code]

end

/-- The objects of which no field is written by the host: what a data write finds, part by part. -/
theorem part_of_readOnly {o : ObjectSel} {k : Nat} {halves : List Nat} (readOnly : readOnlyHalves o = some halves) (inside : k < o.size) :
    (k ∈ halves → o.part k = .upper) ∧ (k ∈ halves.map (· + 1) → o.part k = .lower) ∧
      (k ∉ halves → k ∉ halves.map (· + 1) → o.part k = .byte) ∧ o.writable k = false := by
  cases o with
  | drop d => cases readOnly
  | sched l n => cases readOnly
  | staging => cases readOnly
  | params l => cases readOnly
  | slot g =>
    cases readOnly
    simp +contextual [ObjectSel.part, ObjectSel.writable]
  | buffer =>
    cases readOnly
    simp +contextual [ObjectSel.part, ObjectSel.writable]
  | counters l =>
    cases readOnly
    have small : k < 16 := inside
    simp [ObjectSel.part, ObjectSel.writable]
    omega

/-- Settles O23: each byte by its part of the field and the owner's answer. -/
theorem stagingAndDropWrites : Obligations.StagingAndDropWrites := by
  unfold Obligations.StagingAndDropWrites
  refine ⟨⟨fun s k v writable field => ?staging, fun s v writable unselected => ?unselected⟩,
    fun s d k v writable field => ?drop, fun s o k v halves writable field readOnly => ?readOnly⟩
  case staging =>
    exact ⟨_, exec_byte_taken writable field rfl rfl rfl, rfl, staging_write_bytes ..⟩
  case unselected =>
    rw [exec_accessDataWrite writable]
    unfold State.writeData
    obtain unselected | ⟨o, selected, offset⟩ := unselected
    · rw [unselected]
      rfl
    · rw [selected]
      exact congrArg finish (if_pos (by omega))
  case drop =>
    have inside : k < 25 := field.2.2.1
    have byte (low : k < 11) : ObjectSel.part (.drop d) k = .byte := if_pos low
    have configuration (low : k < 7) : s.commitByte (.drop d) k v = s.writeDrop d k v := by
      simp [State.commitByte, ObjectSel.writable, low]
    refine ⟨fun low enabled => ?_, fun low disabled misfits => ?_, fun low disabled fits => ?_, fun low high => ?_,
      fun high odd => ?_, fun high even => ?_⟩
    · exact exec_byte_refused writable field (byte (by omega)) ((configuration low).trans (if_pos (by simp [Drop.enabled, enabled])))
    · refine exec_byte_refused writable field (byte (by omega)) ((configuration low).trans ?_)
      unfold State.writeDrop
      rw [drop_write_eq_none low misfits]
      exact if_neg (by simp [Drop.enabled, disabled])
    · obtain ⟨y, written, bytes⟩ := drop_write_of_fits (x := s.drop d) low fits
      have judged : s.commitByte (.drop d) k v = .ok (s.setDrop d y) := by
        rw [configuration low]
        unfold State.writeDrop
        rw [written]
        exact if_neg (by simp [Drop.enabled, disabled])
      refine ⟨_, exec_byte_taken writable field (byte (by omega)) judged rfl, ?_⟩
      have taken : (State.driveIrq { s.setDrop d y with bus := s.bus.tookByte k v }).drop d = y :=
        (State.setDrop_drop ..).trans (if_pos rfl)
      rw [taken]
      exact ⟨rfl, bytes⟩
    · exact exec_byte_refused writable field (byte (by omega)) (if_pos (by simp [ObjectSel.writable]; omega))
    · exact exec_upper writable field (by simp [ObjectSel.part, oddUpper, odd]; omega)
    · exact exec_lower_refused writable field (by simp [ObjectSel.part, oddUpper, even]; omega)
        (if_pos (by simp [ObjectSel.writable]; omega))
  case readOnly =>
    obtain ⟨upper, lower, byte, refused⟩ := part_of_readOnly readOnly field.2.2.1
    have judged : (!o.writable k) = true := by rw [refused]; rfl
    exact ⟨fun first => exec_upper writable field (upper first),
      fun second => exec_lower_refused writable field (lower second) (if_pos judged),
      fun neither nor => exec_byte_refused writable field (byte neither nor) (if_pos judged)⟩

end Sys2Proof.Proofs.DataWrites

/-! Data writes to schedule banks (R76, R77) and to line parameters (R8, R45, R68, R140, R149). -/

namespace Sys2Proof.Proofs.BankAndParams

open Sys2Proof Sys2Proof.Machine Sys2Proof.Proofs.ClockRegisters Sys2Proof.Proofs.DropTable Sys2Proof.Proofs.AccessPort
open Sys2Proof.Proofs.DataWrites Sys2Proof.Proofs.Rows

/-! ### A schedule bank -/

section

variable {b : Bank} {k : Nat} {kind v hi : Byte}

/-- An entry put at a place of a list of entries shows as two bytes at twice the place. -/
theorem flatMap_bytes_set (xs : List Entry) {i : Nat} {e : Entry} (shows : e.bytes = [hi, v]) :
    (xs.set i e).flatMap Entry.bytes = ((xs.flatMap Entry.bytes).set (2 * i) hi).set (2 * i + 1) v := by
  induction xs generalizing i with
  | nil => rfl
  | cons x xs ih =>
    have two : ∃ p q, x.bytes = [p, q] := by cases x <;> exact ⟨_, _, rfl⟩
    obtain ⟨p, q, two⟩ := two
    cases i with
    | zero => simp [shows, two]
    | succ i =>
      rw [List.set_cons_succ, List.flatMap_cons, List.flatMap_cons, ih, two, show 2 * (i + 1) = 2 * i + 1 + 1 by omega]
      rfl

theorem entryOf_of_fits (fits : entryFits kind v) : ∃ e, entryOf kind v = some e ∧ e.bytes = [kind, v] := by
  obtain ⟨rfl, small⟩ | ⟨rfl, rfl⟩ | ⟨rfl, nonzero⟩ := fits
  · refine ⟨.poll ⟨v.toNat, by omega⟩, ?_, ?_⟩
    · simp [entryOf, dropOf_eq_some (d := ⟨v.toNat, by omega⟩) rfl]
    · simp [Entry.bytes, byteOf_toNat]
  · exact ⟨.sync, rfl, rfl⟩
  · refine ⟨.pause v.toNat, ?_, ?_⟩
    · unfold entryOf
      rw [if_neg (by decide), if_neg (by decide), if_pos rfl, if_neg nonzero]
    · simp [Entry.bytes, byteOf_toNat]

theorem entryOf_eq_none (misfits : ¬ entryFits kind v) : entryOf kind v = none := by
  unfold entryOf
  split_ifs with one two zero three zero
  · rw [dropOf_eq_none (by by_contra small; exact misfits (.inl ⟨one, by omega⟩))]
    rfl
  · exact absurd (.inr (.inl ⟨two, zero⟩)) misfits
  · rfl
  · rfl
  · exact absurd (.inr (.inr ⟨three, zero⟩)) misfits
  · rfl

/-- An entry that fits is taken at the offset of its argument, and shows there (R76). -/
theorem writeEntry_of_fits (even : k % 2 = 0) (second : 2 ≤ k) (fits : entryFits hi v) :
    ∃ c, b.writeEntry k hi v = some c ∧ c.bytes = (b.bytes.set (k - 1) hi).set k v := by
  obtain ⟨e, named, shows⟩ := entryOf_of_fits fits
  refine ⟨_, congrArg (Option.map _) named, ?_⟩
  obtain ⟨i, rfl⟩ : ∃ i, k = 2 * i + 2 := ⟨(k - 2) / 2, by omega⟩
  have place : (2 * i + 2 - 2) / 2 = i := by omega
  unfold Bank.bytes
  dsimp only
  rw [place, Vector.toList_setIfInBounds, flatMap_bytes_set _ shows]
  rfl

theorem writeLength_of_fits (fits : v.toNat ≤ 24) : ∃ c, b.writeLength v = some c ∧ c.bytes = b.bytes.set 0 v := by
  refine ⟨{ b with length := v.toNat }, ?_, ?_⟩
  · unfold Bank.writeLength
    rw [inRange_of_fits ⟨Nat.zero_le _, fits⟩]
    rfl
  · unfold Bank.bytes
    rw [byteOf_toNat]
    rfl

end

/-- What a data write to a bank asks of its owner, at the offset of a length or of an argument (R76). -/
def bankWrite (b : Bank) (k : Nat) (hi v : Byte) : Option Bank :=
  if k = 0 then b.writeLength v else b.writeEntry k hi v

section

variable {s : State} {l : Line} {n : Bool} {k : Nat} {v hi : Byte} {why : AccessStatus}

/-- The owner of a bank refuses: it holds the bank, or the value is out of range (R77). -/
def BankRefuses (s : State) (l : Line) (n : Bool) (b : Option Bank) (why : AccessStatus) : Prop :=
  (s.line l).sched.owner n = some why ∨ ((s.line l).sched.owner n = none ∧ b = none ∧ why = .outOfRange)

theorem BankRefuses.writeBank {b : Option Bank} (refuses : BankRefuses s l n b why) : s.writeBank l n b = .error why := by
  unfold State.writeBank
  obtain held | ⟨free, rfl, rfl⟩ := refuses
  · rw [held]
  · rw [free]

theorem writeBank_of_free {c : Bank} (free : (s.line l).sched.owner n = none) :
    s.writeBank l n (some c) = .ok (s.setLine l { s.line l with sched := (s.line l).sched.setBank n c }) := by
  unfold State.writeBank
  rw [free]
  rfl

/-- The upper byte of a commit to an entry. -/
theorem upper_of_entry (upper : s.upperIs (.sched l n) k (((s.line l).sched.bank n).bytes.getD (k - 1) 0) hi) :
    s.upperHalf (.field (.sched l n) (k - 1)) ((s.objectBytes (.sched l n)).getD (k - 1) 0) = hi :=
  upperHalf_of_upperIs upper

theorem part_of_entry (even : k % 2 = 0) (entry : k ≠ 0) : ObjectSel.part (.sched l n) k = .lower := by
  simp [ObjectSel.part, oddUpper, even, entry]

/-- A refused write of a bank: its length leaves the hold register, an entry empties it. -/
theorem exec_bank_refused (writable : s.writable) (field : s.atField (.sched l n) k) (even : k % 2 = 0)
    (upper : k ≠ 0 → s.upperIs (.sched l n) k (((s.line l).sched.bank n).bytes.getD (k - 1) 0) hi)
    (refuses : BankRefuses s l n (bankWrite ((s.line l).sched.bank n) k hi v) why) :
    exec (.accessDataWrite v) s = .next (s.writeRefused k (if k = 0 then s.bus.hold else none) why) := by
  unfold bankWrite at refuses
  by_cases zero : k = 0
  · subst zero
    exact exec_byte_refused writable field rfl refuses.writeBank
  · rw [if_neg zero] at refuses ⊢
    refine exec_lower_refused writable field (part_of_entry even zero) ?_
    rw [upper_of_entry (upper zero)]
    exact BankRefuses.writeBank (s := s.emptyHold) refuses

/-- A write of a bank that its owner takes. -/
theorem exec_bank_taken (writable : s.writable) (field : s.atField (.sched l n) k) (even : k % 2 = 0)
    (upper : k ≠ 0 → s.upperIs (.sched l n) k (((s.line l).sched.bank n).bytes.getD (k - 1) 0) hi)
    (free : (s.line l).sched.owner n = none) {c : Bank} (taken : bankWrite ((s.line l).sched.bank n) k hi v = some c) :
    exec (.accessDataWrite v) s = finish { s.setLine l { s.line l with sched := (s.line l).sched.setBank n c } with
      bus := if k = 0 then s.bus.tookByte k v else s.bus.tookHalf k hi v } := by
  unfold bankWrite at taken
  by_cases zero : k = 0
  · subst zero
    have judged : s.commitByte (.sched l n) 0 v = .ok (s.setLine l { s.line l with sched := (s.line l).sched.setBank n c }) :=
      (congrArg (s.writeBank l n) taken).trans (writeBank_of_free free)
    exact exec_byte_taken writable field rfl judged (by cases l <;> rfl)
  · rw [if_neg zero] at taken ⊢
    have judged : s.emptyHold.commitHalf (.sched l n) k hi v =
        .ok (s.emptyHold.setLine l { s.line l with sched := (s.line l).sched.setBank n c }) :=
      (congrArg (s.emptyHold.writeBank l n) taken).trans (writeBank_of_free free)
    refine (exec_lower_taken writable field (part_of_entry even zero) (by omega) (upper_of_entry (upper zero)) judged
      (by cases l <;> rfl)).trans ?_
    cases l <;> rfl

theorem bankWrite_of_fits {b : Bank} (even : k % 2 = 0) (fits : if k = 0 then v.toNat ≤ 24 else entryFits hi v) :
    ∃ c, bankWrite b k hi v = some c ∧ c.bytes = if k = 0 then b.bytes.set 0 v else (b.bytes.set (k - 1) hi).set k v := by
  unfold bankWrite
  by_cases zero : k = 0
  · simp only [if_pos zero] at fits ⊢
    exact writeLength_of_fits fits
  · simp only [if_neg zero] at fits ⊢
    exact writeEntry_of_fits even (by omega) fits

theorem bankWrite_eq_none {b : Bank} (misfits : ¬ if k = 0 then v.toNat ≤ 24 else entryFits hi v) : bankWrite b k hi v = none := by
  unfold bankWrite
  by_cases zero : k = 0
  · rw [if_pos zero] at misfits ⊢
    exact Option.map_eq_none_iff.mpr (inRange_eq_none.mpr (by omega))
  · rw [if_neg zero] at misfits ⊢
    exact Option.map_eq_none_iff.mpr (entryOf_eq_none misfits)

theorem bank_setBank (x : Schedule) (n : Bool) (c : Bank) : (x.setBank n c).bank n = c := by
  cases n <;> rfl

end

/-- Settles O24: the owner first, then the range. -/
theorem bankWriteJudgesOwnershipFirst : Obligations.BankWriteJudgesOwnershipFirst := by
  unfold Obligations.BankWriteJudgesOwnershipFirst
  intro s l n k v hi writable field
  have inside : k < 49 := field.2.2.1
  refine ⟨fun odd => exec_upper writable field ?upper, fun even upper => ?lower⟩
  case upper =>
    have entry : k ≠ 0 := by omega
    simp [ObjectSel.part, oddUpper, odd, entry]
  case lower =>
    dsimp only
    refine ⟨fun active => exec_bank_refused writable field even upper (.inl (if_pos active)),
      fun other committed => exec_bank_refused writable field even upper (.inl ?_),
      fun other free misfits => exec_bank_refused writable field even upper (.inr ⟨?_, bankWrite_eq_none misfits, rfl⟩),
      fun other free fits => ?_⟩
    · exact (if_neg other).trans (if_pos committed)
    · exact (if_neg other).trans (if_neg (by simp [free]))
    · obtain ⟨c, taken, bytes⟩ := bankWrite_of_fits (b := (s.line l).sched.bank n) even fits
      have unowned : (s.line l).sched.owner n = none := (if_neg other).trans (if_neg (by simp [free]))
      refine ⟨_, exec_bank_taken writable field even upper unowned taken, ?_⟩
      have shown : ((State.driveIrq { s.setLine l { s.line l with sched := (s.line l).sched.setBank n c } with
          bus := if k = 0 then s.bus.tookByte k v else s.bus.tookHalf k hi v }).line l).sched.bank n = c := by
        refine Eq.trans ?_ (bank_setBank (s.line l).sched n c)
        cases l <;> rfl
      rw [shown]
      exact ⟨rfl, bytes⟩

/-! ### Line parameters -/

section

variable {p : LineParams} {k : Nat} {v hi : Byte}

theorem msb_halfOf (hi lo : Byte) : msb (halfOf hi lo) = hi := by
  apply BitVec.eq_of_toNat_eq
  rw [toNat_msb, toNat_halfOf, wide]
  omega

theorem lsb_halfOf (hi lo : Byte) : lsb (halfOf hi lo) = lo := by
  apply BitVec.eq_of_toNat_eq
  rw [lsb, BitVec.toNat_setWidth, toNat_halfOf, wide]
  omega

theorem cycleModeOf_of_fits (fits : v.toNat ≤ 2) : ∃ m : CycleMode, cycleModeOf v = some m ∧ m.code = v := by
  obtain rfl | rfl | rfl := byte_cases_three fits
  · exact ⟨.timed, rfl, rfl⟩
  · exact ⟨.continuous, rfl, rfl⟩
  · exact ⟨.manual, rfl, rfl⟩

theorem cycleModeOf_eq_none (large : 2 < v.toNat) : cycleModeOf v = none := by
  obtain ⟨not0, not1, not2⟩ := ne_of_large large
  unfold cycleModeOf
  rw [if_neg not0, if_neg not1, if_neg not2]

/-- Three flags of a byte without other bits. -/
theorem flags_of_fits (fits : v.toNat ≤ 7) :
    flagBit (v.getLsbD 0) 0 ||| flagBit (v.getLsbD 1) 1 ||| flagBit (v.getLsbD 2) 2 = v := by
  have each : ∀ m : Fin 8, flagBit ((BitVec.ofNat 8 m.val).getLsbD 0) 0 ||| flagBit ((BitVec.ofNat 8 m.val).getLsbD 1) 1 |||
      flagBit ((BitVec.ofNat 8 m.val).getLsbD 2) 2 = BitVec.ofNat 8 m.val := by decide
  have is : BitVec.ofNat 8 v.toNat = v := byteOf_toNat v
  have here := each ⟨v.toNat, by omega⟩
  rwa [is] at here

theorem writeByte_eq_none (byte : k ∈ [4, 5, 8, 9, 12, 13, 14]) (misfits : ¬ paramByteFits k v) : p.writeByte k v = none := by
  have small := v.isLt
  match k with
  | 4 | 5 | 8 | 12 | 13 | 14 => exact Option.map_eq_none_iff.mpr (inRange_eq_none.mpr (by omega))
  | 9 => exact Option.map_eq_none_iff.mpr (cycleModeOf_eq_none (by omega))
  | 0 | 1 | 2 | 3 | 6 | 7 | 10 | 11 => simp at byte
  | n + 15 => simp at byte

/-- An 8-bit parameter that fits is taken, and shows at its offset (R8, R45, R68, R140). -/
theorem writeByte_of_fits (byte : k ∈ [4, 5, 8, 9, 12, 13, 14]) (fits : paramByteFits k v) :
    ∃ q, p.writeByte k v = some q ∧ q.bytes = p.bytes.set k v := by
  have small := v.isLt
  have number {lo hi : Nat} (inside : lo ≤ v.toNat ∧ v.toNat ≤ hi) (f : Nat → LineParams) :
      (inRange lo hi v.toNat).map f = some (f v.toNat) := by
    rw [inRange_of_fits inside]
    rfl
  match k with
  | 4 | 5 | 8 | 12 | 14 =>
    refine ⟨_, number (by omega) _, ?_⟩
    simp [LineParams.bytes, byteOf_toNat]
  | 13 =>
    refine ⟨_, number (by omega) _, ?_⟩
    simpa [LineParams.bytes] using flags_of_fits (v := v) (by omega)
  | 9 =>
    obtain ⟨m, named, code⟩ := cycleModeOf_of_fits (v := v) (by omega)
    refine ⟨_, congrArg (Option.map _) named, ?_⟩
    simp [LineParams.bytes, code]
  | 0 | 1 | 2 | 3 | 6 | 7 | 10 | 11 => simp at byte
  | n + 15 => simp at byte

theorem writeHalf_eq_none (half : k ∈ [1, 3, 7, 11, 16]) (misfits : ¬ paramHalfFits k (wide hi v)) :
    p.writeHalf k (halfOf hi v) = none := by
  have range {lo up : Nat} (out : ¬ (lo ≤ wide hi v ∧ wide hi v ≤ up)) (f : Nat → LineParams) :
      (inRange lo up (halfOf hi v).toNat).map f = none := by
    rw [toNat_halfOf, inRange_eq_none.mpr out]
    rfl
  have small : wide hi v ≤ 65535 := by
    have := (halfOf hi v).isLt
    rw [toNat_halfOf] at this
    omega
  have is : k = 1 ∨ k = 3 ∨ k = 7 ∨ k = 11 ∨ k = 16 := by simpa using half
  obtain rfl | rfl | rfl | rfl | rfl := is
  · exact range (by omega) _
  · exact range (by omega) _
  · exact range (by omega) _
  · exact range (by omega) _
  · omega

/-- A 16-bit parameter that fits is taken, and shows at its two offsets (R45, R68, R140, R149). -/
theorem writeHalf_of_fits (half : k ∈ [1, 3, 7, 11, 16]) (fits : paramHalfFits k (wide hi v)) :
    ∃ q, p.writeHalf k (halfOf hi v) = some q ∧ q.bytes = (p.bytes.set (k - 1) hi).set k v := by
  have range {lo up : Nat} (inside : lo ≤ wide hi v ∧ wide hi v ≤ up) (f : Nat → LineParams) :
      (inRange lo up (halfOf hi v).toNat).map f = some (f (halfOf hi v).toNat) := by
    rw [inRange_of_fits (by rw [toNat_halfOf]; exact inside)]
    rfl
  have small : wide hi v ≤ 65535 := by
    have := (halfOf hi v).isLt
    rw [toNat_halfOf] at this
    omega
  have self : BitVec.ofNat 16 (halfOf hi v).toNat = halfOf hi v := BitVec.eq_of_toNat_eq (by simp)
  have is : k = 1 ∨ k = 3 ∨ k = 7 ∨ k = 11 ∨ k = 16 := by simpa using half
  obtain rfl | rfl | rfl | rfl | rfl := is
  · refine ⟨_, range (by omega) _, ?_⟩
    simp [LineParams.bytes, self, msb_halfOf, lsb_halfOf]
  · refine ⟨_, range (by omega) _, ?_⟩
    simp [LineParams.bytes, self, msb_halfOf, lsb_halfOf]
  · refine ⟨_, range (by omega) _, ?_⟩
    simp [LineParams.bytes, self, msb_halfOf, lsb_halfOf]
  · refine ⟨_, range (by omega) _, ?_⟩
    simp [LineParams.bytes, self, msb_halfOf, lsb_halfOf]
  · refine ⟨_, rfl, ?_⟩
    simp [LineParams.bytes, self, msb_halfOf, lsb_halfOf]

end

section

variable {s : State} {l : Line} {k : Nat}

/-- The line whose parameters are written (R68). -/
def reconfigured (e : LineEngine) (k : Nat) (q : LineParams) : LineEngine :=
  { e with params := q, cycle := cycleAfterWrite k e.cycle }

theorem part_of_byte (byte : k ∈ [4, 5, 8, 9, 12, 13, 14]) : ObjectSel.part (.params l) k = .byte := by
  have is : k = 4 ∨ k = 5 ∨ k = 8 ∨ k = 9 ∨ k = 12 ∨ k = 13 ∨ k = 14 := by simpa using byte
  obtain rfl | rfl | rfl | rfl | rfl | rfl | rfl := is <;> rfl

theorem part_of_half (half : k ∈ [1, 3, 7, 11, 16]) : ObjectSel.part (.params l) k = .lower := by
  have is : k = 1 ∨ k = 3 ∨ k = 7 ∨ k = 11 ∨ k = 16 := by simpa using half
  obtain rfl | rfl | rfl | rfl | rfl := is <;> rfl

theorem writeParam_eq (q : LineParams) : s.writeParam l k (some q) = .ok (s.setLine l (reconfigured (s.line l) k q)) := rfl

end

/-- Settles O25, by the part of its parameter that the byte is. -/
theorem lineParameterWrite : Obligations.LineParameterWrite := by
  unfold Obligations.LineParameterWrite
  intro s l k v hi writable field
  have shown (q : LineParams) (u : BusUnit) :
      ((State.driveIrq { s.setLine l (reconfigured (s.line l) k q) with bus := u }).line l).params = q := by cases l <;> rfl
  refine ⟨fun upper => ?upper, fun byte misfits => ?byteRefused, fun byte fits => ?byteTaken, fun half upper => ?half⟩
  case upper => exact exec_upper writable field (if_pos upper)
  case byteRefused =>
    refine exec_byte_refused writable field (part_of_byte byte) ?_
    exact congrArg (s.writeParam l k) (writeByte_eq_none byte misfits)
  case byteTaken =>
    obtain ⟨q, taken, bytes⟩ := writeByte_of_fits (p := (s.line l).params) byte fits
    have judged : s.commitByte (.params l) k v = .ok (s.setLine l (reconfigured (s.line l) k q)) :=
      congrArg (s.writeParam l k) taken
    refine ⟨_, exec_byte_taken writable field (part_of_byte byte) judged (by cases l <;> rfl), ?_⟩
    rw [shown]
    exact ⟨rfl, bytes⟩
  case half =>
    have second : 1 ≤ k := by
      have is : k = 1 ∨ k = 3 ∨ k = 7 ∨ k = 11 ∨ k = 16 := by simpa using half
      omega
    have hold : s.upperHalf (.field (.params l) (k - 1)) ((s.objectBytes (.params l)).getD (k - 1) 0) = hi := upperHalf_of_upperIs upper
    refine ⟨fun misfits => exec_lower_refused writable field (part_of_half half) ?_, fun fits => ?_⟩
    · rw [hold]
      exact congrArg (s.emptyHold.writeParam l k) (writeHalf_eq_none half misfits)
    · obtain ⟨q, taken, bytes⟩ := writeHalf_of_fits (p := (s.line l).params) half fits
      have judged : s.emptyHold.commitHalf (.params l) k hi v = .ok (s.emptyHold.setLine l (reconfigured (s.line l) k q)) :=
        congrArg (s.emptyHold.writeParam l k) taken
      have row : exec (.accessDataWrite v) s = finish { s.setLine l (reconfigured (s.line l) k q) with bus := s.bus.tookHalf k hi v } := by
        refine (exec_lower_taken writable field (part_of_half half) second hold judged (by cases l <;> rfl)).trans ?_
        cases l <;> rfl
      refine ⟨_, row, ?_⟩
      rw [shown]
      exact ⟨rfl, bytes⟩

end Sys2Proof.Proofs.BankAndParams

/-! The open buffer: READY_OPEN and READY_RELEASE (R120 to R123), and what else leaves it alone. -/

namespace Sys2Proof.Proofs.OpenBuffer

open Sys2Proof Sys2Proof.Machine Sys2Proof.Proofs.EventQueue Sys2Proof.Proofs.SwapAndTrigger Sys2Proof.Proofs.WindowReads
open Sys2Proof.Proofs.Rows Sys2Proof.Proofs.Work Sys2Proof.Laws

/-! ### Commands -/

section

variable (s : State)

theorem withLine_opened (b : Byte) {f : Line → State} (hf : ∀ l, (f l).opened = s.opened) : (s.withLine b f).opened = s.opened := by
  unfold State.withLine
  split
  · exact hf _
  · rfl

theorem withDrop_opened (b : Byte) {f : DropIx → State} (hf : ∀ d, (f d).opened = s.opened) :
    (s.withDrop b f).opened = s.opened := by
  unfold State.withDrop
  split
  · exact hf _
  · rfl

theorem withTag_opened (b : Byte) {f : Tag → State} (hf : ∀ i, (f i).opened = s.opened) : (s.withTag b f).opened = s.opened := by
  unfold State.withTag
  split
  · exact hf _
  · rfl

theorem roleCommand_opened (r : Role) {f : State → Line → State} (hf : ∀ l, Untouched s (f s l)) :
    (s.roleCommand r f).opened = s.opened := by
  refine withLine_opened s _ fun l => ?_
  split
  · rfl
  · exact (hf l).opened

/-- The commands on requests, drops, lines, schedules and counters leave the open buffer open (R120). -/
theorem runCode_opened {code : Byte} (notOpen : code ≠ 0x40) (notRelease : code ≠ 0x41) (notReset : code ≠ 0x60) :
    (runCode code s).opened = s.opened := by
  have refl := Untouched.refl s
  have ne_of_toNat {n : Byte} (other : code ≠ n) (is : code.toNat = n.toNat) : False := other (BitVec.eq_of_toNat_eq is)
  unfold runCode
  split
  · unfold State.runSubmit
    split
    · rfl
    · exact (Untouched.select (.refl _) _).opened.trans (kept_placeRequest s _).opened
  · exact withTag_opened s _ fun _ => by split <;> rfl
  · refine withTag_opened s _ fun i => ?_
    split
    · exact (Untouched.completeQueued refl i .aborted).opened
    · exact (abortActive_untouched s i).opened
    all_goals rfl
  · exact withDrop_opened s _ fun _ => by split <;> rfl
  · refine withDrop_opened s _ fun d => ?_
    split
    · exact (disableDrop_untouched s d).opened
    · rfl
  · exact roleCommand_opened s _ fun l => refl.becomeMaster l .command
  · refine roleCommand_opened s _ fun l => ?_
    split
    · exact refl.becomeStandby l
    · exact refl.beginYield l
  · refine roleCommand_opened s _ fun l => ?_
    split
    · exact refl.stopStandby l
    · exact refl.beginStop l
  · refine withLine_opened s _ fun l => ?_
    split
    · exact s.modLine_opened l _
    · exact (refl.resetLine l).opened
  · refine withLine_opened s _ fun l => ?_
    dsimp only
    split_ifs
    · rfl
    · exact s.modLine_opened l _
    · exact (refl.swapBanks l).opened
  · refine withLine_opened s _ fun l => ?_
    split
    · exact (Untouched.select (refl.modLine l _ (by intro; rfl)) l).opened
    · rfl
  · next is => exact (ne_of_toNat notOpen is).elim
  · next is => exact (ne_of_toNat notRelease is).elim
  · unfold State.runClearCounters
    split
    · exact withDrop_opened s _ fun _ => rfl
    · exact withLine_opened s _ fun l => s.modLine_opened l _
    all_goals rfl
  · next is => exact (ne_of_toNat notReset is).elim
  · rfl

/-- A buffer that is open stays so under READY_OPEN (R120). -/
theorem runReadyOpen_opened (opened : s.opened = true) : s.runReadyOpen.opened = true := by
  unfold State.runReadyOpen
  rw [if_pos opened]
  split <;> exact opened

/-! ### Register writes -/

variable {s}

theorem commitByte_opened {t : State} {o : ObjectSel} {k : Nat} {v : Byte} (h : s.commitByte o k v = .ok t) :
    t.opened = s.opened := by
  unfold State.commitByte State.writeDrop State.writeBank State.writeParam at h
  split at h
  · cases h
  · cases o with
    | drop d =>
      dsimp only at h
      split at h
      · cases h
      · split at h <;> cases h
        rfl
    | sched l n => dsimp only at h; split at h <;> cases h; exact s.modLine_opened l _
    | staging => cases h; rfl
    | params l => dsimp only at h; split at h <;> cases h; exact s.modLine_opened l _
    | slot | buffer | counters => cases h

theorem commitHalf_opened {t : State} {o : ObjectSel} {k : Nat} {hi lo : Byte} (h : s.commitHalf o k hi lo = .ok t) :
    t.opened = s.opened := by
  unfold State.commitHalf State.writeBank State.writeParam at h
  split at h
  · cases h
  · cases o with
    | sched l n => dsimp only at h; split at h <;> cases h; exact s.modLine_opened l _
    | params l => dsimp only at h; split at h <;> cases h; exact s.modLine_opened l _
    | drop | staging | slot | buffer | counters => cases h

theorem settleWrite_opened (k : Nat) (bytes : List Byte) {r : Except AccessStatus State}
    (accepted : ∀ t, r = .ok t → t.opened = s.opened) : (s.settleWrite k bytes r).opened = s.opened := by
  cases r with
  | ok t => exact accepted t rfl
  | error why => rfl

variable (s)

theorem writeObject_opened (o : ObjectSel) (k : Nat) (v : Byte) : (s.writeObject o k v).opened = s.opened := by
  unfold State.writeObject
  split
  · rfl
  · exact settleWrite_opened _ _ fun t h => commitByte_opened h
  · exact settleWrite_opened (s := s.emptyHold) _ _ fun t h => commitHalf_opened h

theorem writeData_opened (v : Byte) : (s.writeData v).opened = s.opened := by
  unfold State.writeData
  split
  · rfl
  · split
    · rfl
    · exact writeObject_opened ..

/-- No register write but one of CMD reaches the open buffer. -/
theorem write_opened (a : BitVec 6) (v : Byte) : (s.write a v).opened = s.opened := by
  have selected (u : State) : u.selectObject.opened = u.opened := by
    unfold State.selectObject
    split <;> rfl
  unfold State.write
  split
  · rfl
  · unfold State.writeRegister
    split
    case h_3 | h_4 => exact selected _
    case h_6 => exact writeData_opened s v
    case h_16 | h_18 =>
      unfold State.commitDivider
      dsimp only
      split <;> rfl
    all_goals rfl

/-! ### Ticks and clocks -/

theorem eachLine_opened {f : State → Line → State} (hf : ∀ u l, (f u l).opened = u.opened) : (s.eachLine f).opened = s.opened :=
  (hf _ .b).trans (hf s .a)

theorem tick_opened : s.tick.opened = s.opened := by
  have settled : (s.eachLine State.settleTick).opened = s.opened :=
    eachLine_opened s fun u l => (untouched_settleTick (.refl u) l).opened
  have stamped (u : State) (l : Line) (n : Nat) : (u.tickStamp l n).opened = u.opened := by
    rw [State.tickStamp_eq]
    exact u.modLine_opened l _
  unfold State.tick
  dsimp only
  rw [eachLine_opened _ fun u l => (Untouched.select (.refl u) l).opened, State.modEvents_opened, State.modLines_opened,
    eachLine_opened _ fun u l => stamped u l _, State.modClock_opened, settled]

theorem loseXref_opened : s.loseXref.opened = s.opened := by
  have fallen (u : State) : u.fallback.opened = u.opened := by
    unfold State.fallback
    dsimp only
    rw [eachLine_opened _ fun u l => (untouched_when (.settleWait (.refl u) l)).opened]
    exact eachLine_opened _ fun u l => (untouched_when (((Untouched.refl u).freeAssembling l).observerUpdate l _)).opened
  unfold State.loseXref
  dsimp only
  split
  · exact fallen _
  · rfl

variable {s}

/-- An open buffer stays open until READY_RELEASE, device reset or soft reset (R120). -/
theorem exec_opened (opened : s.opened = true) {c : Instr} (notRelease : cmdCode c ≠ some 0x41) (notReset : cmdCode c ≠ some 0x60)
    (noDevice : c ≠ .deviceReset) (noEffect : c ≠ .softResetTakesEffect) : ∃ t, exec c s = finish t ∧ t.opened = true := by
  have same {t : State} (h : t.opened = s.opened) : t.opened = true := h.trans opened
  have guarded {p : Prop} [Decidable p] {t : State} (h : t.opened = s.opened) : (if p then t else s).opened = true := by
    split
    · exact same h
    · exact opened
  cases row : eventLine c with
  | some l =>
    obtain ⟨t, answer, untouched⟩ := exec_lineRow row s
    exact ⟨t, answer, same untouched.opened⟩
  | none =>
  cases command : cmdCode c with
  | some code =>
    refine ⟨_, exec_of_cmdCode s command, ?_⟩
    rw [command] at notRelease notReset
    by_cases idle : s.idle
    · rw [writeCmd_of_idle idle]
      by_cases isOpen : code = 0x40
      · subst isOpen
        exact runReadyOpen_opened (coded 0x40 s) opened
      · exact same (runCode_opened (coded code s) isOpen (fun is => notRelease (congrArg some is))
          fun is => notReset (congrArg some is))
    · rw [writeCmd_of_busy idle]
      exact opened
  | none =>
    cases c
    case deviceReset => exact absurd rfl noDevice
    case softResetTakesEffect => exact absurd rfl noEffect
    case registerWrite a v =>
      have other : a ≠ 0x02 := fun cmd => by simp [cmdCode, cmd] at command
      exact ⟨_, congrArg finish (if_neg other), same (write_opened s a v)⟩
    case summaryClear | eventPop | accessSelect | accessOffsetWrite | accessDataWrite | clockControlWrite | tickDividerWrite
        | holdRegisterWrite =>
      exact ⟨_, rfl, same (write_opened s _ _)⟩
    case lineResetTakesEffect =>
      refine ⟨_, rfl, ?_⟩
      split
      · exact same (Untouched.resetLine (.refl s) _).opened
      all_goals exact opened
    case tick => exact ⟨_, rfl, same (tick_opened s)⟩
    case xrefLost => exact ⟨_, rfl, guarded (loseXref_opened s)⟩
    case clockSwitch => exact ⟨_, rfl, guarded rfl⟩
    case summaryRead | timestampRead | accessDataRead | eventAgeExpiry | xrefEdge | xrefPresent => exact ⟨_, rfl, opened⟩
    all_goals contradiction

end

/-! ### READY_OPEN -/

section

variable {s : State}

theorem exec_readyOpen (idle : s.idle) : exec .readyOpen s = finish (coded 0x40 s).runReadyOpen :=
  congrArg finish (startCommand_of_idle idle ..)

theorem readyOpen_empty (idle : s.idle) (empty : s.ready = []) : exec .readyOpen s = .next (refusedAs s 0x40 .empty) := by
  have refused : (coded 0x40 s).runReadyOpen = (coded 0x40 s).refuse .empty := if_pos (List.isEmpty_iff.mpr empty)
  rw [exec_readyOpen idle, refused, finish_refuse_coded idle]

theorem readyOpen_alreadyOpen (idle : s.idle) (some : s.ready ≠ []) (opened : s.opened = true) :
    exec .readyOpen s = .next (refusedAs s 0x40 .alreadyOpen) := by
  have refused : (coded 0x40 s).runReadyOpen = (coded 0x40 s).refuse .alreadyOpen :=
    (if_neg (fun empty => some (List.isEmpty_iff.mp empty))).trans (if_pos opened)
  rw [exec_readyOpen idle, refused, finish_refuse_coded idle]

theorem settleStamp_withCommand (c : CommandUnit) (b : BufIx) : (withCommand c s).settleStamp b = withCommand c (s.settleStamp b) := by
  have buffer : (withCommand c s).buffer b = s.buffer b := rfl
  unfold State.settleStamp
  dsimp only
  rw [buffer, line_withCommand]
  split
  · split
    · cases (s.buffer b).line <;> rfl
    · rfl
  · rfl

theorem readyOpen_head (idle : s.idle) {b : BufIx} {rest : List BufIx} (head : s.ready = b :: rest) (shut : s.opened = false) :
    exec .readyOpen s = .next (doneAs { s.settleStamp b with opened := true } 0x40 0) := by
  have ran : (coded 0x40 s).runReadyOpen = State.done { (coded 0x40 s).settleStamp b with opened := true } 0 := by
    have listed : (coded 0x40 s).ready = b :: rest := head
    have unopened : (coded 0x40 s).opened = false := shut
    unfold State.runReadyOpen State.openHead
    rw [listed, unopened]
    rfl
  rw [exec_readyOpen idle, ran, coded, settleStamp_withCommand]
  rfl

theorem setBuffer_self (s : State) (b : BufIx) : s.setBuffer b (s.buffer b) = s := by
  simp [State.setBuffer, State.buffer]

/-- A settled timestamp is the buffer's, and what is left of a stop bit the line's (R115, R121). -/
theorem settleStamp_parts (b : BufIx) : s.settleStamp b =
    (s.setLine (s.buffer b).line { s.line (s.buffer b).line with
      stamping := ((s.settleStamp b).line (s.buffer b).line).stamping }).setBuffer b
        { s.buffer b with stamp := ((s.settleStamp b).buffer b).stamp } := by
  have same : s = (s.setLine (s.buffer b).line { s.line (s.buffer b).line with
      stamping := (s.line (s.buffer b).line).stamping }).setBuffer b { s.buffer b with stamp := (s.buffer b).stamp } := by
    rw [setLine_self, setBuffer_self]
  unfold State.settleStamp
  dsimp only
  split
  · split
    · simp only [State.modBuffer_buffer, State.modBuffer_line, State.modLine_line, State.modLine_buffer, if_true]
      unfold State.modBuffer
      rw [State.modLine_buffer]
      rfl
    · exact same
  · exact same

/-- An opened buffer is the head of the ready list, which stays (R120). -/
theorem settleStamp_ready (b : BufIx) : (s.settleStamp b).ready = s.ready := by
  obtain ⟨f, settled⟩ := s.settleStamp_eq b
  rw [settled]
  exact State.modLine_ready ..

/-! ### READY_RELEASE -/

theorem exec_readyRelease (idle : s.idle) : exec .readyRelease s = finish (coded 0x41 s).runReadyRelease :=
  congrArg finish (startCommand_of_idle idle ..)

theorem readyRelease_noneOpen (idle : s.idle) (shut : s.opened = false) :
    exec .readyRelease s = .next (refusedAs s 0x41 .noneOpen) := by
  have refused : (coded 0x41 s).runReadyRelease = (coded 0x41 s).refuse .noneOpen := if_neg (by simp [shut, coded, withCommand])
  rw [exec_readyRelease idle, refused, finish_refuse_coded idle]

/-- `s` with the open buffer at the head of the ready list released (R123). -/
def headFreed (s : State) (b : BufIx) (rest : List BufIx) : State :=
  { s.setBuffer b { s.buffer b with place := .free } with ready := rest, opened := false }

theorem readyRelease_head (idle : s.idle) {b : BufIx} {rest : List BufIx} (head : s.ready = b :: rest) (opened : s.opened = true) :
    exec .readyRelease s = .next (doneAs (headFreed s b rest) 0x41 0) := by
  have listed : (coded 0x41 s).ready = b :: rest := head
  have ran : (coded 0x41 s).runReadyRelease = State.done (withCommand { s.command with code := 0x41 } (headFreed s b rest)) 0 := by
    refine (if_pos opened).trans ?_
    unfold State.releaseHead
    rw [listed]
    rfl
  rw [exec_readyRelease idle, ran, finish_done_withCommand]

/-- READY_HEAD shows in bit 7 that a buffer is open (R119). -/
theorem readyHead_opened {t : State} {b : BufIx} {rest : List BufIx} (head : t.ready = b :: rest) :
    (State.readyHead (doneAs { t with opened := true } 0x40 0)).getLsbD 7 = true := by
  have shown : State.readyHead (doneAs { t with opened := true } 0x40 0) =
      byteOf (t.buffer b).drop.val ||| ((t.buffer b).origin.code <<< 5) ||| 0x80#8 := by
    have listed : (doneAs { t with opened := true } 0x40 0).ready = b :: rest := head
    unfold State.readyHead
    rw [listed]
    rfl
  rw [shown, BitVec.getLsbD_or]
  exact Bool.or_true _

/-- One more element of a list has a property that one place gains. -/
theorem countP_gain {α : Type} {p q : α → Bool} {x : α} {xs : List α} (nodup : xs.Nodup) (among : x ∈ xs) (not : p x = false)
    (now : q x = true) (same : ∀ y, y ≠ x → q y = p y) : xs.countP q = xs.countP p + 1 := by
  induction xs with
  | nil => cases among
  | cons y ys ih =>
    obtain ⟨fresh, nodup⟩ := List.nodup_cons.mp nodup
    rw [List.countP_cons, List.countP_cons]
    by_cases is : y = x
    · subst is
      have others : ys.countP q = ys.countP p := List.countP_congr fun z there => by
        rw [same z fun is => fresh (is ▸ there)]
      simp [not, now, others]
    · rw [ih nodup ((List.mem_cons.mp among).resolve_left fun h => is h.symm), same y is]
      omega

theorem freeCount_headFreed {b : BufIx} (rest : List BufIx) (ready : (s.buffer b).place = .ready) :
    (headFreed s b rest).freeCount = s.freeCount + 1 := by
  have buffer (i : BufIx) : (headFreed s b rest).buffer i = if i = b then { s.buffer b with place := .free } else s.buffer i :=
    State.setBuffer_buffer ..
  refine countP_gain (x := b) (List.nodup_finRange 24) (List.mem_finRange b) (by simp [ready]) ?_ fun i other => ?_
  · simp [buffer]
  · simp [buffer, other]

/-- READY_HEAD after a release shows the next buffer, not open (R119, R123). -/
theorem readyHead_headFreed (b : BufIx) (rest : List BufIx) : (headFreed s b rest).readyHead = match rest with
    | [] => 0xFF
    | next :: _ => BitVec.ofNat 8 (s.buffer next).drop.val ||| ((s.buffer next).origin.code <<< 5) := by
  cases rest with
  | nil => rfl
  | cons next rest =>
    have buffer : (headFreed s b (next :: rest)).buffer next = if next = b then { s.buffer b with place := .free } else s.buffer next :=
      State.setBuffer_buffer ..
    have shown : (headFreed s b (next :: rest)).readyHead = byteOf ((headFreed s b (next :: rest)).buffer next).drop.val |||
        (((headFreed s b (next :: rest)).buffer next).origin.code <<< 5) ||| 0#8 := rfl
    rw [shown, buffer, BitVec.or_zero]
    split
    · next is => rw [is]; rfl
    · rfl

end

/-- Settles O29: each command by its checks and its effect, and that nothing else closes an open buffer. -/
theorem readyOpenAndRelease : Obligations.ReadyOpenAndRelease := by
  unfold Obligations.ReadyOpenAndRelease
  refine ⟨⟨fun s idle => ⟨readyOpen_empty idle, readyOpen_alreadyOpen idle, fun b rest head shut => ⟨fun final => ?final, ?opens⟩⟩,
    fun c s t answer opened => ?stays⟩, fun s idle => ⟨fun shut => readyRelease_noneOpen idle shut,
      fun b rest opened head ready => ?release⟩⟩
  case final =>
    rw [readyOpen_head idle head shut, State.settleStamp_of_final final]
  case opens =>
    refine ⟨_, readyOpen_head idle head shut, ?_, ?_, ?_, ?_⟩
    · exact congrArg (fun u => doneAs { u with opened := true } 0x40 0) (settleStamp_parts b)
    · exact congrArg List.head? ((settleStamp_ready b).trans head)
    · exact congrArg (fun ready => byteOf ready.length) (settleStamp_ready b)
    · exact readyHead_opened ((settleStamp_ready b).trans head)
  case stays =>
    by_contra closed
    simp only [not_or] at closed
    obtain ⟨shut, noDevice, noEffect, notRelease, notReset⟩ := closed
    obtain ⟨u, answers, still⟩ := exec_opened opened notRelease notReset noDevice noEffect
    rw [answers] at answer
    cases answer
    exact shut still
  case release =>
    exact ⟨readyRelease_head idle head opened, freeCount_headFreed rest ready, rfl, readyHead_headFreed b rest⟩

end Sys2Proof.Proofs.OpenBuffer

/-! What a read of each register shows, the resets, and the soft reset. -/

namespace Sys2Proof.Proofs.Resets

open Sys2Proof Sys2Proof.Machine Sys2Proof.Laws Sys2Proof.Proofs.Rows Sys2Proof.Proofs.SwapAndTrigger

/-! ### SOFT_RESET (R176, R177) -/

section

variable {s : State}

theorem exec_softReset (idle : s.idle) : exec .softReset s = finish (coded 0x60 s).runSoftReset :=
  congrArg finish (startCommand_of_idle idle ..)

/-- A frame with a character in transmission is stopped, unless it was before (R12, R176). -/
theorem stop_haltForReset {x : Transmitter} (sending : x.sending ≠ none) : x.haltForReset.stop ≠ none := by
  have going : x.inProgress = true := by simp [Transmitter.inProgress, Option.isSome_iff_ne_none.mpr sending]
  rw [Transmitter.haltForReset_eq, going]
  cases x.stop <;> simp

theorem haltForReset_keeps (x : Transmitter) : x.haltForReset = { x with stop := x.haltForReset.stop } := by
  rw [Transmitter.haltForReset_eq]

/-- What a soft reset leaves (R177). -/
def AfterSoftReset (s t : State) : Prop :=
  t.command.busy = none ∧ t.command.last = .done ∧ t.command.result = 0 ∧ t.command.refusal = .none ∧
    (∀ l, (t.line l).role = .off ∧ (t.line l).ctl.state = .idle ∧ (t.line l).ctl.txn = none ∧
      (t.line l).params = (s.line l).params ∧ (t.line l).counters = .zero ∧ (t.line l).contention = 0 ∧
      (t.line l).sched = { (s.line l).sched with swapPending := false } ∧ (t.line l).cycle = .reset ∧
      (t.line l).tx = .reset ∧ (t.line l).reader.state = .hunt ∧ (t.line l).observer = .empty ∧
      (t.line l).silence = .zero ∧ (t.line l).urgent = [] ∧ (t.line l).normal = []) ∧
    (∀ d, t.drop d =
      { s.drop d with state := if (s.drop d).state = .disabled then .disabled else .unknown, failures := 0, toggle := false
                      fresh := !decide ((s.drop d).state = .disabled), attention := false, lastOutcome := .none
                      stats := .zero }) ∧
    (∀ g, t.slot g = .reset) ∧ t.sequence = 0 ∧ t.staging = .reset ∧ t.ready = [] ∧ t.opened = false ∧ t.freeCount = 24 ∧
    t.events = { s.events with queue := [], headAge := 0, lost := 0, summary := 0, snapshot := 0, renewed := 0 } ∧
    t.bus = { s.bus with hold := none, objectReg := 0, indexReg := 0, offset := 0, selected := none, snapshot := []
                         status := .none } ∧
    t.clock = s.clock

theorem afterSoftReset (s : State) : AfterSoftReset s s.finishSoftReset.driveIrq := by
  refine ⟨rfl, rfl, rfl, rfl, fun l => ?lines, fun d => ?drops, fun g => ?slots, rfl, rfl, rfl, rfl, ?free, rfl, rfl, rfl⟩
  case lines => cases l <;> exact ⟨rfl, rfl, rfl, rfl, rfl, rfl, rfl, rfl, rfl, rfl, rfl, rfl, rfl, rfl⟩
  case drops =>
    have drop : s.finishSoftReset.driveIrq.drop d = (s.drop d).softReset := State.modDrops_drop s Drop.softReset d
    rw [drop]
    unfold Drop.softReset Drop.enabled
    cases (s.drop d).state <;> rfl
  case slots =>
    change (Vector.replicate 16 Slot.reset)[g.val] = _
    simp
  case free =>
    have buffer (b : BufIx) : (s.finishSoftReset.driveIrq.buffer b).place = .free :=
      congrArg Buffer.place (State.modBuffers_buffer s (fun x => { x with place := .free }) b)
    unfold State.freeCount
    rw [List.countP_eq_length.mpr fun b _ => decide_eq_true (buffer b)]
    rfl

end

/-- Settles O31: the wait, and the effect, which is one for both rows. -/
theorem softResetKeepsConfiguration : Obligations.SoftResetKeepsConfiguration := by
  unfold Obligations.SoftResetKeepsConfiguration
  refine ⟨fun s idle sending => ?waits, fun s c row => ?effect⟩
  case waits =>
    have ran : (coded 0x60 s).runSoftReset = (((coded 0x60 s).modClock ClockUnit.softReset).modLines
        fun _ e => { e with tx := e.tx.haltForReset }).modCommand fun c => { c with busy := some .softReset } := by
      refine if_pos ?_
      rw [Bool.or_eq_true, Option.isSome_iff_ne_none, Option.isSome_iff_ne_none]
      exact sending
    refine ⟨_, (exec_softReset idle).trans (congrArg finish ran), rfl, fun l => ⟨?_, fun going => ?_⟩⟩
    · cases l <;> exact haltForReset_keeps _
    · cases l <;> exact stop_haltForReset going
  case effect =>
    obtain ⟨rfl, idle, restA, restB⟩ | ⟨rfl, waits⟩ := row
    · have ran : (coded 0x60 s).runSoftReset = ((coded 0x60 s).modClock ClockUnit.softReset).finishSoftReset :=
        if_neg (by
          rw [Bool.or_eq_true, Option.isSome_iff_ne_none, Option.isSome_iff_ne_none, not_or, not_not, not_not]
          exact ⟨restA, restB⟩)
      refine ⟨_, (exec_softReset idle).trans (congrArg finish ran), ?_⟩
      rw [if_pos rfl]
      exact afterSoftReset _
    · refine ⟨_, EventQueue.exec_softResetTakesEffect waits, ?_⟩
      rw [if_neg (by simp)]
      exact afterSoftReset s

/-! ### The registers (R168, R179) -/

section

theorem byteOf_toNat_of_lt {n : Nat} (small : n < 256) : (byteOf n).toNat = n := by
  simp [byteOf, small]

theorem wide_halves (h : Half) : wide (msb h) (lsb h) = h.toNat := by
  rw [wide, ClockRegisters.toNat_msb, lsb, BitVec.toNat_setWidth]
  omega

/-- A code below 16 beside a number in the upper half of a byte. -/
theorem or_shifted {code : Byte} (small : code.toNat < 16) (n : Nat) : code ||| (byteOf n <<< 4) = code + BitVec.ofNat 8 (16 * n) := by
  apply BitVec.eq_of_toNat_eq
  have shifted : (byteOf n <<< 4).toNat = (n % 16) <<< 4 := by
    simp [byteOf, Nat.shiftLeft_eq]
    omega
  rw [BitVec.toNat_or, shifted, Nat.or_comm, ← Nat.shiftLeft_add_eq_or_of_lt small, BitVec.toNat_add, BitVec.toNat_ofNat,
    Nat.shiftLeft_eq]
  omega

/-- The first byte of a line block (R179). -/
theorem toNat_lineStatus (r : Role) (inProgress owed pending active silent : Bool) :
    (r.code ||| flagBit inProgress 3 ||| flagBit owed 4 ||| flagBit pending 5 ||| flagBit active 6 ||| flagBit silent 7).toNat =
      r.code.toNat + inProgress.toNat * 8 + owed.toNat * 16 + pending.toNat * 32 + active.toNat * 64 + silent.toNat * 128 := by
  cases r <;> (revert inProgress owed pending active silent; decide)

theorem ctlCode_small (x : CtlState) : x.code.toNat < 16 := by
  cases x <;> decide

variable (s : State)

theorem lineBlock (l : Line) : blockShows s l := by
  have reg (n : Fin 8) : s.readRegister ((match l with | .a => 0x30 | .b => 0x38) + BitVec.ofNat 6 n.val) = s.lineRegister l n.val := by
    cases l <;> fin_cases n <;> rfl
  refine ⟨?role, ?number, reg 3, ?state, ?drop, ?silence⟩
  case role => exact (congrArg BitVec.toNat (reg 0)).trans (toNat_lineStatus ..)
  case number => exact (congrArg₂ wide (reg 1) (reg 2)).trans (wide_halves _)
  case silence => exact (congrArg₂ wide (reg 6) (reg 7)).trans (wide_halves _)
  case state =>
    refine (reg 4).trans ((or_shifted (ctlCode_small _) _).trans ?_)
    unfold Controller.attempts
    cases (s.line l).ctl.txn <;> rfl
  case drop =>
    refine (reg 5).trans ?_
    change noneOr _ (s.txnDrop l) = _
    have named : s.txnDrop l = (s.line l).ctl.txn.bind (·.drop) := by
      unfold State.txnDrop
      cases (s.line l).ctl.txn <;> rfl
    rw [named]
    cases (s.line l).ctl.txn.bind (·.drop) <;> rfl

theorem window_shows {x : EventRecord} {rest : List EventRecord} (head : s.events.queue = x :: rest) : windowShows s x := by
  have shown (f : EventRecord → Byte) (empty : Byte) : s.head f empty = f x := by
    unfold State.head
    rw [head]
  refine ⟨shown .., (shown ..).trans ?_, (shown ..).trans ?_, (shown ..).trans ?_, shown .., shown .., ?_, ?_, ?_, ?_⟩
  · cases x.line <;> rfl
  · cases x.drop <;> rfl
  · cases x.tag <;> rfl
  all_goals exact (shown ..).trans (by simp [stampByte])

theorem window_empty (empty : s.events.queue = []) :
    let r (a : BitVec 6) : Byte := s.readRegister a
    r 0x12 = 0 ∧ r 0x13 = 0xFF ∧ r 0x14 = 0xFF ∧ r 0x15 = 0xFF ∧ r 0x16 = 0 ∧ r 0x17 = 0 ∧ r 0x18 = 0 ∧ r 0x19 = 0 ∧ r 0x1A = 0 ∧
      r 0x1B = 0 := by
  have shown (f : EventRecord → Byte) (none : Byte) : s.head f none = none := by
    unfold State.head
    rw [empty]
  exact ⟨shown .., shown .., shown .., shown .., shown .., shown .., shown .., shown .., shown .., shown ..⟩

theorem toNat_commandStatus : (s.readRegister 0x05).toNat =
    (if s.command.busy = none then 0 else 1) + s.command.last.code.toNat * 2 := by
  change (flagBit s.command.busy.isSome 0 ||| (s.command.last.code <<< 1)).toNat = _
  cases s.command.busy with
  | none => cases s.command.last <;> rfl
  | some waiting =>
    rw [if_neg (by simp), Option.isSome_some]
    cases s.command.last <;> rfl

theorem toNat_clockControl : (s.readRegister 0x26).toNat = s.clock.requested.code.toNat + s.clock.xrefEnable.toNat * 2 := by
  change (s.clock.requested.code ||| flagBit s.clock.xrefEnable 1).toNat = _
  cases s.clock.requested <;> cases s.clock.xrefEnable <;> rfl

theorem toNat_clockStatus : (s.readRegister 0x27).toNat = s.clock.effective.code.toNat + s.clock.monitor.code.toNat * 2 +
    (if s.clock.requested = s.clock.effective then 0 else 8) := by
  change (s.clock.effective.code ||| (s.clock.monitor.code <<< 1) ||| flagBit s.clock.switchPending 3).toNat = _
  unfold ClockUnit.switchPending
  cases s.clock.requested <;> cases s.clock.effective <;> cases s.clock.monitor <;> rfl

theorem toNat_freeCount : (s.readRegister 0x0E).toNat =
    ((List.finRange 24).filter fun b => decide ((s.buffer b).place = .free)).length := by
  change (byteOf s.freeCount).toNat = _
  have counted : s.freeCount = ((List.finRange 24).filter fun b => decide ((s.buffer b).place = .free)).length :=
    List.countP_eq_length_filter
  have small := List.length_filter_le (fun b => decide ((s.buffer b).place = .free)) (List.finRange 24)
  rw [List.length_finRange] at small
  rw [byteOf_toNat_of_lt (by omega), counted]

theorem toNat_readyHead {b : BufIx} {rest : List BufIx} (head : s.ready = b :: rest) : (s.readRegister 0x10).toNat =
    (s.buffer b).drop.val + (s.buffer b).origin.code.toNat * 32 + s.opened.toNat * 128 := by
  have fits (d : DropIx) (o : Origin) (opened : Bool) : (byteOf d.val ||| (o.code <<< 5) ||| flagBit opened 7).toNat =
      d.val + o.code.toNat * 32 + opened.toNat * 128 := by
    cases o <;> (revert d opened; decide)
  change s.readyHead.toNat = _
  unfold State.readyHead
  rw [head]
  exact fits ..

/-- The registers after device reset, address by address. -/
theorem readRegister_reset (a : BitVec 6) : State.reset.readRegister a =
    match a.toNat with
    | 0x00 => 0x32 | 0x01 => 0x01 | 0x0E => 24 | 0x10 => 0xFF | 0x13 => 0xFF | 0x14 => 0xFF | 0x15 => 0xFF | 0x1E => 0x0F
    | 0x1F => 0xFE | 0x20 => 1 | 0x28 => 0x01 | 0x29 => 0x20 | 0x2B => 0xFA | 0x35 => 0xFF | 0x3D => 0xFF
    | _ => 0 := by
  revert a
  decide

theorem roleSound_reset (l : Line) : (State.reset.line l).RoleSound := by
  cases l <;> exact ⟨fun _ => ⟨rfl, rfl⟩, fun _ => rfl, fun _ => ⟨rfl, rfl, rfl, rfl, rfl, rfl⟩⟩

theorem addressesUnique_reset : State.reset.AddressesUnique := by
  have off (d : DropIx) : (State.reset.drop d).enabled = true → False := by
    rw [DropTable.drop_reset]
    rintro ⟨⟩
  exact ⟨fun d _ _ on => (off d on).elim, fun d on => (off d on).elim⟩

end

/-- Settles O3: register by register, then the state after device reset. -/
theorem registersAndReset : Obligations.RegistersAndReset := by
  unfold Obligations.RegistersAndReset
  refine ⟨by decide, fun s => ?shows, readRegister_reset, fun l => ?lines, rfl, rfl, ?drops, addressesUnique_reset, ?bounded, ?summary,
    ?pin, ?clock, Places.readyAgrees_reset, Queues.agree_reset, Places.placed_reset, roleSound_reset⟩
  case shows =>
    refine ⟨rfl, rfl, rfl, rfl, rfl, toNat_commandStatus s, rfl, rfl, rfl, rfl, rfl, rfl, rfl, rfl, toNat_freeCount s, rfl, fun empty => ?_,
      fun b rest => toNat_readyHead s, rfl, window_empty s, fun x rest => window_shows s, rfl, rfl, wide_halves _, rfl, rfl, rfl, rfl,
      rfl, toNat_clockControl s, toNat_clockStatus s, wide_halves _, wide_halves _, ?_, lineBlock s⟩
    · change s.readyHead = _
      unfold State.readyHead
      rw [empty]
    · change stampByte _ 0 = _
      simp [stampByte]
  case lines => cases l <;> exact ⟨rfl, rfl, rfl⟩
  case drops => exact fun d => DropTable.drop_reset d ▸ DropTable.agrees_reset d.val
  case bounded => unfold EventUnit.Bounded; decide
  case summary => unfold EventUnit.SummarySound; decide
  case pin => simp [State.PinAgrees, State.reset, EventUnit.reset]
  case clock => exact ⟨by rintro ⟨⟩, by rintro (⟨⟨⟩⟩ | ⟨⟨⟩⟩), fun _ => rfl⟩

end Sys2Proof.Proofs.Resets

/-! What the end of a line's work and the changes of its role leave, written out (R58 to R60, R74, R82, R126 to R131). -/

namespace Sys2Proof.Proofs.RoleEnds

open Sys2Proof Sys2Proof.Machine Sys2Proof.Laws Sys2Proof.Proofs.Rows Sys2Proof.Proofs.Work Sys2Proof.Proofs.LineRows

/-! ### A transaction's end (R59) -/

section

variable {s : State} {l : Line} {x : Txn}

/-- Step 4 of an end report in one formula (R25, R26). -/
theorem classify_eq (r : Drop) (c : OutcomeClass) : r.classify c =
    let good := c = .success ∨ c = .alive
    let n := min 15 (r.failures + 1)
    { r with
      state := if r.state = .disabled then .disabled else if good then .online
               else if c = .fail then (if r.state = .offline ∨ r.threshold ≤ n then .offline
                                       else if r.state = .online then .suspect else r.state)
               else r.state
      failures := if r.state = .disabled then r.failures else if good then 0 else if c = .fail then n else r.failures
      fresh := if r.state ≠ .disabled ∧ good then false else r.fresh } := by
  have off : r.enabled = !decide (r.state = .disabled) := by simp [Drop.enabled]
  unfold Drop.classify
  by_cases disabled : r.state = .disabled
  · simp [off, disabled]
    rw [← disabled]
  · cases c <;> simp [off, disabled, Drop.succeed, Drop.fail]

theorem endReport_record (r : Drop) (o : TxnOutcome) (began : Bool) : r.endReport o began = dropAfterEnd r o began := by
  unfold Drop.endReport dropAfterEnd
  rw [classify_eq]
  cases o <;> simp [TxnOutcome.cls, DropStats.transaction]

theorem endReport_eq (s : State) (d : DropIx) (o : TxnOutcome) (began : Bool) : s.endReport d o began =
    let r := s.drop d
    let ended := dropAfterEnd r o began
    { s.setDrop d ended with
      events := if ended.state = r.state then s.events else s.events.post
        { kind := .dropState, line := some r.line, drop := some d, tag := none, code := ended.state.code
          detail := r.state.code, stamp := s.clock.timestamp } } := by
  have record : (s.modDrop d (·.endReport o began)) = s.setDrop d (dropAfterEnd (s.drop d) o began) := by
    simp [State.modDrop, endReport_record]
  have same : ∀ r : Drop, ((s.setDrop d r).drop d) = r := fun r => by simp
  unfold State.endReport State.postIfChanged
  rw [record, same]
  by_cases kept : (dropAfterEnd (s.drop d) o began).state = (s.drop d).state
  · simp only [kept, if_true]
    rfl
  · simp only [kept, if_false, State.postDropState, State.post, same]
    rfl

theorem freeAssembling_returned (s : State) (l : Line) : s.freeAssembling l = s.returned (s.assembling l) := by
  unfold State.freeAssembling State.returned
  cases s.assembling l <;> rfl

theorem freeHeld_returned (s : State) (g : Tag) : s.freeHeld g = s.returned (s.heldBy g) := by
  unfold State.freeHeld State.returned
  cases s.heldBy g <;> rfl

/-- The buffers after this one, if one is named, has returned to the pool. -/
def pooled (bs : Vector Buffer 24) : Option BufIx → Vector Buffer 24
  | some b => bs.set b.val { bs[b.val] with place := .free }
  | none => bs

theorem returned_eq (s : State) (b : Option BufIx) : s.returned b = { s with buffers := pooled s.buffers b } := by
  cases b <;> rfl

/-- Completion (R98). -/
theorem complete_eq (s : State) (g : Tag) (o : TxnOutcome) (n : Nat) (b : Bool) : s.complete g o n b =
    let q := s.slot g
    { s.setSlot g { q with state := .done, outcome := o, abortPending := false, replyLength := n, replyStored := b } with
      buffers := pooled s.buffers (s.heldBy g)
      events := s.events.post
        { kind := .requestDone, line := some q.line, drop := some q.drop, tag := some g, code := o.code
          detail := BitVec.ofNat 8 q.attempts, stamp := s.clock.timestamp } } := by
  have same : ∀ u : Slot, (s.setSlot g u).slot g = u := fun u => by simp
  have freed : ∀ u : Slot, (s.setSlot g u).freeHeld g = { s.setSlot g u with buffers := pooled s.buffers (s.heldBy g) } :=
    fun u => by
      rw [freeHeld_returned, returned_eq]
      rfl
  have found : ∀ u bs, ({ s.setSlot g u with buffers := bs } : State).slot g = u := fun u _ => same u
  unfold State.complete State.modSlot
  simp only [freed, State.post, found]
  rfl

theorem abortPending_iff : s.abortPending x = true ↔ ∃ g, x.request = some g ∧ (s.slot g).abortPending = true := by
  unfold State.abortPending Txn.request
  cases x.source <;> simp

theorem dropEnabled_iff : s.dropEnabled x = false ↔ ∃ d, x.drop = some d ∧ (s.drop d).state = .disabled := by
  unfold State.dropEnabled Drop.enabled
  cases x.drop <;> simp

/-- R59's table, as the model and as the statements write it. -/
theorem ending_eq (s : State) (l : Line) (x : Txn) : s.ending l x =
    match s.endOf (s.line l).role x, x.request with
    | some o, _ => .over o
    | none, some g => .putBack g
    | none, none => .over .lineStopped := by
  unfold State.ending State.endOf
  simp only [Bool.and_eq_true, Bool.or_eq_true, decide_eq_true_eq, Bool.not_eq_true', abortPending_iff, dropEnabled_iff]
  by_cases ok : x.lastOutcome = .ok
  · simp only [ok, if_true]
  by_cases aborted : ∃ g, x.request = some g ∧ (s.slot g).abortPending = true
  · simp only [ok, aborted, if_true, if_false]
  by_cases disabled : ∃ d, x.drop = some d ∧ (s.drop d).state = .disabled
  · simp only [ok, aborted, disabled, if_true, if_false]
  by_cases stopping : (s.line l).role = .stopping
  · simp only [ok, aborted, disabled, stopping, if_true, if_false]
  by_cases leaves : ((s.line l).role = .yielding ∨ (s.line l).role = .standby) ∧ x.attempts < x.retry + 1
  · simp only [ok, aborted, disabled, stopping, leaves, if_false]
    unfold Txn.request
    cases x.source <;> rfl
  · simp only [ok, aborted, disabled, stopping, leaves, if_false]

theorem countEntry_closed (s : State) (l : Line) (x : Txn) (o : TxnOutcome) : s.countEntry l x o = s.setLine l { s.line l with
    cycle := cycleAfterTxn (s.line l).cycle x o
    counters := if x.source = .schedule ∧ x.attempts = 0 ∧ o = .dropDisabled then
      { (s.line l).counters with skippedInvalid := satInc (s.line l).counters.skippedInvalid } else (s.line l).counters } := by
  unfold State.countEntry cycleAfterTxn
  by_cases schedule : x.source = .schedule
  · by_cases began : 0 < x.attempts
    · have not : ¬ x.attempts = 0 := by omega
      simp only [schedule, began, not, if_true, true_and, false_and, if_false]
      rfl
    · have not : x.attempts = 0 := by omega
      by_cases disabled : o = .dropDisabled
      · simp only [schedule, not, disabled, if_true, and_true, Nat.lt_irrefl, if_false, and_false]
        rfl
      · simp only [schedule, not, disabled, if_true, and_false, Nat.lt_irrefl, if_false]
        exact (setLine_self s l).symm
  · simp only [schedule, if_false, false_and]
    exact (setLine_self s l).symm

/-- Only a request is put back (R59). -/
theorem request_of_endOf_none {r : Role} (back : s.endOf r x = none) : ∃ g, x.request = some g := by
  cases request : x.request with
  | some g => exact ⟨g, rfl⟩
  | none =>
    unfold State.endOf at back
    simp only [request, if_true] at back
    split_ifs at back

theorem completeTxn_eq (s : State) (x : Txn) (o : TxnOutcome) : s.completeTxn x o =
    match x.request with
    | none => s
    | some g => s.complete g o (if x.kind = .poll then x.lastLength else 0) (decide (x.kind = .poll) && x.lastStored) := by
  unfold State.completeTxn Txn.request Txn.replyFields
  cases x.source with
  | request g => by_cases poll : x.kind = .poll <;> simp [poll]
  | schedule | extraPoll | sync => rfl

/-- The transaction in hand comes to its end as R59 says, on a line whose request in hand is its own. -/
theorem finishTxn_txn (txn : (s.line l).ctl.txn = some x) (owned : ∀ g, x.request = some g → (s.slot g).line = l) :
    s.finishTxn l = s.txnEnded l (s.line l).role x := by
  unfold State.finishTxn State.txnEnded
  simp only [txn, ending_eq]
  cases outcome : s.endOf (s.line l).role x with
  | none =>
    obtain ⟨g, request⟩ := request_of_endOf_none outcome
    simp only [request]
    unfold State.putBack
    have mine := owned g request
    have slot : ∀ (t : State) (u : Slot), (t.setSlot g u).slot g = u := fun t u => by simp
    have kept : (s.modCtl l Controller.toIdle).slot g = s.slot g := by cases l <;> rfl
    simp only [State.modSlot, slot, kept, mine]
    cases l <;> rfl
  | some o =>
    simp only [countEntry_closed, completeTxn_eq, State.reportEnd, endReport_eq]
    cases x.drop with
    | none =>
      cases x.request with
      | none => cases l <;> rfl
      | some g =>
        simp only [complete_eq]
        rw [returned_eq]
        cases l <;> rfl
    | some d =>
      cases x.request with
      | none => cases l <;> rfl
      | some g =>
        simp only [complete_eq]
        rw [returned_eq]
        cases l <;> rfl

/-- The request in hand of a line is that line's own (R95). -/
abbrev OwnRequest (s : State) (l : Line) : Prop :=
  ∀ g, s.txnTag l = some g → (s.slot g).line = l

theorem ownRequest_of_agree (agree : s.QueuesAgree) : OwnRequest s l := fun g h => (agree.2 l g h).2

/-- The work in hand comes to its end as R59 says. -/
theorem finishTxn_eq (own : OwnRequest s l) : s.finishTxn l = s.workEnded l (s.line l).role := by
  unfold State.workEnded
  cases txn : (s.line l).ctl.txn with
  | none =>
    unfold State.finishTxn
    simp only [txn]
    rfl
  | some x =>
    refine finishTxn_txn txn fun g request => own g ?_
    rw [txnTag_eq, txn]
    exact request

theorem earlyEnd_eq (own : OwnRequest s l) (quiet : (s.line l).ctl.state.inFlight = false) :
    s.earlyEnd l = if (s.line l).ctl.state = .idle then s else s.workEnded l (s.line l).role := by
  unfold State.earlyEnd
  cases state : (s.line l).ctl.state with
  | idle => rfl
  | guard | backoff | pause => exact finishTxn_eq own
  | send | await | receive | discard =>
    rw [state] at quiet
    cases quiet

end

/-! ### Roles -/

section

variable (s : State) (l : Line)

theorem postRole_roleTold (role : Role) (cause : RoleCause) :
    (s.modLine l fun e => { e with role := role }).postRole l cause = s.roleTold l role cause := by
  cases l <;> rfl

theorem abandonCycle_eq : s.abandonCycle l =
    { s.setLine l { s.line l with cycle := (s.line l).cycle.left } with events := s.eventsLeft l } := by
  unfold State.abandonCycle State.eventsLeft Cycle.left
  cases walking : (s.line l).cycle.inProgress with
  | false =>
    simp only [walking, Bool.false_eq_true, if_false, false_and]
    have unchanged : s = { s.setLine l (s.line l) with events := s.events } := by rw [setLine_self]
    cases l <;> exact unchanged
  | true =>
    simp only [walking, if_true, State.postCycleDone, State.modCycle, modLine_eq, line_setLine_self, true_and]
    by_cases told : (s.line l).params.cycleEvents = true
    · simp only [told, if_true]
      cases l <;> rfl
    · simp only [told, Bool.false_eq_true, if_false]
      cases l <;> rfl

/-- What every entry to STANDBY leaves once the role has changed. -/
theorem enterStandby_eq : ((s.abandonCycle l).abandonFrame l).startStandby l = s.onStandby l := by
  rw [abandonCycle_eq]
  unfold State.abandonFrame State.declareError State.startStandby State.onStandby State.flushReader
  simp only [freeAssembling_returned, returned_eq]
  by_cases inFrame : (s.line l).reader.state = .inFrame
  · have held : ({ s.setLine l { s.line l with cycle := (s.line l).cycle.left } with
        events := s.eventsLeft l }.line l).reader.state = .inFrame := by
      cases l <;> exact inFrame
    rw [if_pos held]
    simp only [inFrame, if_true]
    cases l <;> rfl
  · have held : ¬ ({ s.setLine l { s.line l with cycle := (s.line l).cycle.left } with
        events := s.eventsLeft l }.line l).reader.state = .inFrame := by
      cases l <;> exact inFrame
    rw [if_neg held]
    simp only [inFrame, if_false]
    cases l <;> rfl

theorem endYield_eq : s.endYield l = ((s.earlyEnd l).roleTold l .standby .command).onStandby l := by
  unfold State.endYield
  simp only [postRole_roleTold, enterStandby_eq]

theorem enterOff_eq : ((s.abandonCycle l).freeAssembling l).modLine l LineEngine.stopped = s.onOff l := by
  unfold State.onOff
  simp only [abandonCycle_eq, freeAssembling_returned, returned_eq]
  cases l <;> rfl

theorem endStop_eq : s.endStop l = ((s.earlyEnd l).roleTold l .off .command).onOff l := by
  unfold State.endStop
  simp only [postRole_roleTold, enterOff_eq]

/-- An OFF or STANDBY line takes over (R128). -/
theorem becomeMaster_eq (cause : RoleCause) (out : (s.line l).role = .off ∨ (s.line l).role = .standby) :
    s.becomeMaster l cause = (s.onMaster l cause).select l := by
  unfold State.becomeMaster State.onMaster State.leaveRole
  refine congrArg (State.select · l) ?_
  rcases out with off | standby
  · simp only [off, if_true]
    cases l <;> rfl
  · have on : ¬ Role.standby = .off := by decide
    simp only [standby, on, if_false]
    unfold State.abandonFrame State.declareError State.flushReader
    simp only [freeAssembling_returned, returned_eq]
    by_cases inFrame : (s.line l).reader.state = .inFrame
    · simp only [inFrame, if_true]
      cases l <;> rfl
    · simp only [inFrame, if_false]
      cases l <;> rfl

/-- A demotion whose line's request in hand is its own (R131). -/
theorem demote_eq (own : OwnRequest s l) : s.demote l = s.demoted l := by
  unfold State.demote State.demoted
  simp only [postRole_roleTold, enterStandby_eq]
  have role : (((s.roleTold l .standby .demotion).raise (contentionBit l)).line l).role = .standby := by cases l <;> rfl
  have still : OwnRequest ((s.roleTold l .standby .demotion).raise (contentionBit l)) l := by cases l <;> exact own
  rw [finishTxn_eq still, role]
  cases l <;> rfl

end

/-! ### The end of a yield and of a stop, and a silent line (R130, R137, R138) -/

section

variable {s : State} {l : Line}

theorem exec_yieldEnd (role : (s.line l).role = .yielding) (quiet : (s.line l).ctl.state.inFlight = false) :
    exec (.yieldEnd l) s = .next (((s.earlyEnd l).roleTold l .standby .command).onStandby l).driveIrq := by
  have may : (s.line l).mayEnd .yielding = true := by simp [LineEngine.mayEnd, role, quiet]
  exact congrArg finish ((if_pos may).trans (endYield_eq s l))

theorem exec_stopEnd (role : (s.line l).role = .stopping) (quiet : (s.line l).ctl.state.inFlight = false) :
    exec (.stopEnd l) s = .next (((s.earlyEnd l).roleTold l .off .command).onOff l).driveIrq := by
  have may : (s.line l).mayEnd .stopping = true := by simp [LineEngine.mayEnd, role, quiet]
  exact congrArg finish ((if_pos may).trans (endStop_eq s l))

/-- The line at an end of its role (R74, R130). -/
theorem roleTold_onStandby_line (t : State) (c : RoleCause) : ((t.roleTold l .standby c).onStandby l).line l =
    { t.line l with
      role := .standby, cycle := (t.line l).cycle.left, observer := .empty, silence := .zero
      reader := if (t.line l).reader.state = .inFrame then (t.line l).flushed (t.line l).reader else (t.line l).reader } := by
  unfold State.onStandby
  simp only [returned_eq]
  cases l <;> rfl

theorem roleTold_onOff_line (t : State) (c : RoleCause) : ((t.roleTold l .off c).onOff l).line l =
    { t.line l with
      role := .off, cycle := { (t.line l).cycle.left with timer := 0, expiryDue := false }, observer := .empty, silence := .zero
      rx := .reset, reader := .reset, tx := .reset } := by
  unfold State.onOff
  simp only [returned_eq]
  cases l <;> rfl

theorem left_inProgress (c : Cycle) : c.left.inProgress = false := by
  unfold Cycle.left
  split
  · rfl
  · next still => simpa using still

theorem left_owed (c : Cycle) : c.left.owed = c.owed := by
  unfold Cycle.left
  split <;> rfl

/-- The end of the work in hand keeps the banks and the pending flag of its line. -/
theorem finishTxn_keeps : ((s.finishTxn l).line l).sched = (s.line l).sched ∧
    ((s.finishTxn l).line l).cycle.owed = (s.line l).cycle.owed := by
  obtain ⟨-, same⟩ | ⟨x, -, ⟨g, -, same⟩ | ⟨o, same⟩⟩ := finishTxn_cases l s
  · simp [same]
  · obtain ⟨u, v, queues⟩ := putBack_line (s.modCtl l Controller.toIdle) l g x.lastLength
    rw [same, queues]
    simp
  · obtain ⟨p, q, n, counted⟩ := countEntry_eq l s x o
    simp [same, counted]

theorem earlyEnd_keeps : ((s.earlyEnd l).line l).sched = (s.line l).sched ∧
    ((s.earlyEnd l).line l).cycle.owed = (s.line l).cycle.owed := by
  unfold State.earlyEnd
  cases (s.line l).ctl.state with
  | guard | backoff | pause => exact finishTxn_keeps
  | idle | send | await | receive | discard => exact ⟨rfl, rfl⟩

/-- The line as it enters MASTER from STANDBY (R128). -/
theorem onMaster_line_standby (cause : RoleCause) (standby : (s.line l).role = .standby) : (s.onMaster l cause).line l =
    { s.line l with
      role := .master, observer := .empty, silence := .zero, contention := 0
      reader := if (s.line l).reader.state = .inFrame then (s.line l).flushed (s.line l).reader else (s.line l).reader
      cycle := { (s.line l).cycle with
        gapCount := (s.line l).params.gapQuota, owed := (s.line l).cycle.owed || decide (cause = .takeover) } } := by
  have on : ¬ Role.standby = .off := by decide
  unfold State.onMaster
  simp only [standby, on, if_false, returned_eq]
  cases l <;> rfl

/-- The line as it enters MASTER from OFF (R128, R129). -/
theorem onMaster_line_off (cause : RoleCause) (off : (s.line l).role = .off) : (s.onMaster l cause).line l =
    { s.line l with
      role := .master, observer := .empty, silence := .zero, contention := 0
      rx := .reset, reader := .reset, tx := .reset, divisor := (s.line l).params.divisorFor s.clock.effective
      cycle := { (s.line l).cycle with
        gapCount := (s.line l).params.gapQuota, owed := (s.line l).cycle.owed || decide (cause = .takeover)
        timer := 0, expiryDue := false } } := by
  unfold State.onMaster
  simp only [off, if_true]
  cases l <;> rfl

/-- LINE_ROLE is the record that the entry to MASTER posts. -/
theorem onMaster_events (cause : RoleCause) : (s.onMaster l cause).events = s.events.post
    { kind := .lineRole, line := some l, drop := none, tag := none, code := 2, detail := cause.code
      stamp := s.clock.timestamp } := by
  unfold State.onMaster
  simp only [returned_eq]
  split <;> cases l <;> rfl

theorem exec_lineSilent (standby : (s.line l).role = .standby) (due : (s.line l).silence.due = true) :
    exec (.lineSilent l) s =
      let told := { s with events := s.events.post { kind := .lineSilent, line := some l, drop := none, tag := none, code := 0
                                                     detail := 0, stamp := s.clock.timestamp } }
      .next (if (s.line l).params.autoTakeover then (told.onMaster l .takeover).select l
        else told.setLine l { s.line l with silence := { (s.line l).silence with flag := true, due := false } }).driveIrq := by
  have taken : ((s.line l).role = .standby && (s.line l).silence.due) = true := by simp [standby, due]
  refine congrArg finish ((if_pos taken).trans ?_)
  have parameters : (((s.modLine l fun e => { e with silence := { e.silence with flag := true, due := false } }).post .lineSilent
      (some l) none none 0 0).line l).params = (s.line l).params := by cases l <;> rfl
  have role : (((s.modLine l fun e => { e with silence := { e.silence with flag := true, due := false } }).post .lineSilent
      (some l) none none 0 0).line l).role = .standby := by cases l <;> exact standby
  simp only [parameters]
  by_cases takes : (s.line l).params.autoTakeover = true
  · simp only [takes, if_true, becomeMaster_eq _ l .takeover (.inr role)]
    refine congrArg (State.select · l) ?_
    have on : ¬ Role.standby = .off := by decide
    unfold State.onMaster
    simp only [returned_eq]
    cases l <;> rfl
  · simp only [takes]
    cases l <;> rfl

end

/-- Settles O58: an end of a role is the end of the work in hand, then the change of role and what it leaves behind; a takeover is
the entry to MASTER from STANDBY, which starts the silence count afresh whatever the judgement of silence had marked. -/
theorem rolesEnd : Obligations.RolesEnd := by
  unfold Obligations.RolesEnd
  refine ⟨fun s l quiet agree => ?_, fun s l quiet => ?_, fun s l standby due => ?_⟩
  · have ended := earlyEnd_eq (ownRequest_of_agree agree) quiet
    refine ⟨fun role => ?_, fun role => ?_⟩
    · rw [exec_yieldEnd role quiet, ended]
    · rw [exec_stopEnd role quiet, ended]
  · obtain ⟨banks, owed⟩ := @earlyEnd_keeps s l
    have idle := earlyEnd_state (s := s) (l := l) quiet
    refine ⟨fun role => ⟨_, exec_yieldEnd role quiet, ?_⟩, fun role => ⟨_, exec_stopEnd role quiet, ?_⟩⟩
    · have untouched : Untouched s _ := lineRowsLeaveHostSide s _ _ l rfl (exec_yieldEnd role quiet)
      simp only [State.driveIrq_line, roleTold_onStandby_line]
      exact ⟨trivial, idle, left_inProgress _, (left_owed _).trans owed, banks, untouched⟩
    · have untouched : Untouched s _ := lineRowsLeaveHostSide s _ _ l rfl (exec_stopEnd role quiet)
      simp only [State.driveIrq_line, roleTold_onOff_line]
      exact ⟨trivial, idle, left_inProgress _, (left_owed _).trans owed, banks, untouched⟩
  · have answer := exec_lineSilent standby due
    refine ⟨fun stays => ?_, fun takes => ?_⟩
    · rw [answer]
      simp only [stays, Bool.false_eq_true, if_false]
      cases l <;> rfl
    · simp only [takes, if_true] at answer
      let told := { s with events := s.events.post { kind := .lineSilent, line := some l, drop := none, tag := none, code := 0
                                                     detail := 0, stamp := s.clock.timestamp } }
      have same : told.line l = s.line l := by cases l <;> rfl
      have line := onMaster_line_standby (s := told) .takeover (same ▸ standby)
      have only := OnlyWork.select (k := l) (told.onMaster l .takeover) l
      have posted := ((Untouched.refl (told.onMaster l .takeover)).select l).events
      rw [onMaster_events] at posted
      refine ⟨?_, ?_, answer, _, answer, ?_, ?_, ?_, posted, lineRowsLeaveHostSide s _ _ l rfl answer⟩
      · exact (congrArg (·.cycle.owed) line).trans (Bool.or_true _)
      · exact (congrArg (·.cycle.gapCount) line).trans (congrArg (·.params.gapQuota) same)
      · rw [State.driveIrq_line, only.role, line]
      · rw [State.driveIrq_line, only.silence, line]
      · rw [State.driveIrq_line, only.contention, line]

end Sys2Proof.Proofs.RoleEnds

/-! What a list of completions leaves (R98, R104 to R106): slot by slot, queue by queue, buffer by buffer, record by record. -/

namespace Sys2Proof.Proofs.Completions

open Sys2Proof Sys2Proof.Machine Sys2Proof.Laws Sys2Proof.Proofs.Rows Sys2Proof.Proofs.Work Sys2Proof.Proofs.Invariants
open Sys2Proof.Proofs.Queues Sys2Proof.Proofs.LineRows Sys2Proof.Proofs.RoleEnds Sys2Proof.Proofs.EventQueue

/-- The slot of a queued request once it is complete (R98, R99). -/
def closed (o : TxnOutcome) (q : Slot) : Slot :=
  { q with state := .done, outcome := o, abortPending := false, replyLength := 0, replyStored := false }

/-- REQUEST_DONE of a slot (R98). -/
def doneRecord (s : State) (o : TxnOutcome) (g : Tag) : EventRecord :=
  { kind := .requestDone, line := some (s.slot g).line, drop := some (s.slot g).drop, tag := some g, code := o.code
    detail := BitVec.ofNat 8 (s.slot g).attempts, stamp := s.clock.timestamp }

/-- The state after these queued requests have been completed, in this order. -/
def completions (o : TxnOutcome) (gs : List Tag) (s : State) : State :=
  gs.foldl (fun s g => s.completeQueued g o) s

section

variable {o : TxnOutcome} {gs : List Tag} {s : State} {g : Tag} {l k : Line}

theorem completions_cons (g : Tag) (gs : List Tag) (s : State) :
    completions o (g :: gs) s = completions o gs (s.completeQueued g o) := rfl

theorem completeAll_completions (s : State) (l : Line) (o : TxnOutcome) :
    s.completeAll l (fun _ => true) o = completions o ((s.line l).urgent ++ (s.line l).normal) s := by
  unfold State.completeAll completions
  rw [List.filter_true]

theorem completeQueued_eq (s : State) (g : Tag) (o : TxnOutcome) : s.completeQueued g o =
    { s.unqueue g with
      slots := (s.setSlot g (closed o (s.slot g))).slots
      buffers := pooled s.buffers (s.heldBy g)
      events := s.events.post (doneRecord s o g) } := by
  unfold State.completeQueued
  rw [complete_eq]
  unfold State.unqueue
  cases (s.slot g).line <;> rfl

theorem completeQueued_slot_closed (s : State) (g : Tag) (o : TxnOutcome) (i : Tag) :
    (s.completeQueued g o).slot i = if i = g then closed o (s.slot g) else s.slot i :=
  completeQueued_slot s g o i

theorem completions_slot (gs : List Tag) (s : State) (i : Tag) :
    (completions o gs s).slot i = if i ∈ gs then closed o (s.slot i) else s.slot i := by
  induction gs generalizing s with
  | nil => rfl
  | cons g gs ih =>
    rw [completions_cons, ih, completeQueued_slot_closed]
    by_cases here : i = g
    · subst here
      simp [closed]
    · simp [here]

/-- The slot's part of its record stays when another slot, or the slot itself, is completed. -/
theorem doneRecord_completeQueued (s : State) (g : Tag) (i : Tag) :
    doneRecord (s.completeQueued g o) o i = doneRecord s o i := by
  have clock : (s.completeQueued g o).clock = s.clock := by
    rw [completeQueued_eq]
    unfold State.unqueue
    cases (s.slot g).line <;> rfl
  unfold doneRecord
  rw [completeQueued_slot_closed, clock]
  split
  · next same => rw [same]; rfl
  · rfl

theorem completions_events (gs : List Tag) (s : State) :
    (completions o gs s).events = (gs.map (doneRecord s o)).foldl EventUnit.post s.events := by
  induction gs generalizing s with
  | nil => rfl
  | cons g gs ih =>
    rw [completions_cons, ih, List.map_cons, List.foldl_cons]
    have records : gs.map (doneRecord (s.completeQueued g o) o) = gs.map (doneRecord s o) :=
      List.map_congr_left fun i _ => doneRecord_completeQueued s g i
    rw [records, completeQueued_eq]

theorem pooled_get (bs : Vector Buffer 24) (b : Option BufIx) (i : BufIx) :
    (pooled bs b)[i.val] = if b = some i then { bs[i.val] with place := .free } else bs[i.val] := by
  cases b with
  | none => rfl
  | some j =>
    unfold pooled
    rw [Vector.getElem_set]
    by_cases same : j = i
    · subst same
      simp
    · have apart : ¬ j.val = i.val := fun eq => same (Fin.ext eq)
      simp [same, apart]

theorem returned_buffer (s : State) (b : Option BufIx) (i : BufIx) :
    (s.returned b).buffer i = if b = some i then { s.buffer i with place := .free } else s.buffer i := by
  rw [returned_eq]
  exact pooled_get ..

theorem completeQueued_buffer (s : State) (g : Tag) (o : TxnOutcome) (b : BufIx) : (s.completeQueued g o).buffer b =
    if s.heldBy g = some b then { s.buffer b with place := .free } else s.buffer b := by
  rw [completeQueued_eq]
  exact pooled_get ..

/-- Another slot's payload buffer stays held when the buffer of this one returns to the pool. -/
theorem heldBy_completeQueued {i : Tag} (other : i ≠ g) : (s.completeQueued g o).heldBy i = s.heldBy i := by
  have place (b : BufIx) : ((s.completeQueued g o).buffer b).place = .held i ↔ (s.buffer b).place = .held i := by
    rw [completeQueued_buffer]
    split
    · next held =>
      have was := State.heldBy_place held
      simp [was, Ne.symm other]
    · rfl
  unfold State.heldBy
  simp only [place]

theorem completions_buffer (once : gs.Nodup) (b : BufIx) : (completions o gs s).buffer b =
    if ∃ g ∈ gs, s.heldBy g = some b then { s.buffer b with place := .free } else s.buffer b := by
  induction gs generalizing s with
  | nil => simp [completions]
  | cons g gs ih =>
    obtain ⟨out, once⟩ := List.nodup_cons.mp once
    have held : (∃ i ∈ gs, (s.completeQueued g o).heldBy i = some b) ↔ ∃ i ∈ gs, s.heldBy i = some b := by
      refine exists_congr fun i => and_congr_right fun inList => ?_
      rw [heldBy_completeQueued fun same : i = g => out (same ▸ inList)]
    rw [completions_cons, ih once, if_congr held rfl rfl, completeQueued_buffer]
    by_cases first : s.heldBy g = some b <;> simp [first]

/-- A list of completions moves nothing of an engine but its queues. -/
theorem completions_line (gs : List Tag) (s : State) (k : Line) :
    ∃ u n, (completions o gs s).line k = { s.line k with urgent := u, normal := n } := by
  induction gs generalizing s with
  | nil => exact ⟨_, _, rfl⟩
  | cons g gs ih =>
    obtain ⟨u, n, here⟩ := ih (s.completeQueued g o)
    obtain ⟨v, m, next⟩ := completeQueued_line s g o k
    refine ⟨u, n, ?_⟩
    rw [completions_cons, here, next]

theorem completions_otherLine (mine : ∀ g ∈ gs, (s.slot g).line = l) (other : k ≠ l) :
    (completions o gs s).line k = s.line k := by
  induction gs generalizing s with
  | nil => rfl
  | cons g gs ih =>
    obtain ⟨first, rest⟩ := List.forall_mem_cons.mp mine
    have kept : (s.completeQueued g o).line k = s.line k := by
      rw [completeQueued_eq]
      unfold State.unqueue
      rw [first]
      revert other
      cases k <;> cases l <;> intro other
      · exact absurd rfl other
      · rfl
      · rfl
      · exact absurd rfl other
    rw [completions_cons, ih fun i inList => ?_, kept]
    rw [completeQueued_slot_closed]
    split
    · exact first
    · exact rest i inList

/-- With its queued requests complete, the queues of a line are empty (R104, R106). -/
theorem completeAll_line (agree : s.QueuesAgree) (l : Line) (o : TxnOutcome) :
    (s.completeAll l (fun _ => true) o).line l = { s.line l with urgent := [], normal := [] } := by
  have after : (s.completeAll l (fun _ => true) o).QueuesAgree := agree_completeAll agree l _ o
  obtain ⟨u, n, line⟩ := completions_line (o := o) ((s.line l).urgent ++ (s.line l).normal) s l
  rw [← completeAll_completions] at line
  have empty (p : Priority) : ((s.completeAll l (fun _ => true) o).line l).queueOf p = [] := by
    refine List.eq_nil_iff_forall_not_mem.mpr fun g inQueue => ?_
    obtain ⟨queued, mine, -⟩ := ((after.1 l p).2 g).mp inQueue
    rw [completeAll_completions, completions_slot] at queued mine
    split at queued
    · cases queued
    · next out =>
      rw [if_neg out] at mine
      exact out ((mem_queues agree).mpr ⟨queued, mine⟩)
  have urgent : u = [] := by simpa [line, LineEngine.queueOf] using empty .urgent
  have normal : n = [] := by simpa [line, LineEngine.queueOf] using empty .normal
  rw [line, urgent, normal]

end

/-! ### Records posted one after the other (R157, R158) -/

section

variable {u : EventUnit}

theorem post_mask (r : EventRecord) : (u.post r).mask = u.mask :=
  congrArg (·.1) (EventUnit.post_config u r)

/-- Records posted one after the other join the queue in order, those that the mask takes until it is full. -/
theorem foldl_post_queue (rs : List EventRecord) : ∃ done, (rs.foldl EventUnit.post u).queue = u.queue ++ done ∧
    (∀ r ∈ done, r ∈ rs) ∧ (rs.foldl EventUnit.post u).mask = u.mask ∧
    ∀ r ∈ rs, u.mask.getLsbD r.kind.code = true → 32 ≤ (rs.foldl EventUnit.post u).queue.length ∨ r ∈ done := by
  induction rs generalizing u with
  | nil => exact ⟨[], by simp⟩
  | cons r rs ih =>
    obtain ⟨done, queue, mem, mask, taken⟩ := ih (u := u.post r)
    rw [post_mask] at mask taken
    rw [List.foldl_cons]
    have grown : (u.post r).queue.length ≤ (rs.foldl EventUnit.post (u.post r)).queue.length := by rw [queue]; simp
    rcases Bool.eq_false_or_eq_true (u.mask.getLsbD r.kind.code) with enabled | masked
    · by_cases room : u.queue.length < 32
      · have joined : (u.post r).queue = u.queue ++ [r] := by rw [post_of_room enabled room]
        refine ⟨r :: done, by rw [queue, joined]; simp, ?_, mask, ?_⟩
        · exact fun i inList => (List.mem_cons.mp inList).elim (fun same => same ▸ List.mem_cons_self)
            fun later => List.mem_cons_of_mem _ (mem i later)
        · refine fun i inList enabled => (List.mem_cons.mp inList).elim (fun same => .inr (same ▸ List.mem_cons_self))
            fun later => ?_
          exact (taken i later enabled).imp_right (List.mem_cons_of_mem _)
      · have full : (u.post r).queue = u.queue := by
          unfold EventUnit.post EventUnit.raise
          rw [if_neg (by simp [enabled]), if_neg (show ¬ u.queue.length < Config.queueDepth from room)]
          split <;> rfl
        refine ⟨done, by rw [queue, full], fun i inList => List.mem_cons_of_mem _ (mem i inList), mask, fun i _ _ => .inl ?_⟩
        rw [full] at grown
        omega
    · have same : u.post r = u := post_of_masked masked
      refine ⟨done, by rw [queue, same], fun i inList => List.mem_cons_of_mem _ (mem i inList), mask,
        fun i inList enabled => ?_⟩
      refine (List.mem_cons.mp inList).elim (fun here => ?_) fun later => taken i later enabled
      rw [here, masked] at enabled
      cases enabled

end

end Sys2Proof.Proofs.Completions

/-! The role commands: LINE_START, LINE_STANDBY and LINE_STOP (R127 to R129). -/

namespace Sys2Proof.Proofs.RoleCommands

open Sys2Proof Sys2Proof.Machine Sys2Proof.Laws Sys2Proof.Proofs.DropTable Sys2Proof.Proofs.SwapAndTrigger Sys2Proof.Proofs.Rows
open Sys2Proof.Proofs.Work Sys2Proof.Proofs.Queues Sys2Proof.Proofs.LineRows Sys2Proof.Proofs.RoleEnds Sys2Proof.Proofs.Completions

/-- The three role commands: code, role asked for, effect. -/
def roleEffect : Instr → Option (Byte × Role × (State → Line → State))
  | .lineStart => some (0x20, .master, fun s l => s.becomeMaster l .command)
  | .lineStandby => some (0x21, .standby, fun s l => if (s.line l).role = .off then s.becomeStandby l else s.beginYield l)
  | .lineStop => some (0x22, .off, fun s l => if (s.line l).role = .standby then s.stopStandby l else s.beginStop l)
  | _ => none

section

variable {s : State} {l : Line} {c : Instr} {code : Byte} {asked : Role} {f : State → Line → State}

/-- A role command on an IDLE command unit is the check of its argument and its role, then its effect. -/
theorem exec_role (idle : s.idle) (command : roleEffect c = some (code, asked, f)) :
    exec c s = finish ((coded code s).roleCommand asked f) := by
  cases c <;> cases command
  all_goals exact congrArg finish (startCommand_of_idle idle ..)

theorem role_badLine (idle : s.idle) (command : roleEffect c = some (code, asked, f)) (bad : 1 < s.bus.arg0.toNat) :
    exec c s = .next (refusedAs s code .badLine) := by
  have refused : (coded code s).roleCommand asked f = (coded code s).refuse .badLine := withLine_of_bad bad _
  rw [exec_role idle command, refused, finish_refuse_coded idle]

/-- On a named line the role decides between a refusal and the effect (R127). -/
theorem role_refused (idle : s.idle) (command : roleEffect c = some (code, asked, f)) (named : s.bus.arg0 = l.code)
    {why : CmdRefusal} (refused : (s.line l).refuseRole asked = some why) : exec c s = .next (refusedAs s code why) := by
  have judged : (coded code s).roleCommand asked f = (coded code s).refuse why :=
    (withLine_of_code (s := coded code s) named _).trans (by rw [coded_line, refused])
  rw [exec_role idle command, judged, finish_refuse_coded idle]

theorem role_taken (idle : s.idle) (command : roleEffect c = some (code, asked, f)) (named : s.bus.arg0 = l.code)
    (taken : (s.line l).refuseRole asked = none) {r : Role} (ends : ((f (coded code s) l).line l).role = r) :
    exec c s = .next ((f (coded code s) l).done r.code).driveIrq := by
  have judged : (coded code s).roleCommand asked f = (f (coded code s) l).done ((f (coded code s) l).line l).role.code :=
    (withLine_of_code (s := coded code s) named _).trans (by rw [coded_line, taken])
  rw [exec_role idle command, judged, ends]
  rfl

/-- The command unit once a command is accepted, whatever else its effect moved (R174). -/
theorem done_command {t : State} (kept : t.command = (coded code s).command) (r : Byte) :
    (t.done r).driveIrq.command = { code, busy := none, last := .done, result := r, refusal := .none } := by
  have done : (t.done r).driveIrq.command = { t.command with busy := none, last := .done, result := r, refusal := .none } := rfl
  rw [done, kept]
  rfl

theorem refuseRole_lineBusy (transition : (s.line l).role = .yielding ∨ (s.line l).role = .stopping) :
    (s.line l).refuseRole asked = some .lineBusy := by
  unfold LineEngine.refuseRole
  rcases transition with role | role <;> rw [role]

theorem refuseRole_sameRole (same : (s.line l).role = asked) (settled : asked ≠ .yielding ∧ asked ≠ .stopping) :
    (s.line l).refuseRole asked = some .sameRole := by
  obtain ⟨notYielding, notStopping⟩ := settled
  unfold LineEngine.refuseRole
  rw [same]
  cases asked with
  | off | standby | master => exact if_pos rfl
  | yielding => exact absurd rfl notYielding
  | stopping => exact absurd rfl notStopping

end

/-! ### LINE_START (R128) -/

section

variable {s : State} {l : Line}

theorem onMaster_withCommand (c : CommandUnit) (cause : RoleCause) :
    (withCommand c s).onMaster l cause = withCommand c (s.onMaster l cause) := by
  have assembling : (withCommand c s).assembling l = s.assembling l := rfl
  unfold State.onMaster
  simp only [returned_eq, line_withCommand, assembling]
  split <;> cases l <;> rfl

theorem onMaster_role (cause : RoleCause) (out : (s.line l).role = .off ∨ (s.line l).role = .standby) :
    ((s.onMaster l cause).line l).role = .master := by
  rcases out with off | standby
  · rw [onMaster_line_off cause off]
  · rw [onMaster_line_standby cause standby]

theorem exec_lineStart (idle : s.idle) (named : s.bus.arg0 = l.code) (out : (s.line l).role = .off ∨ (s.line l).role = .standby) :
    exec .lineStart s = .next (doneAs ((s.onMaster l .command).select l) 0x20 2) := by
  have settled : (s.line l).refuseRole .master = none := by
    rcases out with role | role <;> simp [LineEngine.refuseRole, role]
  have effect : (coded 0x20 s).becomeMaster l .command =
      withCommand { s.command with code := 0x20 } ((s.onMaster l .command).select l) := by
    rw [becomeMaster_eq _ l .command (by rwa [coded_line]), coded, onMaster_withCommand, select_withCommand]
  have role : (((coded 0x20 s).becomeMaster l .command).line l).role = .master := by
    rw [effect, line_withCommand, (OnlyWork.select (k := l) _ l).role, onMaster_role .command out]
  rw [role_taken idle (c := .lineStart) rfl named settled role, effect]
  rfl

/-- The entry to MASTER leaves the host's side alone. -/
theorem onMaster_host (cause : RoleCause) : (s.onMaster l cause).bus = s.bus ∧ (s.onMaster l cause).clock = s.clock ∧
    (s.onMaster l cause).staging = s.staging ∧ (s.onMaster l cause).sequence = s.sequence ∧
    (s.onMaster l cause).opened = s.opened := by
  unfold State.onMaster
  simp only [returned_eq]
  split <;> cases l <;> exact ⟨rfl, rfl, rfl, rfl, rfl⟩

theorem onMaster_gap (cause : RoleCause) (out : (s.line l).role = .off ∨ (s.line l).role = .standby) :
    ((s.onMaster l cause).line l).cycle.gapCount = (s.line l).params.gapQuota ∧
    ((s.onMaster l cause).line l).cycle.owed = ((s.line l).cycle.owed || decide (cause = .takeover)) := by
  rcases out with off | standby
  · rw [onMaster_line_off cause off]
    exact ⟨rfl, rfl⟩
  · rw [onMaster_line_standby cause standby]
    exact ⟨rfl, rfl⟩

/-- The parts of the engine that the entry to MASTER sets in both cases. -/
theorem onMaster_shared (cause : RoleCause) (out : (s.line l).role = .off ∨ (s.line l).role = .standby) :
    ((s.onMaster l cause).line l).silence = .zero ∧ ((s.onMaster l cause).line l).contention = 0 ∧
    ((s.onMaster l cause).line l).params = (s.line l).params ∧
    ((s.onMaster l cause).line l).tx.enable = if (s.line l).role = .off then false else (s.line l).tx.enable := by
  rcases out with off | standby
  · rw [onMaster_line_off cause off, off]
    exact ⟨rfl, rfl, rfl, rfl⟩
  · rw [onMaster_line_standby cause standby, standby]
    exact ⟨rfl, rfl, rfl, rfl⟩

end

/-- Settles O37: the checks of a role command in their order; LINE_START is the entry to MASTER and the work selection after it,
which moves neither role nor receiver, reader, transmitter, silence or contention. -/
theorem lineStartAndRoleRefusals : Obligations.LineStartAndRoleRefusals := by
  unfold Obligations.LineStartAndRoleRefusals
  refine ⟨fun s idle p listed => ?_, fun s l idle named out => ?_⟩
  · obtain ⟨f, command⟩ : ∃ f, roleEffect p.1 = some (p.2.1, p.2.2, f) := by
      fin_cases listed <;> exact ⟨_, rfl⟩
    have settled : p.2.2 ≠ .yielding ∧ p.2.2 ≠ .stopping := by
      fin_cases listed <;> decide
    refine ⟨role_badLine idle command, fun l named => ⟨fun transition => ?_, fun same => ?_⟩⟩
    · exact role_refused idle command named (refuseRole_lineBusy transition)
    · exact role_refused idle command named (refuseRole_sameRole same settled)
  · have answer := exec_lineStart idle named out
    have only := OnlyWork.select (k := l) (s.onMaster l .command) l
    have untouched := (Untouched.refl (s.onMaster l .command)).select l
    have posted := untouched.events
    rw [onMaster_events] at posted
    have line (t : State) : (doneAs t 0x20 2).line l = t.line l := by cases l <;> rfl
    obtain ⟨gap, owed⟩ := onMaster_gap (s := s) (l := l) .command out
    obtain ⟨silence, contention, params, enable⟩ := onMaster_shared (s := s) (l := l) .command out
    obtain ⟨bus, clock, staging, sequence, opened⟩ := onMaster_host (s := s) (l := l) .command
    refine ⟨gap, owed.trans (Bool.or_false _), answer, _, answer, rfl, ?_, ?_, ?_, ?_, ?_, fun off => ?_, fun standby => ?_,
      posted, untouched.bus.trans bus, untouched.clock.trans clock, untouched.staging.trans staging,
      untouched.sequence.trans sequence, untouched.opened.trans opened⟩
    · rw [line, only.role, onMaster_role .command out]
    · rw [line, only.silence, silence]
      rfl
    · rw [line, only.contention, contention]
    · rw [line, only.params, params]
    · rw [line, only.tx, enable]
    · rw [line, only.rx, only.reader, only.timer, only.divisor, onMaster_line_off .command off]
      exact ⟨rfl, rfl, rfl, rfl, rfl⟩
    · rw [line, only.timer, only.observer, only.reader, onMaster_line_standby .command standby]
      refine ⟨rfl, rfl, ?_⟩
      dsimp only
      split <;> rfl

/-! ### LINE_STANDBY and LINE_STOP (R129, R130) -/

section

variable {s : State} {l : Line} {c : Instr} {code : Byte} {asked : Role} {f : State → Line → State}

theorem becomeStandby_eq (s : State) (l : Line) : s.becomeStandby l =
    { s.setLine l { s.line l with
        role := .standby, rx := .reset, reader := .reset, tx := .reset, observer := .empty, silence := .zero
        cycle := { (s.line l).cycle with timer := 0, expiryDue := false }
        divisor := (s.line l).params.divisorFor s.clock.effective } with
      events := s.events.post { kind := .lineRole, line := some l, drop := none, tag := none, code := 1, detail := 0
                                stamp := s.clock.timestamp } } := by
  cases l <;> rfl

theorem roleTold_line (r : Role) (c : RoleCause) : (s.roleTold l r c).line l = { s.line l with role := r } := by
  cases l <;> rfl

theorem beginYield_eq (s : State) (l : Line) : s.beginYield l =
    if (s.line l).ctl.state.inFlight then s.roleTold l .yielding .command else (s.roleTold l .yielding .command).endYield l := by
  have ctl : ((s.roleTold l .yielding .command).line l).ctl = (s.line l).ctl := congrArg (·.ctl) (roleTold_line ..)
  unfold State.beginYield
  simp only [postRole_roleTold, ctl]

/-- A line that stops has its role changed and its queued requests completed (R104). -/
def stopBegun (s : State) (l : Line) : State :=
  (s.roleTold l .stopping .command).completeAll l (fun _ => true) .lineStopped

theorem stopBegun_ctl (s : State) (l : Line) : ((stopBegun s l).line l).ctl = (s.line l).ctl := by
  unfold stopBegun
  rw [completeAll_completions]
  obtain ⟨u, n, line⟩ := completions_line (o := .lineStopped) (((s.roleTold l .stopping .command).line l).urgent ++
    ((s.roleTold l .stopping .command).line l).normal) (s.roleTold l .stopping .command) l
  rw [line, roleTold_line]

theorem beginStop_eq (s : State) (l : Line) : s.beginStop l =
    if (s.line l).ctl.state.inFlight then stopBegun s l else (stopBegun s l).endStop l := by
  have ctl := stopBegun_ctl s l
  unfold stopBegun at ctl ⊢
  unfold State.beginStop
  simp only [postRole_roleTold, ctl]

theorem agree_roleTold (agree : s.QueuesAgree) (r : Role) (c : RoleCause) : (s.roleTold l r c).QueuesAgree :=
  agree.of_same (by cases l <;> rfl) fun k => by cases l <;> cases k <;> exact ⟨rfl, rfl, rfl⟩

theorem stopBegun_line (agree : s.QueuesAgree) :
    (stopBegun s l).line l = { s.line l with role := .stopping, urgent := [], normal := [] } := by
  unfold stopBegun
  rw [completeAll_line (agree_roleTold agree ..), roleTold_line]

/-- The queued requests of a line are complete once all of them are completed. -/
theorem completeAll_slot (agree : s.QueuesAgree) {g : Tag} (queued : (s.slot g).state = .queued) (here : (s.slot g).line = l)
    (o : TxnOutcome) : (s.completeAll l (fun _ => true) o).slot g = closed o (s.slot g) := by
  rw [completeAll_completions, completions_slot, if_pos ((mem_queues agree).mpr ⟨queued, here⟩)]

theorem agree_coded (agree : s.QueuesAgree) (code : Byte) : (coded code s).QueuesAgree :=
  agree.of_same rfl fun k => by rw [coded_line]; exact ⟨rfl, rfl, rfl⟩

/-- What a command's answer shows of a line and a slot. -/
theorem done_line (t : State) (r : Byte) (k : Line) : (t.done r).driveIrq.line k = t.line k := by cases k <;> rfl

/-- A taken role command whose effect on this line is `t`. -/
theorem role_effect (idle : s.idle) (command : roleEffect c = some (code, asked, f)) (named : s.bus.arg0 = l.code)
    (taken : (s.line l).refuseRole asked = none) {t : State} (effect : f (coded code s) l = t) {r : Role}
    (ends : (t.line l).role = r) : exec c s = .next (t.done r.code).driveIrq := by
  subst effect
  exact role_taken idle command named taken ends

theorem exec_lineStandby_off (idle : s.idle) (named : s.bus.arg0 = l.code) (off : (s.line l).role = .off) :
    exec .lineStandby s = .next (doneAs (s.becomeStandby l) 0x21 1) := by
  have taken : (s.line l).refuseRole .standby = none := by simp [LineEngine.refuseRole, off]
  have effect : (coded 0x21 s).becomeStandby l = withCommand { s.command with code := 0x21 } (s.becomeStandby l) := by
    cases l <;> rfl
  have role : ((withCommand { s.command with code := 0x21 } (s.becomeStandby l)).line l).role = .standby := by cases l <;> rfl
  have ends := role_effect idle (c := .lineStandby) rfl named taken
    ((if_pos (by rw [coded_line]; exact off)).trans effect) role
  rw [ends]
  rfl

theorem exec_lineStandby_master (idle : s.idle) (named : s.bus.arg0 = l.code) (master : (s.line l).role = .master) {t : State}
    (effect : (coded 0x21 s).beginYield l = t) {r : Role} (ends : (t.line l).role = r) :
    exec .lineStandby s = .next (t.done r.code).driveIrq := by
  have taken : (s.line l).refuseRole .standby = none := by simp [LineEngine.refuseRole, master]
  exact role_effect idle (c := .lineStandby) rfl named taken
    ((if_neg (by rw [coded_line, master]; decide)).trans effect) ends

theorem exec_lineStop_master (idle : s.idle) (named : s.bus.arg0 = l.code) (master : (s.line l).role = .master) {t : State}
    (effect : (coded 0x22 s).beginStop l = t) {r : Role} (ends : (t.line l).role = r) :
    exec .lineStop s = .next (t.done r.code).driveIrq := by
  have taken : (s.line l).refuseRole .off = none := by simp [LineEngine.refuseRole, master]
  exact role_effect idle (c := .lineStop) rfl named taken
    ((if_neg (by rw [coded_line, master]; decide)).trans effect) ends

theorem exec_lineStop_standby (idle : s.idle) (named : s.bus.arg0 = l.code) (standby : (s.line l).role = .standby) :
    exec .lineStop s = .next (((coded 0x22 s).stopStandby l).done 0).driveIrq := by
  have taken : (s.line l).refuseRole .off = none := by simp [LineEngine.refuseRole, standby]
  have role : (((coded 0x22 s).stopStandby l).line l).role = .off := by
    unfold State.stopStandby
    simp only [postRole_line, modLine_eq, line_setLine_self]
  exact role_effect idle (c := .lineStop) rfl named taken (if_pos (by rw [coded_line]; exact standby)) role

/-- The completions of a STANDBY line that stops (R129). -/
def standbyStopped (s : State) (l : Line) : State :=
  (s.freeAssembling l).completeAll l (fun _ => true) .lineStopped

theorem stopStandby_eq (s : State) (l : Line) : s.stopStandby l =
    { (standbyStopped s l).setLine l { ((standbyStopped s l).line l).stopped with role := .off } with
      events := (standbyStopped s l).events.post
        { kind := .lineRole, line := some l, drop := none, tag := none, code := 0, detail := 0
          stamp := (standbyStopped s l).clock.timestamp } } := by
  unfold State.stopStandby standbyStopped
  cases l <;> rfl

theorem agree_freeAssembling (agree : s.QueuesAgree) : (s.freeAssembling l).QueuesAgree :=
  (SameQueues.freeAssembling s l).agree agree

/-- What the records of the completions of a line's queued requests are (R98, R99, R158). -/
theorem completeAll_queue (agree : s.QueuesAgree) (l : Line) (o : TxnOutcome) :
    ∃ done, (s.completeAll l (fun _ => true) o).events.queue = s.events.queue ++ done ∧
      (s.completeAll l (fun _ => true) o).events.mask = s.events.mask ∧
      (∀ r ∈ done, r.kind = .requestDone ∧ r.line = some l ∧ r.code = o.code ∧ r.stamp = s.clock.timestamp) ∧
      ∀ g, (s.slot g).state = .queued → (s.slot g).line = l → s.events.mask.getLsbD 1 = true →
        32 ≤ (s.completeAll l (fun _ => true) o).events.queue.length ∨ ∃ r ∈ done, r.tag = some g := by
  rw [completeAll_completions, completions_events]
  obtain ⟨done, queue, mem, mask, taken⟩ := foldl_post_queue (u := s.events)
    (((s.line l).urgent ++ (s.line l).normal).map (doneRecord s o))
  refine ⟨done, queue, mask, fun r inDone => ?_, fun g queued here enabled => ?_⟩
  · obtain ⟨g, inQueue, rfl⟩ := List.mem_map.mp (mem r inDone)
    obtain ⟨-, here⟩ := (mem_queues agree).mp inQueue
    exact ⟨rfl, congrArg some here, rfl, rfl⟩
  · have listed : doneRecord s o g ∈ ((s.line l).urgent ++ (s.line l).normal).map (doneRecord s o) :=
      List.mem_map_of_mem ((mem_queues agree).mpr ⟨queued, here⟩)
    exact (taken _ listed enabled).imp_right fun inDone => ⟨_, inDone, rfl⟩

end

/-- Settles O38: with an attempt in flight the role changes and the transaction stays; without one the end of the role follows at
once. What is queued is complete, in the order of the queues, before the role of a STANDBY line that stops is told. -/
theorem lineStandbyAndStop : Obligations.LineStandbyAndStop := by
  unfold Obligations.LineStandbyAndStop
  intro s l idle named
  have coded21 : (coded 0x21 s).line l = s.line l := coded_line ..
  have coded22 : (coded 0x22 s).line l = s.line l := coded_line ..
  refine ⟨fun off => ?_, fun master busy => ?_, fun master quiet => ?_, fun master busy agree => ?_, fun master quiet => ?_,
    fun standby agree => ?_⟩
  · rw [exec_lineStandby_off idle named off, becomeStandby_eq]
  · have effect : (coded 0x21 s).beginYield l = withCommand { s.command with code := 0x21 } (s.roleTold l .yielding .command) := by
      rw [beginYield_eq, coded21, if_pos busy]
      cases l <;> rfl
    rw [exec_lineStandby_master idle named master effect (by rw [line_withCommand, roleTold_line])]
    rfl
  · have effect : (coded 0x21 s).beginYield l = ((coded 0x21 s).roleTold l .yielding .command).endYield l := by
      rw [beginYield_eq, coded21, if_neg (by simp [quiet])]
    have kept := ((Untouched.refl (coded 0x21 s)).beginYield l).command
    rw [effect] at kept
    generalize told : (coded 0x21 s).roleTold l .yielding .command = u at effect kept
    have still : (u.line l).ctl.state.inFlight = false := by rw [← told, roleTold_line, coded21]; exact quiet
    have line := roleTold_onStandby_line (l := l) (u.earlyEnd l) .command
    rw [← endYield_eq] at line
    refine ⟨_, exec_lineStandby_master idle named master effect (congrArg (·.role) line), done_command kept _, ?_⟩
    rw [done_line, line]
    exact ⟨rfl, earlyEnd_state _ _ still, left_inProgress _, rfl, rfl⟩
  · have effect : (coded 0x22 s).beginStop l = stopBegun (coded 0x22 s) l := by
      rw [beginStop_eq, coded22, if_pos busy]
    have kept := ((Untouched.refl (coded 0x22 s)).beginStop l).command
    rw [effect] at kept
    have agrees := agree_coded agree 0x22
    have line := stopBegun_line (l := l) agrees
    refine ⟨_, exec_lineStop_master idle named master effect (congrArg (·.role) line), done_command kept _, ?_,
      fun g queued here => ?_⟩
    · rw [done_line, line, coded22]
    · have slot : ((stopBegun (coded 0x22 s) l).slot g) = closed .lineStopped (s.slot g) := by
        have same : ((coded 0x22 s).roleTold l .stopping .command).slot g = s.slot g := by cases l <;> rfl
        unfold stopBegun
        rw [completeAll_slot (agree_roleTold agrees ..) (by rw [same]; exact queued) (by rw [same]; exact here), same]
      exact ⟨congrArg (·.state) slot, congrArg (·.outcome) slot⟩
  · have effect : (coded 0x22 s).beginStop l = (stopBegun (coded 0x22 s) l).endStop l := by
      rw [beginStop_eq, coded22, if_neg (by simp [quiet])]
    have kept := ((Untouched.refl (coded 0x22 s)).beginStop l).command
    rw [effect] at kept
    have still : ((stopBegun (coded 0x22 s) l).line l).ctl.state.inFlight = false := by rw [stopBegun_ctl, coded22]; exact quiet
    have line := roleTold_onOff_line (l := l) ((stopBegun (coded 0x22 s) l).earlyEnd l) .command
    rw [← RoleEnds.endStop_eq] at line
    refine ⟨_, exec_lineStop_master idle named master effect (congrArg (·.role) line), done_command kept _, ?_⟩
    rw [done_line, line]
    exact ⟨rfl, earlyEnd_state _ _ still, rfl, rfl⟩
  · have kept := ((Untouched.refl (coded 0x22 s)).stopStandby l).command
    have agrees := agree_freeAssembling (l := l) (agree_coded agree 0x22)
    have slot (g : Tag) : ((coded 0x22 s).freeAssembling l).slot g = s.slot g := by
      rw [freeAssembling_returned, returned_eq]
      rfl
    have engine : (standbyStopped (coded 0x22 s) l).line l = { s.line l with urgent := [], normal := [] } := by
      unfold standbyStopped
      rw [completeAll_line agrees, freeAssembling_line, coded22]
    obtain ⟨done, queue, mask, records, posted⟩ := completeAll_queue agrees l .lineStopped
    have before : ((coded 0x22 s).freeAssembling l).events = s.events ∧ ((coded 0x22 s).freeAssembling l).clock = s.clock := by
      rw [freeAssembling_returned, returned_eq]
      exact ⟨rfl, rfl⟩
    have clock : (standbyStopped (coded 0x22 s) l).clock = s.clock :=
      ((Untouched.refl _).completeAll l _ _).clock.trans before.2
    rw [before.2] at records
    rw [before.1] at queue mask
    simp only [slot, before.1] at posted
    have stopped := stopStandby_eq (coded 0x22 s) l
    rw [engine, clock] at stopped
    refine ⟨_, exec_lineStop_standby idle named standby, done_command kept _, ?_, fun g queued here => ?_, ?_⟩
    · rw [done_line, stopped]
      cases l <;> rfl
    · have shown : ((((coded 0x22 s).stopStandby l).done 0).driveIrq).slot g = closed .lineStopped (s.slot g) := by
        have out : ((((coded 0x22 s).stopStandby l).done 0).driveIrq).slot g = (standbyStopped (coded 0x22 s) l).slot g := by
          rw [stopped]
          cases l <;> rfl
        unfold standbyStopped at out
        rw [out, completeAll_slot agrees (by rw [slot]; exact queued) (by rw [slot]; exact here), slot]
      exact ⟨congrArg (·.state) shown, congrArg (·.outcome) shown⟩
    · refine ⟨(standbyStopped (coded 0x22 s) l).events, ?_, mask, done, queue, records, posted⟩
      rw [stopped]
      rfl

end Sys2Proof.Proofs.RoleCommands

/-! LINE_RESET (R139, R106): what is left of the line, its requests and its buffers. -/

namespace Sys2Proof.Proofs.LineReset

open Sys2Proof Sys2Proof.Machine Sys2Proof.Laws Sys2Proof.Proofs.DropTable Sys2Proof.Proofs.SwapAndTrigger Sys2Proof.Proofs.Rows
open Sys2Proof.Proofs.Work Sys2Proof.Proofs.Queues Sys2Proof.Proofs.LineRows Sys2Proof.Proofs.RoleEnds Sys2Proof.Proofs.Completions
open Sys2Proof.Proofs.RoleCommands

section

variable {s : State} {l : Line} {o : TxnOutcome} {gs : List Tag}

/-- The tags of a list of completions leave their queues, those that stay keep their order (R96). -/
theorem completions_queue (gs : List Tag) (s : State) (l : Line) (q : Priority) : ((completions o gs s).line l).queueOf q =
    ((s.line l).queueOf q).filter fun t => ! decide (t ∈ gs ∧ (s.slot t).line = l ∧ (s.slot t).priority = q) := by
  induction gs generalizing s with
  | nil => simp [completions]
  | cons g gs ih =>
    have kept (t : Tag) : ((s.completeQueued g o).slot t).line = (s.slot t).line ∧
        ((s.completeQueued g o).slot t).priority = (s.slot t).priority := by
      rw [completeQueued_slot_closed]
      split
      · next same => rw [same]; exact ⟨rfl, rfl⟩
      · exact ⟨rfl, rfl⟩
    have queue : ((s.completeQueued g o).line l).queueOf q =
        if l = (s.slot g).line ∧ q = (s.slot g).priority then ((s.line l).queueOf q).filter (· ≠ g)
        else (s.line l).queueOf q := by
      have line : (s.completeQueued g o).line l = (s.unqueue g).line l := by
        rw [completeQueued_eq]
        cases l <;> rfl
      rw [line, State.unqueue, queueOf_modLine]
      split
      · next own => rw [← own.1, ← own.2]
      · rfl
    rw [completions_cons, ih, queue]
    simp only [kept]
    split
    · next own =>
      rw [List.filter_filter]
      refine List.filter_congr fun t _ => ?_
      by_cases same : t = g
      · simp [same, own.1, own.2]
      · simp [same]
    · next apart =>
      refine List.filter_congr fun t _ => ?_
      by_cases same : t = g
      · subst same
        have out : ¬ ((s.slot t).line = l ∧ (s.slot t).priority = q) := fun own => apart ⟨own.1.symm, own.2.symm⟩
        simp [out]
      · simp [same]

theorem completions_untouched (gs : List Tag) (s : State) : Untouched s (completions o gs s) :=
  Untouched.foldl (fun u g => (Untouched.refl u).completeQueued g o) gs (.refl s)

theorem completions_ready (gs : List Tag) (s : State) : (completions o gs s).ready = s.ready := by
  induction gs generalizing s with
  | nil => rfl
  | cons g gs ih =>
    rw [completions_cons, ih, completeQueued_eq]
    unfold State.unqueue
    cases (s.slot g).line <;> rfl

theorem completions_drops (gs : List Tag) (s : State) : (completions o gs s).drops = s.drops := by
  induction gs generalizing s with
  | nil => rfl
  | cons g gs ih =>
    rw [completions_cons, ih, completeQueued_eq]
    unfold State.unqueue
    cases (s.slot g).line <;> rfl

theorem modQueue_of_same {e : LineEngine} {p : Priority} {f : List Tag → List Tag} (same : f (e.queueOf p) = e.queueOf p) :
    e.modQueue p f = e := by
  cases p with
  | normal => exact congrArg (fun n => { e with normal := n }) same
  | urgent => exact congrArg (fun n => { e with urgent := n }) same

/-- A request in hand is in no queue, so that completing it is the same as completing a queued one. -/
theorem complete_of_active (agree : s.QueuesAgree) {g : Tag} (active : (s.slot g).state = .active) :
    s.complete g .lineReset 0 false = s.completeQueued g .lineReset := by
  have out := not_queued agree (g := g) (by rw [active]; decide) (s.slot g).line (s.slot g).priority
  have all : ((s.line (s.slot g).line).queueOf (s.slot g).priority).filter (· ≠ g) =
      (s.line (s.slot g).line).queueOf (s.slot g).priority :=
    List.filter_eq_self.mpr fun i inQueue => decide_eq_true fun same : i = g => out (same ▸ inQueue)
  have same : s.unqueue g = s := by
    unfold State.unqueue
    rw [modLine_eq, modQueue_of_same all, setLine_self]
  unfold State.completeQueued
  rw [same]

theorem resetRequests_eq (agree : s.QueuesAgree) : s.resetRequests l = completions .lineReset (s.resetTags l) s := by
  unfold State.resetRequests State.resetActive State.resetTags
  cases inHand : s.txnTag l with
  | none =>
    simp only [Option.toList_none, List.nil_append]
    exact completeAll_completions ..
  | some g =>
    rw [Option.toList_some, List.singleton_append, List.cons_append, completions_cons,
      ← complete_of_active agree (agree.2 l g inHand).1, completeAll_completions, complete_line]

theorem mem_resetTags (agree : s.QueuesAgree) {g : Tag} :
    g ∈ s.resetTags l ↔ ((s.slot g).state = .queued ∧ (s.slot g).line = l) ∨ s.txnTag l = some g := by
  unfold State.resetTags
  rw [List.append_assoc, List.mem_append, mem_queues agree, Option.mem_toList, or_comm]

theorem nodup_resetTags (agree : s.QueuesAgree) (l : Line) : (s.resetTags l).Nodup := by
  unfold State.resetTags
  rw [List.append_assoc]
  refine List.nodup_append'.mpr ⟨by cases s.txnTag l <;> simp, nodup_queues agree l, fun g inHand inQueue => ?_⟩
  have active := (agree.2 l g (Option.mem_toList.mp inHand)).1
  have queued := ((mem_queues agree).mp inQueue).1
  rw [active] at queued
  cases queued

theorem resetTags_line (agree : s.QueuesAgree) {g : Tag} (listed : g ∈ s.resetTags l) : (s.slot g).line = l :=
  ((mem_resetTags agree).mp listed).elim (·.2) fun inHand => (agree.2 l g inHand).2

theorem completions_assembling (gs : List Tag) (s : State) (k : Line) :
    (completions o gs s).assembling k = s.assembling k := by
  induction gs generalizing s with
  | nil => rfl
  | cons g gs ih =>
    have place (b : BufIx) : ((s.completeQueued g o).buffer b).place = .assembling k ↔ (s.buffer b).place = .assembling k := by
      rw [completeQueued_buffer]
      split
      · next held => simp [State.heldBy_place held]
      · rfl
    rw [completions_cons, ih]
    unfold State.assembling
    simp only [place]

/-- A line reset: the completions in the order of R106, then what the line had in hand, then its role (R139). -/
theorem resetLine_closed (agree : s.QueuesAgree) (l : Line) : s.resetLine l =
    let r := completions .lineReset (s.resetTags l) s
    { r.setLine l (r.line l).cleared with
      drops := (s.modDrops (·.lineReset l)).drops
      buffers := pooled r.buffers (s.assembling l)
      events := s.eventsReset l } := by
  have events : s.eventsReset l = if (s.line l).role = .off then (completions .lineReset (s.resetTags l) s).events
      else (completions .lineReset (s.resetTags l) s).events.post
        { kind := .lineRole, line := some l, drop := none, tag := none, code := 0, detail := 3, stamp := s.clock.timestamp } := by
    unfold State.eventsReset
    rw [completions_events, List.foldl_map]
    rfl
  have drops := completions_drops (o := .lineReset) (s.resetTags l) s
  have clock : (completions .lineReset (s.resetTags l) s).clock = s.clock := (completions_untouched ..).clock
  have assembling := completions_assembling (o := .lineReset) (s.resetTags l) s l
  unfold State.resetLine
  simp only [resetRequests_eq agree, events]
  generalize completions .lineReset (s.resetTags l) s = r at drops clock assembling
  simp only [freeAssembling_returned, returned_eq, assembling]
  unfold State.modDrops
  rw [← drops, ← clock]
  by_cases off : (s.line l).role = .off
  · simp only [off, if_true]
    cases l <;> rfl
  · simp only [off, if_false]
    cases l <;> rfl

theorem completions_resetTags_line (agree : s.QueuesAgree) (l : Line) :
    (completions .lineReset (s.resetTags l) s).line l = { s.line l with urgent := [], normal := [] } := by
  obtain ⟨u, n, line⟩ := completions_line (o := .lineReset) (s.resetTags l) s l
  have empty (p : Priority) : ((completions .lineReset (s.resetTags l) s).line l).queueOf p = [] := by
    rw [completions_queue, List.filter_eq_nil_iff]
    intro g inQueue
    obtain ⟨queued, here, priority⟩ := ((agree.1 l p).2 g).mp inQueue
    simp [here, priority, (mem_resetTags agree).mpr (.inl ⟨queued, here⟩)]
  have urgent : u = [] := by simpa [line, LineEngine.queueOf] using empty .urgent
  have normal : n = [] := by simpa [line, LineEngine.queueOf] using empty .normal
  rw [line, urgent, normal]

/-! ### The command (R139, R176) -/

/-- What a line reset that took effect shows, whatever the command unit held before (R139). -/
def ResetShown (s : State) (l : Line) (t : State) : Prop :=
  t.command.busy = none ∧ t.command.last = .done ∧ t.command.result = 0 ∧ t.command.refusal = .none ∧
  t.line l = { s.line l with
    role := .off, rx := .reset, reader := .reset, tx := .reset, ctl := .reset, contention := 0, cycle := .reset
    sched := { (s.line l).sched with swapPending := false }, observer := .empty, silence := .zero
    urgent := [], normal := [] } ∧
  t.line (otherLine l) = s.line (otherLine l) ∧
  (∀ d, t.drop d = if (s.drop d).line = l then { s.drop d with attention := false } else s.drop d) ∧
  (∀ g, t.slot g = if ((s.slot g).state = .queued ∧ (s.slot g).line = l) ∨ s.txnTag l = some g then
      { s.slot g with state := .done, outcome := .lineReset, abortPending := false, replyLength := 0, replyStored := false }
    else s.slot g) ∧
  (∀ b, t.buffer b = if s.assembling l = some b ∨ ∃ g ∈ s.resetTags l, s.heldBy g = some b then
      { s.buffer b with place := .free } else s.buffer b) ∧
  t.events = s.eventsReset l ∧
  t.ready = s.ready ∧ t.opened = s.opened ∧ t.staging = s.staging ∧ t.sequence = s.sequence ∧ t.clock = s.clock ∧
  t.bus = s.bus

theorem finishLineReset_shown (agree : s.QueuesAgree) (l : Line) : ResetShown s l (s.finishLineReset l).driveIrq := by
  have untouched := completions_untouched (o := .lineReset) (s.resetTags l) s
  have line := completions_resetTags_line agree l
  have other : otherLine l ≠ l := by cases l <;> decide
  have beside := completions_otherLine (o := .lineReset) (gs := s.resetTags l) (fun _ => resetTags_line agree) other
  have slot := completions_slot (o := .lineReset) (s.resetTags l) s
  have buffer := completions_buffer (o := .lineReset) (s := s) (nodup_resetTags agree l)
  have ready := completions_ready (o := .lineReset) (s.resetTags l) s
  unfold State.finishLineReset
  rw [resetLine_closed agree]
  dsimp only
  generalize completions .lineReset (s.resetTags l) s = r at untouched line beside slot buffer ready
  refine ⟨rfl, rfl, rfl, rfl, ?_, ?_, fun d => ?_, fun g => ?_, fun b => ?_, rfl, ?_, ?_, ?_, ?_, ?_, ?_⟩
  · refine Eq.trans (b := (r.line l).cleared) (by cases l <;> rfl) ?_
    rw [line]
    rfl
  · exact Eq.trans (b := r.line (otherLine l)) (by cases l <;> rfl) beside
  · refine Eq.trans (b := (s.modDrops (·.lineReset l)).drop d) (by cases l <;> rfl) ?_
    rw [State.modDrops_drop]
    rfl
  · refine Eq.trans (b := r.slot g) (by cases l <;> rfl) ((slot g).trans ?_)
    exact if_congr (mem_resetTags agree) rfl rfl
  · refine Eq.trans (b := (pooled r.buffers (s.assembling l))[b.val]) (by cases l <;> rfl) ((pooled_get ..).trans ?_)
    have freed : r.buffers[b.val] = _ := buffer b
    rw [freed]
    by_cases assembling : s.assembling l = some b <;> by_cases held : ∃ g ∈ s.resetTags l, s.heldBy g = some b <;>
      simp only [assembling, held, if_true, if_false, or_true, or_false]
  · exact Eq.trans (b := r.ready) (by cases l <;> rfl) ready
  · exact Eq.trans (b := r.opened) (by cases l <;> rfl) untouched.opened
  · exact Eq.trans (b := r.staging) (by cases l <;> rfl) untouched.staging
  · exact Eq.trans (b := r.sequence) (by cases l <;> rfl) untouched.sequence
  · exact Eq.trans (b := r.clock) (by cases l <;> rfl) untouched.clock
  · exact Eq.trans (b := r.bus) (by cases l <;> rfl) untouched.bus

theorem shown_withCommand {t : State} (c : CommandUnit) (shown : ResetShown (withCommand c s) l t) : ResetShown s l t := by
  unfold ResetShown at shown ⊢
  cases l <;> exact shown

theorem exec_lineReset (idle : s.idle) (named : s.bus.arg0 = l.code) : exec .lineReset s = finish
    (if (s.line l).tx.sending.isSome then
      ((coded 0x23 s).modTx l Transmitter.haltForReset).modCommand fun c => { c with busy := some (.lineReset l) }
    else (coded 0x23 s).finishLineReset l) := by
  refine congrArg finish ((startCommand_of_idle idle ..).trans ((withLine_of_code (s := coded 0x23 s) named _).trans ?_))
  rw [coded_line]

end

/-- Settles O39: a reset that waits moves what stops the frame and the command unit alone; one that takes effect, from its write or
from the end of the wait, completes the requests in the order of R106 and clears the line. -/
theorem lineResetAbandonsWork : Obligations.LineResetAbandonsWork := by
  unfold Obligations.LineResetAbandonsWork
  refine fun s l => ⟨fun idle bad => ?_, fun idle named sending => ?_, fun c row agree => ?_⟩
  · have refused : (coded 0x23 s).runLineReset = (coded 0x23 s).refuse .badLine := withLine_of_bad bad _
    have answer : exec .lineReset s = finish (coded 0x23 s).runLineReset := congrArg finish (startCommand_of_idle idle ..)
    rw [answer, refused, finish_refuse_coded idle]
  · have waits : (s.line l).tx.sending.isSome = true := Option.isSome_iff_ne_none.mpr sending
    rw [exec_lineReset idle named, if_pos waits]
    have inProgress : (s.line l).tx.inProgress = true := by simp [Transmitter.inProgress, waits]
    have halted := (s.line l).tx.haltForReset_eq
    rw [if_pos inProgress] at halted
    have tx : (s.line l).tx.haltForReset = { (s.line l).tx with stop := (s.line l).tx.haltForReset.stop } := by rw [halted]
    let t := (((coded 0x23 s).modTx l Transmitter.haltForReset).modCommand fun c =>
      { c with busy := some (.lineReset l) }).driveIrq
    have stop : (t.line l).tx.stop = (s.line l).tx.haltForReset.stop := by cases l <;> rfl
    have shown : t = { s.setLine l { s.line l with tx := (s.line l).tx.haltForReset } with
        command := { s.command with code := 0x23, busy := some (.lineReset l) }, irqPin := t.irqPin } := by cases l <;> rfl
    refine ⟨t, rfl, ?_, ?_⟩
    · rw [stop, ← tx]
      exact shown
    · rw [stop, halted]
      cases (s.line l).tx.stop <;> simp
  · rcases row with ⟨rfl, idle, named, still⟩ | ⟨rfl, waiting⟩
    · rw [exec_lineReset idle named, if_neg (by simp [still])]
      refine ⟨_, rfl, shown_withCommand { s.command with code := 0x23 } (finishLineReset_shown (agree_coded agree _) l)⟩
    · refine ⟨_, ?_, finishLineReset_shown agree l⟩
      have answer : exec .lineResetTakesEffect s = finish (s.finishLineReset l) := congrArg finish (by rw [waiting])
      exact answer

end Sys2Proof.Proofs.LineReset

/-! SUBMIT fills a slot (R92 to R96). -/

namespace Sys2Proof.Proofs.SubmitFills

open Sys2Proof Sys2Proof.Machine Sys2Proof.Laws Sys2Proof.Proofs.DropTable Sys2Proof.Proofs.SwapAndTrigger Sys2Proof.Proofs.Rows
open Sys2Proof.Proofs.Work Sys2Proof.Proofs.Invariants Sys2Proof.Proofs.LineRows Sys2Proof.Proofs.Submit

/-! ### The first of a table that fits -/

section

variable {n : Nat} {p : Fin n → Bool} {i : Fin n}

theorem find_finRange_eq_some : (List.finRange n).find? p = some i ↔ p i = true ∧ ∀ j < i, p j = false := by
  rw [List.find?_eq_some_iff_getElem]
  constructor
  · rintro ⟨here, k, inside, at_k, before⟩
    rw [List.getElem_finRange] at at_k
    refine ⟨here, fun j less => ?_⟩
    have index : k = i.val := congrArg Fin.val at_k
    simpa using before j.val (index ▸ less)
  · rintro ⟨here, before⟩
    refine ⟨here, i.val, by simp, by simp, fun j less => ?_⟩
    simpa using before ⟨j, by omega⟩ less

end

/-! ### The slot and the buffer -/

section

variable {s : State} {tag : Tag}

theorem freeSlot_eq_some : s.freeSlot = some tag ↔ (s.slot tag).state = .free ∧ ∀ g < tag, (s.slot g).state ≠ .free := by
  unfold State.freeSlot allTags
  simp [find_finRange_eq_some]

theorem freeBuffer_eq_some {b : BufIx} : s.freeBuffer = some b ↔ s.lowestFree b := by
  unfold State.freeBuffer allBuffers
  simp [find_finRange_eq_some]

theorem exists_lowestFree (room : 0 < s.freeCount) : ∃ b, s.lowestFree b := by
  obtain ⟨b, -, free⟩ := List.countP_pos_iff.mp room
  have some : s.freeBuffer ≠ none := fun none => by
    have all := List.find?_eq_none.mp none b (List.mem_finRange b)
    exact all free
  obtain ⟨b, found⟩ := Option.ne_none_iff_exists'.mp some
  exact ⟨b, freeBuffer_eq_some.mp found⟩

/-- The buffer that a request's payload goes into (R92, R93). -/
theorem claimPayload_of_lowestFree {b : BufIx} (lowest : s.lowestFree b) (n : Nat) : ∃ y : Buffer,
    s.claimPayload tag n = s.setBuffer b y ∧ y.place = .held tag ∧ y.length = n ∧
    ∀ k, k < n → n ≤ 32 → y.payload.toList.getD k 0 = s.staging.payload.toList.getD k 0 := by
  unfold State.claimPayload
  rw [freeBuffer_eq_some.mpr lowest]
  refine ⟨_, rfl, rfl, rfl, fun k less fits => ?_⟩
  have inside : k < 32 := by omega
  simp [inside, less]

theorem placeRequest_slot (s : State) (r : Request) (g : Tag) :
    (s.placeRequest r).slot g = if g = r.tag then r.slot (s.sequence + 1) else s.slot g := by
  rw [placeRequest_eq, State.modLine_slot]
  exact State.setSlot_slot ..

theorem placeRequest_slots (s : State) (r : Request) :
    (s.placeRequest r).slots = (s.setSlot r.tag (r.slot (s.sequence + 1))).slots := by
  rw [placeRequest_eq, State.modLine_slots]

theorem placeRequest_closed (s : State) (r : Request) : s.placeRequest r =
    { s.setLine r.line ((s.line r.line).modQueue r.priority (· ++ [r.tag])) with
      sequence := s.sequence + 1, slots := (s.placeRequest r).slots, buffers := (s.placeRequest r).buffers } := by
  rw [placeRequest_slots]
  obtain ⟨drop, line, kind, priority, length, tag⟩ := r
  cases line <;> exact placeRequest_eq s _

theorem placeRequest_buffers (s : State) (r : Request) : (s.placeRequest r).buffers =
    if needsBuffer r.kind r.length then (s.claimPayload r.tag r.length).buffers else s.buffers := by
  unfold State.placeRequest
  dsimp only
  rw [State.modLine_buffers]
  split
  · unfold State.claimPayload
    have same (x : Slot) : (({ s with sequence := s.sequence + 1 }).setSlot r.tag x).freeBuffer = s.freeBuffer := rfl
    rw [same]
    cases s.freeBuffer <;> rfl
  · rfl

end

/-- Settles O33: the request that the checks answer is placed; off MASTER or with work in hand the selection after it does
nothing. -/
theorem submitFillsSlot : Obligations.SubmitFillsSlot := by
  unfold Obligations.SubmitFillsSlot
  intro s d tag kind priority idle kindIs priorityIs dropIs pollEmpty fits enabled role free first room
  have takes : Admitted s kind priority d :=
    { kind_named := by rw [kindIs, reqKindOf_code]
      priority_named := by rw [priorityIs, priorityOf_code]
      length_fits := by
        rw [lengthFits_iff]
        refine ⟨fun poll => pollEmpty ?_, fun _ => fits⟩
        cases kind with
        | poll => rfl
        | data => cases poll
      drop_named := dropOf_eq_some dropIs
      enabled, role := role.symm }
  have needs : needsBuffer kind s.staging.length.toNat = true ↔ s.staging.length ≠ 0 := by
    rw [needsBuffer_iff]
    refine and_iff_right_of_imp fun full => ?_
    cases kind with
    | poll => exact absurd (pollEmpty rfl) full
    | data => rfl
  have judged := takes.accepted (freeSlot_eq_some.mpr ⟨free, first⟩) fun buffer => room (needs.mp buffer)
  generalize request : ({ drop := d, line := (s.drop d).line, kind, priority, length := s.staging.length.toNat, tag } : Request) = r
    at judged
  have answer := submit_accepted idle judged
  have buffers := placeRequest_buffers s r
  have slot := placeRequest_slot s r
  have closed := placeRequest_closed s r
  have line := placeRequest_line s r (s.drop d).line
  subst request
  refine ⟨_, closed, (slot tag).trans (if_pos rfl), fun g other => (slot g).trans (if_neg other), fun empty => ?_,
    fun full => ?_, fun stays => ?_, fun master still => answer⟩
  · rw [buffers, if_neg fun needed => needs.mp needed empty]
  · obtain ⟨b, lowest⟩ := exists_lowestFree (s := s) (Nat.lt_of_lt_of_le (by decide) (room full))
    obtain ⟨y, claimed, place, length, payload⟩ := claimPayload_of_lowestFree (tag := tag) lowest s.staging.length.toNat
    rw [if_pos (needs.mpr full), claimed] at buffers
    have buffer (e : BufIx) : (s.placeRequest _).buffer e = (s.setBuffer b y).buffer e := congrArg (·[e.val]) buffers
    refine ⟨b, lowest.1, ?_, ?_, fun k less => ?_, fun e other => ?_⟩
    · rw [buffer, State.setBuffer_buffer, if_pos rfl, place]
    · rw [buffer, State.setBuffer_buffer, if_pos rfl, length]
    · rw [buffer, State.setBuffer_buffer, if_pos rfl, payload k less fits]
    · rw [buffer, State.setBuffer_buffer, if_neg other]
  · obtain ⟨u, n, line⟩ := line
    rw [answer, select_off_boundary]
    · rfl
    · rw [line]
      exact stays.imp_left fun standby master => by simp [standby] at master

end Sys2Proof.Proofs.SubmitFills

/-! The work selection (R72, R73, R80 to R88): what it takes first, and what it leaves alone. -/

namespace Sys2Proof.Proofs.Selection

open Sys2Proof Sys2Proof.Machine Sys2Proof.Laws Sys2Proof.Proofs.SwapAndTrigger Sys2Proof.Proofs.Rows Sys2Proof.Proofs.Work
open Sys2Proof.Proofs.Queues
open Sys2Proof.Proofs.LineRows Sys2Proof.Proofs.RoleEnds Sys2Proof.Proofs.SubmitFills

/-! ### The walk of the bank (R80, R81) -/

section

variable {s : State} {l : Line} {n : Nat} {x : Entry} {d : DropIx}

/-- The walk has gone on by one entry. -/
def stepped (s : State) (l : Line) : State :=
  s.setLine l { s.line l with cycle := { (s.line l).cycle with walk := (s.line l).cycle.walk + 1 } }

theorem stepped_line : (stepped s l).line l =
    { s.line l with cycle := { (s.line l).cycle with walk := (s.line l).cycle.walk + 1 } } := line_setLine_self ..

/-- The entry at the walk position is this one. -/
def AtEntry (s : State) (l : Line) (x : Entry) : Prop :=
  (s.line l).cycle.walk < (s.line l).sched.activeBank.length ∧
    (s.line l).sched.activeBank.entries.toList.getD (s.line l).cycle.walk .sync = x

theorem walkBank_done (past : (s.line l).sched.activeBank.length ≤ (s.line l).cycle.walk) : walkBank n l s = s.endCycle l := by
  cases n with
  | zero => rfl
  | succ n => exact if_pos past

theorem walkBank_sync (comes : AtEntry s l .sync) : walkBank (n + 1) l s = (stepped s l).startSync l := by
  obtain ⟨inside, entry⟩ := comes
  unfold walkBank
  simp only [Nat.not_le.mpr inside, if_false, entry]
  rfl

theorem walkBank_pause {k : Nat} (comes : AtEntry s l (.pause k)) :
    walkBank (n + 1) l s = (stepped s l).startPause l k := by
  obtain ⟨inside, entry⟩ := comes
  unfold walkBank
  simp only [Nat.not_le.mpr inside, if_false, entry]
  rfl

theorem walkBank_poll (comes : AtEntry s l (.poll d)) : walkBank (n + 1) l s =
    if (s.drop d).state = .disabled ∨ (s.drop d).line ≠ l then walkBank n l ((stepped s l).countSkippedInvalid l)
    else if (s.drop d).state = .offline ∧ (s.line l).cycle.number.toNat % (s.drop d).revisit ≠ 0 then
      walkBank n l ((stepped s l).countSkippedOffline l)
    else (stepped s l).startPoll l .schedule d := by
  obtain ⟨inside, entry⟩ := comes
  have drop : (s.modCycle l fun c => { c with walk := c.walk + 1 }).drop d = s.drop d := by cases l <;> rfl
  conv_lhs => unfold walkBank
  simp only [Nat.not_le.mpr inside, if_false, entry, drop, Drop.enabled, decide_not, Bool.not_not, Bool.or_eq_true,
    Bool.and_eq_true, decide_eq_true_eq, ne_eq, Bool.not_eq_true', decide_eq_false_iff_not]
  rfl

theorem walk_lt_of_poll (comes : AtEntry s l (.poll d)) : (s.line l).cycle.walk < 24 := by
  refine Nat.not_le.mp fun past => ?_
  obtain ⟨-, entry⟩ := comes
  have size : (s.line l).sched.activeBank.entries.toList.length = 24 := by simp
  rw [List.getD_eq_default _ _ (by rw [size]; exact past)] at entry
  cases entry

/-- What a passed entry leaves of the line's walk and bank. -/
theorem countSkippedInvalid_eq (s : State) (l : Line) : s.countSkippedInvalid l = s.setLine l { s.line l with
    cycle := { (s.line l).cycle with skipped := (s.line l).cycle.skipped + 1 }
    counters := { (s.line l).counters with skippedInvalid := satInc (s.line l).counters.skippedInvalid } } :=
  modLine_eq ..

theorem countSkippedOffline_eq (s : State) (l : Line) : s.countSkippedOffline l = s.setLine l { s.line l with
    cycle := { (s.line l).cycle with skipped := (s.line l).cycle.skipped + 1 }
    counters := { (s.line l).counters with skippedOffline := satInc (s.line l).counters.skippedOffline } } :=
  modLine_eq ..

/-- A bank names SYNC past its 24 entries, so that a walk with this much fuel never runs out of it. -/
theorem walkBank_fuel (fuel : 1 ≤ n) (enough : 25 ≤ n + (s.line l).cycle.walk) : walkBank (n + 1) l s = walkBank n l s := by
  induction n generalizing s with
  | zero => cases fuel
  | succ n ih =>
    by_cases past : (s.line l).sched.activeBank.length ≤ (s.line l).cycle.walk
    · rw [walkBank_done past, walkBank_done past]
    · have inside := Nat.not_le.mp past
      cases entry : (s.line l).sched.activeBank.entries.toList.getD (s.line l).cycle.walk .sync with
      | sync => rw [walkBank_sync ⟨inside, entry⟩, walkBank_sync ⟨inside, entry⟩]
      | pause k => rw [walkBank_pause ⟨inside, entry⟩, walkBank_pause ⟨inside, entry⟩]
      | poll d =>
        have early := walk_lt_of_poll ⟨inside, entry⟩
        have invalid := ih (s := (stepped s l).countSkippedInvalid l) (by omega) (by
          rw [countSkippedInvalid_eq, line_setLine_self, stepped_line]
          dsimp only
          omega)
        have offline := ih (s := (stepped s l).countSkippedOffline l) (by omega) (by
          rw [countSkippedOffline_eq, line_setLine_self, stepped_line]
          dsimp only
          omega)
        rw [walkBank_poll ⟨inside, entry⟩, walkBank_poll ⟨inside, entry⟩, invalid, offline]

end

/-! ### The order of the selection (R84, R85) -/

section

variable {s t : State} {l : Line} {n : Nat} {d : DropIx}

/-- What the selection does once the walk in progress has been taken (R85, steps 4 and 5). -/
def afterWalk (s : State) (l : Line) : State :=
  let t := if (s.line l).atBoundary then s.cycleStep l else s
  if (t.line l).atBoundary then t.normalStep l else t

theorem atBoundary_iff {e : LineEngine} : e.atBoundary = true ↔ e.role = .master ∧ e.ctl.state = .idle := by
  simp [LineEngine.atBoundary]

theorem extraPollDrop_eq_none : s.extraPollDrop l = none ↔ ∀ d, ¬ ((s.drop d).attention = true ∧ (s.drop d).line = l) := by
  simp [State.extraPollDrop, allDrops]

theorem extraPollDrop_eq_some : s.extraPollDrop l = some d ↔
    ((s.drop d).attention = true ∧ (s.drop d).line = l) ∧
      ∀ e < d, ¬ ((s.drop e).attention = true ∧ (s.drop e).line = l) := by
  unfold State.extraPollDrop allDrops
  simp [find_finRange_eq_some]

theorem select_urgent {g : Tag} {rest : List Tag} (boundary : (s.line l).atBoundary = true)
    (urgent : (s.line l).urgent = g :: rest) : s.select l = s.startRequest l g := by
  unfold State.select
  simp only [boundary, Bool.not_true, Bool.false_eq_true, if_false, urgent]

theorem select_extraPoll (boundary : (s.line l).atBoundary = true) (urgent : (s.line l).urgent = [])
    (first : s.extraPollDrop l = some d) :
    s.select l = (s.modDrop d fun x => { x with attention := false }).startPoll l .extraPoll d := by
  unfold State.select
  simp only [boundary, Bool.not_true, Bool.false_eq_true, if_false, urgent, first]

theorem select_schedule (at_ : s.atSchedule l) : s.select l = afterWalk (s.scheduleStep l) l := by
  obtain ⟨role, idle, urgent, none⟩ := at_
  unfold State.select afterWalk
  simp only [atBoundary_iff.mpr ⟨role, idle⟩, Bool.not_true, Bool.false_eq_true, if_false, urgent,
    extraPollDrop_eq_none.mpr none]

/-- The schedule decides on the line as long as only its cycle, its banks, its counters and the events move. -/
theorem atSchedule_of (at_ : s.atSchedule l) (role : (t.line l).role = (s.line l).role)
    (ctl : (t.line l).ctl.state = (s.line l).ctl.state) (urgent : (t.line l).urgent = (s.line l).urgent)
    (drops : t.drops = s.drops) : t.atSchedule l := by
  obtain ⟨master, idle, none, owed⟩ := at_
  refine ⟨role.trans master, ctl.trans idle, urgent.trans none, fun d => ?_⟩
  have same : t.drop d = s.drop d := congrArg (·[d.val]) drops
  rw [same]
  exact owed d

theorem boundary_of_atSchedule (at_ : s.atSchedule l) : (s.line l).atBoundary = true :=
  atBoundary_iff.mpr ⟨at_.1, at_.2.1⟩

theorem afterWalk_of_busy (busy : (s.line l).ctl.state ≠ .idle) : afterWalk s l = s := by
  have off : (s.line l).atBoundary = false := by simp [LineEngine.atBoundary, busy]
  unfold afterWalk
  simp only [off, Bool.false_eq_true, if_false]

theorem scheduleStep_of_none (none : (s.line l).cycle.inProgress = false) : s.scheduleStep l = s :=
  if_neg (by simp [none])

theorem scheduleStep_of_inProgress (walking : (s.line l).cycle.inProgress = true) : s.scheduleStep l = walkBank 25 l s :=
  if_pos walking

theorem continuousStart_iff {e : LineEngine} : e.continuousStart = true ↔
    e.params.mode = .continuous ∧ (e.params.gapQuota ≤ e.cycle.gapCount ∨ e.normal = []) ∧ e.cycle.mayRestart = true := by
  simp [LineEngine.continuousStart, and_assoc]

theorem enterGuard_line_self (s : State) (l : Line) (x : Txn) :
    startsWith (s.enterGuard l x) l x ∧ ((s.enterGuard l x).line l).cycle = (s.line l).cycle := by
  unfold State.enterGuard
  rw [modLine_eq, startsWith, line_setLine_self]
  exact ⟨⟨rfl, rfl⟩, rfl⟩

theorem startPoll_line (s : State) (l : Line) (x : TxnSource) (d : DropIx) :
    startsWith (s.startPoll l x d) l (freshTxn x (some d) (s.drop d).address .poll (s.drop d).retryLimit 0) ∧
      ((s.startPoll l x d).line l).cycle = (s.line l).cycle := enterGuard_line_self ..

theorem startSync_line (s : State) (l : Line) : startsWith (s.startSync l) l (freshTxn .sync none 127 .sync 0 0) ∧
    ((s.startSync l).line l).cycle = (s.line l).cycle := enterGuard_line_self ..

theorem startPause_line (s : State) (l : Line) (n : Nat) : ((s.startPause l n).line l).ctl.state = .pause ∧
    ((s.startPause l n).line l).ctl.pauseLength = n * 16 ∧
    ((s.startPause l n).line l).cycle = { (s.line l).cycle with performed := (s.line l).cycle.performed + 1 } := by
  cases l <;> exact ⟨rfl, rfl, rfl⟩

theorem endCycle_eq (s : State) (l : Line) : s.endCycle l =
    { s.setLine l { s.line l with cycle := { (s.line l).cycle with
        inProgress := false, mayRestart := 0 < (s.line l).cycle.performed } } with
      events := if (s.line l).params.cycleEvents then s.events.post
          { kind := .cycleDone, line := some l, drop := none, tag := none, code := BitVec.ofNat 8 (s.line l).cycle.performed
            detail := BitVec.ofNat 8 (s.line l).cycle.skipped, stamp := s.clock.timestamp } else s.events } := by
  unfold State.endCycle State.postCycleDone State.modCycle
  simp only [modLine_eq, line_setLine_self]
  by_cases told : (s.line l).params.cycleEvents = true
  · simp only [told, if_true]
    have detail : byteOf (s.line l).cycle.skipped ||| flagBit false 7 = BitVec.ofNat 8 (s.line l).cycle.skipped :=
      BitVec.or_zero
    unfold State.post
    rw [detail]
    cases l <;> rfl
  · simp only [told, Bool.false_eq_true, if_false]
    cases l <;> rfl

/-- The state in which a cycle has started (R72, R78). -/
def cycleStarted (s : State) (l : Line) : State :=
  let e := s.line l
  let swap := e.sched.swapPending
  { s.setLine l { e with
      sched := if swap then { e.sched with active := !e.sched.active, swapPending := false } else e.sched
      cycle := { e.cycle with owed := false, inProgress := true, number := e.cycle.number + 1, walk := 0, performed := 0
                              skipped := 0, gapCount := 0 } } with
    events := if swap then s.events.post { kind := .scheduleSwapped, line := some l, drop := none, tag := none
                                           code := if e.sched.active then 0 else 1, detail := 0
                                           stamp := s.clock.timestamp } else s.events }

theorem startCycle_eq (s : State) (l : Line) : s.startCycle l = cycleStarted s l := by
  unfold State.startCycle cycleStarted State.swapBanks State.modCycle State.modSched
  simp only [modLine_eq, line_setLine_self]
  by_cases swap : (s.line l).sched.swapPending = true
  · simp only [swap, if_true, activeNumber_swapped, setLine_setLine]
    cases l <;> rfl
  · simp only [swap, Bool.false_eq_true, if_false, line_setLine_self, setLine_setLine]
    cases l <;> rfl

theorem cycleStarted_line (s : State) (l : Line) : (cycleStarted s l).line l = { s.line l with
    sched := if (s.line l).sched.swapPending then { (s.line l).sched with active := !(s.line l).sched.active, swapPending := false }
      else (s.line l).sched
    cycle := { (s.line l).cycle with
      owed := false, inProgress := true, number := (s.line l).cycle.number + 1, walk := 0, performed := 0
      skipped := 0, gapCount := 0 } } := by
  cases l <;> rfl

theorem stepped_drop : (stepped s l).drop d = s.drop d := by cases l <;> rfl

/-- A walk that came to the end of its cycle with nothing performed leaves nothing that would start another one (R87). -/
theorem walkBank_fresh (performed : (s.line l).cycle.performed = 0) (owed : (s.line l).cycle.owed = false)
    (back : ((walkBank n l s).line l).ctl.state = .idle) : ((walkBank n l s).line l).cycle.owed = false ∧
      ((walkBank n l s).line l).cycle.mayRestart = false := by
  have ended (u : State) (none : (u.line l).cycle.performed = 0) (unowed : (u.line l).cycle.owed = false) :
      ((u.endCycle l).line l).cycle.owed = false ∧ ((u.endCycle l).line l).cycle.mayRestart = false := by
    have line : ((u.endCycle l).line l).cycle = { (u.line l).cycle with
        inProgress := false, mayRestart := 0 < (u.line l).cycle.performed } := by
      rw [endCycle_eq]
      cases l <;> rfl
    rw [line]
    exact ⟨unowed, by simp [none]⟩
  induction n generalizing s with
  | zero => exact ended s performed owed
  | succ n ih =>
    by_cases past : (s.line l).sched.activeBank.length ≤ (s.line l).cycle.walk
    · rw [walkBank_done past]
      exact ended s performed owed
    · have inside := Nat.not_le.mp past
      cases entry : (s.line l).sched.activeBank.entries.toList.getD (s.line l).cycle.walk .sync with
      | sync =>
        rw [walkBank_sync ⟨inside, entry⟩, (startSync_line _ l).1.1] at back
        cases back
      | pause k =>
        rw [walkBank_pause ⟨inside, entry⟩, (startPause_line _ l k).1] at back
        cases back
      | poll d =>
        rw [walkBank_poll ⟨inside, entry⟩] at back ⊢
        split at back
        · next invalid =>
          rw [if_pos invalid]
          exact ih (by rw [countSkippedInvalid_eq, line_setLine_self, stepped_line]; exact performed)
            (by rw [countSkippedInvalid_eq, line_setLine_self, stepped_line]; exact owed) back
        · next valid =>
          rw [if_neg valid]
          split at back
          · next offline =>
            rw [if_pos offline]
            exact ih (by rw [countSkippedOffline_eq, line_setLine_self, stepped_line]; exact performed)
              (by rw [countSkippedOffline_eq, line_setLine_self, stepped_line]; exact owed) back
          · rw [(startPoll_line _ l _ d).1.1] at back
            cases back

end

/-! ### The schedule, case by case (R80 to R87) -/

section

variable {s : State} {l : Line} {d : DropIx}

/-- Nothing calls for a cycle: the normal queue is served (R85 step 5, R87). -/
theorem select_of_no_cycle (at_ : s.atSchedule l) (none : (s.line l).cycle.inProgress = false)
    (unowed : (s.line l).cycle.owed = false) (stays : (s.line l).continuousStart = false) : s.select l = s.normalStep l := by
  have cycle : s.cycleStep l = s := if_neg (by simp [unowed, stays])
  rw [select_schedule at_, scheduleStep_of_none none]
  unfold afterWalk
  simp only [boundary_of_atSchedule at_, if_true, cycle]

/-- A cycle that starts is walked within the same selection, and no further one starts in it (R72, R85 step 4). -/
theorem select_of_cycle_start (at_ : s.atSchedule l) (none : (s.line l).cycle.inProgress = false)
    (starts : (s.line l).cycle.owed = true ∨ (s.line l).continuousStart = true) : s.select l = (cycleStarted s l).select l := by
  have line := cycleStarted_line s l
  have started : (cycleStarted s l).atSchedule l :=
    atSchedule_of at_ (by rw [line]) (by rw [line]) (by rw [line]) (by unfold cycleStarted; cases l <;> rfl)
  have walking : ((cycleStarted s l).line l).cycle.inProgress = true := by rw [line]
  have cycle : s.cycleStep l = (cycleStarted s l).scheduleStep l := by
    rw [← startCycle_eq]
    exact if_pos (by simp [none, starts])
  have further (back : (((cycleStarted s l).scheduleStep l).line l).atBoundary = true) :
      ((cycleStarted s l).scheduleStep l).cycleStep l = (cycleStarted s l).scheduleStep l := by
    rw [scheduleStep_of_inProgress walking] at back ⊢
    obtain ⟨owed, restart⟩ := walkBank_fresh (by rw [line]) (by rw [line]) (atBoundary_iff.mp back).2
    exact if_neg (by simp [owed, restart, LineEngine.continuousStart])
  rw [select_schedule at_, select_schedule started, scheduleStep_of_none none]
  unfold afterWalk
  simp only [boundary_of_atSchedule at_, if_true, cycle]
  by_cases back : (((cycleStarted s l).scheduleStep l).line l).atBoundary = true
  · simp only [back, if_true, further back]
  · simp only [back, Bool.false_eq_true, if_false]

/-- The walk has passed the bank: the cycle ends, and the selection goes on at the same boundary (R73, R85). -/
theorem select_of_cycle_end (at_ : s.atSchedule l) (walking : (s.line l).cycle.inProgress = true)
    (past : (s.line l).sched.activeBank.length ≤ (s.line l).cycle.walk) : s.select l = (s.endCycle l).select l := by
  have line : (s.endCycle l).line l = { s.line l with cycle := { (s.line l).cycle with
      inProgress := false, mayRestart := 0 < (s.line l).cycle.performed } } := by
    rw [endCycle_eq]
    cases l <;> rfl
  have ended : (s.endCycle l).atSchedule l :=
    atSchedule_of at_ (by rw [line]) (by rw [line]) (by rw [line]) (by rw [endCycle_eq]; cases l <;> rfl)
  rw [select_schedule at_, select_schedule ended, scheduleStep_of_inProgress walking, walkBank_done past,
    scheduleStep_of_none (by rw [line])]

/-- A walk that passes one entry and goes on selects as from the state in which that entry is passed. -/
theorem select_of_passed {t : State} (at_ : s.atSchedule l) (walking : (s.line l).cycle.inProgress = true)
    (passed : walkBank 25 l s = walkBank 24 l t) (after : t.atSchedule l) (still : (t.line l).cycle.inProgress = true)
    (later : 1 ≤ (t.line l).cycle.walk) : s.select l = t.select l := by
  rw [select_schedule at_, select_schedule after, scheduleStep_of_inProgress walking, scheduleStep_of_inProgress still, passed,
    walkBank_fuel (n := 24) (by decide) (by omega)]

/-- What the walk comes to and starts keeps the line busy, so that the selection ends with it. -/
theorem select_of_started {t : State} (at_ : s.atSchedule l) (walking : (s.line l).cycle.inProgress = true)
    (started : walkBank 25 l s = t) (busy : (t.line l).ctl.state ≠ .idle) : s.select l = t := by
  rw [select_schedule at_, scheduleStep_of_inProgress walking, started, afterWalk_of_busy busy]

end

/-! ### A request is taken (R42, R97) -/

section

variable {s : State} {l : Line} {g : Tag}

theorem requestRetry_eq (s : State) (g : Tag) : s.requestRetry g = (s.slot g).retry.getD
    (if (s.drop (s.slot g).drop).state = .offline then 0 else (s.drop (s.slot g).drop).retryLimit) := by
  unfold State.requestRetry
  cases (s.slot g).retry <;> rfl

theorem startRequest_closed (s : State) (l : Line) (g : Tag) :
    let x := s.slot g
    let retry := s.requestRetry g
    s.startRequest l g = ((s.unqueue g).setSlot g { x with state := .active, retry := some retry }).enterGuard l
      { source := .request g, drop := some x.drop, address := (s.drop x.drop).address, kind := x.kind.frame, retry
        attempts := x.attempts, lastOutcome := .none, lastLength := x.lastLength, lastStored := false } := by
  have slot : (s.unqueue g).slot g = s.slot g := by
    unfold State.unqueue
    rw [State.modLine_slot]
  have drop (u : Slot) (d : DropIx) : ((s.unqueue g).setSlot g u).drop d = s.drop d := by
    unfold State.unqueue
    cases (s.slot g).line <;> rfl
  have self (u : Slot) : ((s.unqueue g).setSlot g u).slot g = u := by simp
  unfold State.startRequest State.modSlot
  simp only [slot, self, drop]

theorem startRequest_takes (s : State) (l : Line) (g : Tag) : takesRequest s (s.startRequest l g) l g := by
  have slot (u : State) (x : Txn) (h : Tag) : (u.enterGuard l x).slot h = u.slot h := State.modLine_slot ..
  have unqueued (h : Tag) : (s.unqueue g).slot h = s.slot h := State.modLine_slot ..
  unfold takesRequest
  dsimp only
  rw [startRequest_closed, ← requestRetry_eq]
  refine ⟨(enterGuard_line_self ..).1, ?_, fun h other => ?_⟩
  · rw [slot, State.setSlot_slot, if_pos rfl]
  · rw [slot, State.setSlot_slot, if_neg other, unqueued]

/-- What a request taken shows depends on the slots and the drops alone. -/
theorem takesRequest_of_same {u t : State} (slots : u.slots = s.slots) (drops : u.drops = s.drops) (takes : takesRequest u t l g) :
    takesRequest s t l g := by
  have slot (h : Tag) : u.slot h = s.slot h := congrArg (·[h.val]) slots
  have drop (d : DropIx) : u.drop d = s.drop d := congrArg (·[d.val]) drops
  unfold takesRequest at takes ⊢
  simpa only [slot, drop] using takes

theorem normalStep_of_nil (empty : (s.line l).normal = []) : s.normalStep l = s := by
  unfold State.normalStep
  simp only [empty]

theorem normalStep_of_cons {rest : List Tag} (queue : (s.line l).normal = g :: rest) :
    takesRequest s (s.normalStep l) l g ∧ ((s.normalStep l).line l).cycle.gapCount =
      min (max (s.line l).params.gapQuota (s.line l).cycle.gapCount) ((s.line l).cycle.gapCount + 1) := by
  have step : s.normalStep l = (s.setLine l { s.line l with cycle := { (s.line l).cycle with
      gapCount := if (s.line l).cycle.gapCount < (s.line l).params.gapQuota then (s.line l).cycle.gapCount + 1
        else (s.line l).cycle.gapCount } }).startRequest l g := by
    unfold State.normalStep
    simp only [queue, modLine_eq]
  rw [step]
  generalize counted : (if (s.line l).cycle.gapCount < (s.line l).params.gapQuota then (s.line l).cycle.gapCount + 1
    else (s.line l).cycle.gapCount) = count
  generalize served : s.setLine l { s.line l with cycle := { (s.line l).cycle with gapCount := count } } = u
  have slots : u.slots = s.slots := by rw [← served]; cases l <;> rfl
  have drops : u.drops = s.drops := by rw [← served]; cases l <;> rfl
  obtain ⟨a, b, c, line⟩ := startRequest_line u l l g
  refine ⟨takesRequest_of_same slots drops (startRequest_takes u l g), ?_⟩
  rw [line, ← served, line_setLine_self, ← counted]
  dsimp only
  split <;> omega

theorem startPoll_of_extra (s : State) (l : Line) (d : DropIx) :
    let t := (s.modDrop d fun x => { x with attention := false }).startPoll l .extraPoll d
    startsWith t l (freshTxn .extraPoll (some d) (s.drop d).address .poll (s.drop d).retryLimit 0) ∧
      (t.drop d).attention = false := by
  have drop : (s.modDrop d fun x => { x with attention := false }).drop d = { s.drop d with attention := false } := by
    rw [State.modDrop_drop, if_pos rfl]
  generalize s.modDrop d _ = u at drop
  have kept : (u.startPoll l .extraPoll d).drop d = u.drop d := by cases l <;> rfl
  have starts := (startPoll_line u l .extraPoll d).1
  rw [drop] at starts
  exact ⟨starts, by rw [kept, drop]⟩

end

/-- Settles O43: the first step of R85 that has work takes it; an entry that is skipped, a cycle's start and its end leave the
selection to go on from the state they leave. -/
theorem pauseElapsedSelectsWork : Obligations.PauseElapsedSelectsWork := by
  unfold Obligations.PauseElapsedSelectsWork
  refine ⟨fun s l pause => ?_, fun s l off => select_off_boundary off, fun s l master idle => ⟨fun g rest urgent => ?_,
    fun d none attention here first => ?_⟩, fun s l at_ => ?_⟩
  · exact congrArg finish ((if_pos pause).trans (by rw [modLine_eq]; rfl))
  · rw [select_urgent (atBoundary_iff.mpr ⟨master, idle⟩) urgent]
    exact startRequest_takes s l g
  · have owed := extraPollDrop_eq_some.mpr ⟨⟨attention, here⟩, first⟩
    rw [select_extraPoll (atBoundary_iff.mpr ⟨master, idle⟩) none owed]
    exact startPoll_of_extra s l d
  · have continues := @continuousStart_iff (s.line l)
    refine ⟨fun none unowed stays => ?_, fun none starts => ?_, fun walking past => ?_, fun d comes invalid => ?_,
      fun d comes offline here skipped => ?_, fun d comes enabled here due => ?_, fun comes => ?_, fun n comes => ?_⟩
    · have step := select_of_no_cycle at_ none unowed (Bool.eq_false_iff.mpr fun starts => stays (continues.mp starts))
      refine ⟨fun g rest queue => ?_, fun empty => ?_⟩
      · rw [step]
        exact normalStep_of_cons queue
      · rw [step, normalStep_of_nil empty]
    · exact select_of_cycle_start at_ none (starts.imp_right continues.mpr)
    · rw [select_of_cycle_end at_ walking past, endCycle_eq]
    · obtain ⟨walking, inside, entry⟩ := comes
      have passed := (walkBank_poll (n := 24) ⟨inside, entry⟩).trans (if_pos invalid)
      rw [countSkippedInvalid_eq, stepped_line, stepped, setLine_setLine] at passed
      refine select_of_passed at_ walking passed (atSchedule_of at_ ?_ ?_ ?_ (by cases l <;> rfl)) ?_ ?_ <;> rw [line_setLine_self]
      · exact walking
      · exact Nat.le_add_left ..
    · obtain ⟨walking, inside, entry⟩ := comes
      have valid : ¬ ((s.drop d).state = .disabled ∨ (s.drop d).line ≠ l) := by simp [offline, here]
      have passed := (walkBank_poll (n := 24) ⟨inside, entry⟩).trans ((if_neg valid).trans (if_pos ⟨offline, skipped⟩))
      rw [countSkippedOffline_eq, stepped_line, stepped, setLine_setLine] at passed
      refine select_of_passed at_ walking passed (atSchedule_of at_ ?_ ?_ ?_ (by cases l <;> rfl)) ?_ ?_ <;> rw [line_setLine_self]
      · exact walking
      · exact Nat.le_add_left ..
    · obtain ⟨walking, inside, entry⟩ := comes
      have valid : ¬ ((s.drop d).state = .disabled ∨ (s.drop d).line ≠ l) := by simp [enabled, here]
      have visited : ¬ ((s.drop d).state = .offline ∧ (s.line l).cycle.number.toNat % (s.drop d).revisit ≠ 0) :=
        fun skipped => skipped.2 (due skipped.1)
      have polled := (walkBank_poll (n := 24) ⟨inside, entry⟩).trans ((if_neg valid).trans (if_neg visited))
      obtain ⟨starts, cycle⟩ := startPoll_line (stepped s l) l .schedule d
      rw [select_of_started at_ walking polled (by rw [starts.1]; decide)]
      rw [stepped_drop] at starts
      exact ⟨starts, cycle.trans (congrArg (·.cycle) stepped_line)⟩
    · obtain ⟨walking, inside, entry⟩ := comes
      obtain ⟨starts, cycle⟩ := startSync_line (stepped s l) l
      rw [select_of_started at_ walking (walkBank_sync ⟨inside, entry⟩) (by rw [starts.1]; decide)]
      exact ⟨starts, cycle.trans (congrArg (·.cycle) stepped_line)⟩
    · obtain ⟨walking, inside, entry⟩ := comes
      obtain ⟨state, length, cycle⟩ := startPause_line (stepped s l) l n
      rw [select_of_started at_ walking (walkBank_pause ⟨inside, entry⟩) (by rw [state]; decide)]
      refine ⟨state, length, cycle.trans ?_⟩
      rw [stepped_line]

end Sys2Proof.Proofs.Selection

/-! What a work selection can start, and what it leaves alone (R85). -/

namespace Sys2Proof.Proofs.Selected

open Sys2Proof Sys2Proof.Machine Sys2Proof.Laws Sys2Proof.Proofs.Rows Sys2Proof.Proofs.Work Sys2Proof.Proofs.Queues
open Sys2Proof.Proofs.LineRows Sys2Proof.Proofs.RoleEnds Sys2Proof.Proofs.SubmitFills Sys2Proof.Proofs.Selection

/-- `t` is `s` with nothing moved but the cycle, the banks and the counters of the line, and the events. -/
def Booked (l : Line) (s t : State) : Prop :=
  ∃ c k n u, t = { s.setLine l { s.line l with cycle := c, sched := k, counters := n } with events := u }

/-- What a work selection of the line comes to. -/
inductive Chosen (l : Line) (s : State) : State → Prop where
  | nothing {t : State} (h : Booked l s t) : Chosen l s t
  | request {t : State} (h : Booked l s t) (g : Tag) (queued : g ∈ (s.line l).urgent ++ (s.line l).normal) :
      Chosen l s (t.startRequest l g)
  | extra (d : DropIx) (owed : (s.drop d).attention = true) :
      Chosen l s ((s.modDrop d fun x => { x with attention := false }).startPoll l .extraPoll d)
  | poll {t : State} (h : Booked l s t) (d : DropIx) (enabled : (s.drop d).state ≠ .disabled) :
      Chosen l s (t.startPoll l .schedule d)
  | sync {t : State} (h : Booked l s t) : Chosen l s (t.startSync l)
  | pause {t : State} (h : Booked l s t) (n : Nat) : Chosen l s (t.startPause l n)

section

variable {s t u : State} {l : Line} {d : DropIx}

theorem Booked.refl (s : State) (l : Line) : Booked l s s :=
  ⟨(s.line l).cycle, (s.line l).sched, (s.line l).counters, s.events, by
    have same : s = { s.setLine l (s.line l) with events := s.events } := by rw [setLine_self]
    exact same⟩

theorem Booked.trans (h : Booked l s t) (k : Booked l t u) : Booked l s u := by
  obtain ⟨c, b, n, v, rfl⟩ := h
  obtain ⟨c', b', n', v', rfl⟩ := k
  refine ⟨c', b', n', v', ?_⟩
  cases l <;> rfl

theorem Booked.line (h : Booked l s t) : ∃ c k n, t.line l = { s.line l with cycle := c, sched := k, counters := n } := by
  obtain ⟨c, b, n, v, rfl⟩ := h
  exact ⟨c, b, n, by cases l <;> rfl⟩

theorem Booked.drop (h : Booked l s t) (d : DropIx) : t.drop d = s.drop d := by
  obtain ⟨c, b, n, v, rfl⟩ := h
  cases l <;> rfl

theorem Booked.slot (h : Booked l s t) (g : Tag) : t.slot g = s.slot g := by
  obtain ⟨c, b, n, v, rfl⟩ := h
  cases l <;> rfl

theorem booked_setLine (c : Cycle) (k : Schedule) (n : LineCounters) :
    Booked l s (s.setLine l { s.line l with cycle := c, sched := k, counters := n }) :=
  ⟨c, k, n, s.events, by cases l <;> rfl⟩

theorem booked_endCycle (s : State) (l : Line) : Booked l s (s.endCycle l) :=
  ⟨_, _, _, _, endCycle_eq s l⟩

theorem booked_cycleStarted (s : State) (l : Line) : Booked l s (cycleStarted s l) :=
  ⟨_, _, _, _, rfl⟩

theorem booked_stepped (s : State) (l : Line) : Booked l s (stepped s l) := booked_setLine ..

theorem booked_skipped (s : State) (l : Line) :
    Booked l s ((stepped s l).countSkippedInvalid l) ∧ Booked l s ((stepped s l).countSkippedOffline l) := by
  constructor
  · rw [countSkippedInvalid_eq]
    exact (booked_stepped s l).trans (booked_setLine ..)
  · rw [countSkippedOffline_eq]
    exact (booked_stepped s l).trans (booked_setLine ..)

theorem chosen_walkBank (n : Nat) (booked : Booked l s t) : Chosen l s (walkBank n l t) := by
  induction n generalizing t with
  | zero => exact .nothing (booked.trans (booked_endCycle t l))
  | succ n ih =>
    by_cases past : (t.line l).sched.activeBank.length ≤ (t.line l).cycle.walk
    · rw [walkBank_done past]
      exact .nothing (booked.trans (booked_endCycle t l))
    · have inside := Nat.not_le.mp past
      have steps := booked.trans (booked_stepped t l)
      cases entry : (t.line l).sched.activeBank.entries.toList.getD (t.line l).cycle.walk .sync with
      | sync =>
        rw [walkBank_sync ⟨inside, entry⟩]
        exact .sync steps
      | pause k =>
        rw [walkBank_pause ⟨inside, entry⟩]
        exact .pause steps k
      | poll d =>
        rw [walkBank_poll ⟨inside, entry⟩]
        obtain ⟨invalid, offline⟩ := booked_skipped t l
        split
        · exact ih (booked.trans invalid)
        · next valid =>
          split
          · exact ih (booked.trans offline)
          · refine .poll steps d fun disabled => valid (.inl ?_)
            rw [booked.drop]
            exact disabled

/-- A choice that leaves the line idle has started nothing. -/
theorem Chosen.booked_of_idle (chosen : Chosen l s t) (idle : (t.line l).ctl.state = .idle) : Booked l s t := by
  cases chosen with
  | nothing booked => exact booked
  | request _ g _ =>
    rw [(startRequest_takes _ l g).1.1] at idle
    cases idle
  | extra d _ | poll _ d _ =>
    rw [(startPoll_line _ l _ d).1.1] at idle
    cases idle
  | sync =>
    rw [(startSync_line _ l).1.1] at idle
    cases idle
  | pause _ n =>
    rw [(startPause_line _ l n).1] at idle
    cases idle

/-- A further step of the selection, taken only at a boundary, is a choice where it is one after bookkeeping. -/
theorem Chosen.step (chosen : Chosen l s t) {f : State → State} (next : ∀ u, Booked l s u → Chosen l s (f u)) :
    Chosen l s (if (t.line l).atBoundary then f t else t) := by
  split
  · next boundary => exact next t (chosen.booked_of_idle (atBoundary_iff.mp boundary).2)
  · exact chosen

theorem chosen_scheduleStep (booked : Booked l s t) : Chosen l s (t.scheduleStep l) := by
  unfold State.scheduleStep
  split
  · exact chosen_walkBank 25 booked
  · exact .nothing booked

theorem chosen_cycleStep (booked : Booked l s t) : Chosen l s (t.cycleStep l) := by
  unfold State.cycleStep
  split
  · rw [startCycle_eq]
    exact chosen_scheduleStep (booked.trans (booked_cycleStarted t l))
  · exact .nothing booked

theorem chosen_normalStep (booked : Booked l s t) : Chosen l s (t.normalStep l) := by
  unfold State.normalStep
  split
  · exact .nothing booked
  · next g rest queue =>
    obtain ⟨c, k, n, line⟩ := booked.line
    rw [modLine_eq]
    refine .request (booked.trans (booked_setLine ..)) g (List.mem_append_right _ ?_)
    have same : (t.line l).normal = (s.line l).normal := by rw [line]
    rw [← same, queue]
    exact List.mem_cons_self

theorem chosen_select (s : State) (l : Line) : Chosen l s (s.select l) := by
  have stays := Chosen.nothing (Booked.refl s l)
  unfold State.select
  split
  · exact stays
  · split
    · next g rest urgent => exact .request (.refl s l) g (List.mem_append_left _ (urgent ▸ List.mem_cons_self))
    · split
      · next d owed => exact .extra d (extraPollDrop_eq_some.mp owed).1.1
      · exact ((chosen_scheduleStep (.refl s l)).step (f := (·.cycleStep l)) fun _ => chosen_cycleStep).step
          (f := (·.normalStep l)) fun _ => chosen_normalStep

/-! ### What a selection leaves alone -/

theorem startRequest_slot_other {g h : Tag} (other : h ≠ g) (s : State) (l : Line) : (s.startRequest l g).slot h = s.slot h :=
  (startRequest_takes s l g).2.2 h other

/-- Slots of requests that are not queued on the line stay. -/
theorem Chosen.slot (chosen : Chosen l s t) {g : Tag} (out : g ∉ (s.line l).urgent ++ (s.line l).normal) :
    t.slot g = s.slot g := by
  have guard (u : State) (x : Txn) : (u.enterGuard l x).slot g = u.slot g := State.modLine_slot ..
  cases chosen with
  | nothing booked => exact booked.slot g
  | request booked h queued =>
    rw [startRequest_slot_other fun same : g = h => out (same ▸ queued), booked.slot]
  | extra d => exact guard ..
  | poll booked d _ => exact (guard ..).trans (booked.slot g)
  | sync booked => exact (guard ..).trans (booked.slot g)
  | pause booked n =>
    refine Eq.trans ?_ (booked.slot g)
    cases l <;> rfl

/-- A drop record stays but for the extra poll it is owed. -/
theorem Chosen.drop (chosen : Chosen l s t) (d : DropIx) :
    t.drop d = s.drop d ∨ (s.drop d).attention = true ∧ t.drop d = { s.drop d with attention := false } := by
  have guard (u : State) (x : Txn) : (u.enterGuard l x).drop d = u.drop d := by cases l <;> rfl
  cases chosen with
  | nothing booked => exact .inl (booked.drop d)
  | request booked g _ =>
    refine .inl ((booked.drop d).symm ▸ ?_)
    rw [startRequest_closed, guard]
    unfold State.unqueue
    cases (State.slot _ g).line <;> rfl
  | extra e owed =>
    have kept : ((s.modDrop e fun x => { x with attention := false }).startPoll l .extraPoll e).drop d = _ := guard ..
    rw [kept, State.modDrop_drop]
    split
    · next same => exact .inr ⟨same ▸ owed, by rw [same]⟩
    · exact .inl rfl
  | poll booked e _ => exact .inl ((guard ..).trans (booked.drop d))
  | sync booked => exact .inl ((guard ..).trans (booked.drop d))
  | pause booked n =>
    refine .inl (Eq.trans ?_ (booked.drop d))
    cases l <;> rfl

/-- No transaction to a disabled drop is chosen, if it is owed no extra poll and no request to it is queued. -/
theorem Chosen.not_disabled (chosen : Chosen l s t) (free : (s.line l).ctl.txn = none) (disabled : (s.drop d).state = .disabled)
    (unowed : (s.drop d).attention = false) (apart : ∀ g ∈ (s.line l).urgent ++ (s.line l).normal, (s.slot g).drop ≠ d) :
    (t.line l).ctl.txn = none ∨ (t.line l).ctl.state = .guard ∧ (t.line l).ctl.txn.bind (·.drop) ≠ some d := by
  have starts {u : State} {x : Txn} (starts : startsWith u l x) (other : x.drop ≠ some d) :
      (u.line l).ctl.txn = none ∨ (u.line l).ctl.state = .guard ∧ (u.line l).ctl.txn.bind (·.drop) ≠ some d :=
    .inr ⟨starts.1, by rw [starts.2]; exact other⟩
  cases chosen with
  | nothing booked =>
    obtain ⟨c, k, n, line⟩ := booked.line
    exact .inl (by rw [line]; exact free)
  | request booked g queued =>
    refine starts (startRequest_takes _ l g).1 fun same => apart g queued ?_
    rw [← booked.slot]
    exact Option.some.inj same
  | extra e owed =>
    refine starts (startPoll_line _ l _ e).1 fun same => ?_
    rw [Option.some.inj same, unowed] at owed
    cases owed
  | poll booked e enabled => exact starts (startPoll_line _ l _ e).1 fun same => enabled (Option.some.inj same ▸ disabled)
  | sync booked => exact starts (startSync_line _ l).1 nofun
  | pause booked n => exact .inl (by cases l <;> rfl)

end

end Sys2Proof.Proofs.Selected

/-! RETIRE, ABORT and DROP_DISABLE, with the early ends that the last two bring (R31, R59, R60, R100 to R102). -/

namespace Sys2Proof.Proofs.EarlyEnds

open Sys2Proof Sys2Proof.Machine Sys2Proof.Laws Sys2Proof.Proofs.DropTable Sys2Proof.Proofs.SwapAndTrigger Sys2Proof.Proofs.Rows
open Sys2Proof.Proofs.Work Sys2Proof.Proofs.Queues Sys2Proof.Proofs.LineRows Sys2Proof.Proofs.RoleEnds Sys2Proof.Proofs.Completions
open Sys2Proof.Proofs.RoleCommands Sys2Proof.Proofs.SubmitFills Sys2Proof.Proofs.Selection Sys2Proof.Proofs.Selected
open Sys2Proof.Proofs.EventQueue Sys2Proof.Proofs.LineReset

/-! ### The end of a transaction, record by record -/

section

variable {s : State} {l : Line} {x : Txn} {o : TxnOutcome}

theorem finishTxn_over (txn : (s.line l).ctl.txn = some x) (ends : s.ending l x = .over o) :
    s.finishTxn l = (((s.countEntry l x o).reportEnd x o).completeTxn x o).modCtl l Controller.toIdle := by
  unfold State.finishTxn
  simp only [txn, ends]

theorem countEntry_slot (g : Tag) : (s.countEntry l x o).slot g = s.slot g := by
  rw [countEntry_closed]
  cases l <;> rfl

theorem reportEnd_slot (g : Tag) : (s.reportEnd x o).slot g = s.slot g := by
  unfold State.reportEnd
  split
  · rw [endReport_eq]
    rfl
  · rfl

theorem reportEnd_drop (d : DropIx) :
    (s.reportEnd x o).drop d = if x.drop = some d then dropAfterEnd (s.drop d) o (0 < x.attempts) else s.drop d := by
  unfold State.reportEnd
  cases x.drop with
  | none => rfl
  | some e =>
    dsimp only
    rw [endReport_eq]
    refine Eq.trans (b := (s.setDrop e (dropAfterEnd (s.drop e) o (0 < x.attempts))).drop d) rfl ?_
    rw [State.setDrop_drop]
    by_cases same : d = e
    · subst same
      simp
    · simp [same, Ne.symm same]

theorem finishTxn_drop_of_over (txn : (s.line l).ctl.txn = some x) (ends : s.ending l x = .over o) (d : DropIx) :
    (s.finishTxn l).drop d = if x.drop = some d then dropAfterEnd (s.drop d) o (0 < x.attempts) else s.drop d := by
  have counted : (s.countEntry l x o).drop d = s.drop d := congrArg (·[d.val]) (countEntry_drops s l x o)
  have completed : (((s.countEntry l x o).reportEnd x o).completeTxn x o).drop d = ((s.countEntry l x o).reportEnd x o).drop d :=
    congrArg (·[d.val]) (completeTxn_drops ..)
  rw [finishTxn_over txn ends]
  refine Eq.trans (b := (((s.countEntry l x o).reportEnd x o).completeTxn x o).drop d) (by cases l <;> rfl) ?_
  rw [completed, reportEnd_drop, counted]

theorem finishTxn_slot_of_over (txn : (s.line l).ctl.txn = some x) (ends : s.ending l x = .over o) (g : Tag) :
    (s.finishTxn l).slot g = if x.request = some g then
      { s.slot g with state := .done, outcome := o, abortPending := false
                      replyLength := if x.kind = .poll then x.lastLength else 0
                      replyStored := decide (x.kind = .poll) && x.lastStored }
      else s.slot g := by
  rw [finishTxn_over txn ends]
  refine Eq.trans (b := (((s.countEntry l x o).reportEnd x o).completeTxn x o).slot g) (by cases l <;> rfl) ?_
  rw [completeTxn_eq]
  cases x.request with
  | none => rw [reportEnd_slot, countEntry_slot]; simp
  | some h =>
    dsimp only
    rw [complete_slot, reportEnd_slot, reportEnd_slot, countEntry_slot, countEntry_slot]
    by_cases same : g = h
    · subst same
      simp
    · simp [same, Ne.symm same]

theorem request_of_putBack {g : Tag} (ends : s.ending l x = .putBack g) : x.request = some g := by
  rw [ending_eq] at ends
  split at ends
  · cases ends
  · next request =>
    cases ends
    exact request
  · cases ends

theorem finishTxn_of_putBack {g : Tag} (txn : (s.line l).ctl.txn = some x) (ends : s.ending l x = .putBack g) :
    s.finishTxn l = (s.modCtl l Controller.toIdle).putBack g x.lastLength := by
  unfold State.finishTxn
  simp only [txn, ends]

theorem putBack_slot (s : State) (g : Tag) (n : Nat) (h : Tag) :
    (s.putBack g n).slot h = if h = g then { s.slot g with state := .queued, lastLength := n } else s.slot h := by
  unfold State.putBack
  rw [State.modLine_slot]
  exact State.modSlot_slot ..

/-- The slot of another request stays when the transaction in hand ends. -/
theorem finishTxn_slot_other {g : Tag} (other : s.txnTag l ≠ some g) : (s.finishTxn l).slot g = s.slot g := by
  cases txn : (s.line l).ctl.txn with
  | none =>
    unfold State.finishTxn
    simp only [txn]
    cases l <;> rfl
  | some x =>
    rw [txnTag_eq, txn, Option.bind_some] at other
    match ends : s.ending l x with
    | .over o => rw [finishTxn_slot_of_over txn ends, if_neg other]
    | .putBack h =>
      have mine := request_of_putBack ends
      have apart : ¬ g = h := fun same => other (mine.trans (congrArg some same.symm))
      rw [finishTxn_of_putBack txn ends, putBack_slot, if_neg apart]
      cases l <;> rfl

/-- A drop record stays, or gets the end report of the transaction. -/
theorem finishTxn_drop (s : State) (l : Line) (d : DropIx) : (s.finishTxn l).drop d = s.drop d ∨
    ∃ o began, (s.finishTxn l).drop d = dropAfterEnd (s.drop d) o began := by
  cases txn : (s.line l).ctl.txn with
  | none =>
    unfold State.finishTxn
    simp only [txn]
    exact .inl (by cases l <;> rfl)
  | some x =>
    match ends : s.ending l x with
    | .over o =>
      rw [finishTxn_drop_of_over txn ends]
      split
      · exact .inr ⟨_, _, rfl⟩
      · exact .inl rfl
    | .putBack h =>
      rw [finishTxn_of_putBack txn ends]
      exact .inl (congrArg (·[d.val]) ((putBack_drops ..).trans (by cases l <;> rfl)))

theorem agree_moves {t : State} (moves : Moves l s t) (agree : s.QueuesAgree) : t.QueuesAgree := by
  induction moves with
  | refl => exact agree
  | tail _ move ih => exact agree_move move ih

end

/-! ### RETIRE (R100) -/

section

variable {s : State} {tag : Tag} {code : Byte} {b : Byte}

theorem tagOf_eq_some (named : b.toNat = tag.val) : tagOf b = some tag := by
  have inside : b.toNat < 16 := named ▸ tag.isLt
  have found : tagOf b = some ⟨b.toNat, inside⟩ := dif_pos inside
  rw [found]
  exact congrArg some (Fin.ext named)

theorem tagOf_eq_none (bad : 15 < b.toNat) : tagOf b = none := dif_neg (by omega)

theorem withTag_of_bad (bad : 15 < b.toNat) (f : Tag → State) : s.withTag b f = s.refuse .badTag := by
  unfold State.withTag
  rw [tagOf_eq_none bad]

theorem withTag_of_tag (named : b.toNat = tag.val) (f : Tag → State) : s.withTag b f = f tag := by
  unfold State.withTag
  rw [tagOf_eq_some named]

theorem exec_retire (idle : s.idle) : exec .retire s = finish (coded 0x02 s).runRetire :=
  congrArg finish (startCommand_of_idle idle ..)

theorem exec_abort (idle : s.idle) : exec .abort s = finish (coded 0x03 s).runAbort :=
  congrArg finish (startCommand_of_idle idle ..)

theorem retire_badTag (idle : s.idle) (bad : 15 < s.bus.arg0.toNat) : exec .retire s = .next (refusedAs s 0x02 .badTag) := by
  have refused : (coded 0x02 s).runRetire = (coded 0x02 s).refuse .badTag := withTag_of_bad bad _
  rw [exec_retire idle, refused, finish_refuse_coded idle]

theorem retire_notDone (idle : s.idle) (named : s.bus.arg0.toNat = tag.val) (notDone : (s.slot tag).state ≠ .done) :
    exec .retire s = .next (refusedAs s 0x02 .notDone) := by
  have refused : (coded 0x02 s).runRetire = (coded 0x02 s).refuse .notDone :=
    (withTag_of_tag (s := coded 0x02 s) named _).trans (if_neg notDone)
  rw [exec_retire idle, refused, finish_refuse_coded idle]

theorem retire_done (idle : s.idle) (named : s.bus.arg0.toNat = tag.val) (isDone : (s.slot tag).state = .done) :
    exec .retire s = .next (doneAs (s.setSlot tag { s.slot tag with state := .free }) 0x02 0) := by
  have retired : (coded 0x02 s).runRetire = ((coded 0x02 s).modSlot tag fun x => { x with state := .free }).done 0 :=
    (withTag_of_tag (s := coded 0x02 s) named _).trans (if_pos isDone)
  rw [exec_retire idle, retired]
  rfl

/-- A free slot is found no later than at this tag. -/
theorem freeSlot_le (free : (s.slot tag).state = .free) : ∃ g, s.freeSlot = some g ∧ g ≤ tag := by
  obtain ⟨g, found⟩ := Sys2Proof.Proofs.Submit.exists_freeSlot ⟨tag, free⟩
  refine ⟨g, found, Fin.not_lt.mp fun later => ?_⟩
  exact (freeSlot_eq_some.mp found).2 tag later free

end

/-! ### ABORT (R101, R102) -/

section

variable {s : State} {l : Line} {tag : Tag} {d : DropIx} {y : Txn}

theorem abort_badTag (idle : s.idle) (bad : 15 < s.bus.arg0.toNat) : exec .abort s = .next (refusedAs s 0x03 .badTag) := by
  have refused : (coded 0x03 s).runAbort = (coded 0x03 s).refuse .badTag := withTag_of_bad bad _
  rw [exec_abort idle, refused, finish_refuse_coded idle]

theorem abort_refused (idle : s.idle) (named : s.bus.arg0.toNat = tag.val)
    (out : (s.slot tag).state = .free ∨ (s.slot tag).state = .done) : exec .abort s = .next (refusedAs s 0x03 .notAbortable) := by
  have refused : (coded 0x03 s).runAbort = (coded 0x03 s).refuse .notAbortable := by
    refine (withTag_of_tag (s := coded 0x03 s) named _).trans ?_
    have slot : (coded 0x03 s).slot tag = s.slot tag := rfl
    rcases out with state | state <;> simp only [slot, state]
  rw [exec_abort idle, refused, finish_refuse_coded idle]

theorem runAbort_of_queued (named : s.bus.arg0.toNat = tag.val) (queued : (s.slot tag).state = .queued) :
    s.runAbort = (s.completeQueued tag .aborted).done 3 := by
  refine (withTag_of_tag named _).trans ?_
  simp only [queued]
  rfl

theorem runAbort_of_active (named : s.bus.arg0.toNat = tag.val) (active : (s.slot tag).state = .active) :
    s.runAbort = (s.abortActive tag).done ((s.abortActive tag).slot tag).state.code := by
  refine (withTag_of_tag named _).trans ?_
  simp only [active]

/-- The state in which the abort of an ACTIVE slot is marked. -/
def marked (s : State) (tag : Tag) : State :=
  s.setSlot tag { s.slot tag with abortPending := true }

theorem abortActive_eq (s : State) (tag : Tag) : s.abortActive tag =
    if s.txnTag (s.slot tag).line = some tag then (marked s tag).endEarly (s.slot tag).line else marked s tag := rfl

theorem endEarly_of_inFlight (flying : (s.line l).ctl.state.inFlight = true) : s.endEarly l = s := by
  unfold State.endEarly
  cases state : (s.line l).ctl.state with
  | send | await | receive | discard | idle | pause => rfl
  | guard | backoff =>
    rw [state] at flying
    cases flying

theorem endEarly_of_waits (waits : (s.line l).ctl.state = .guard ∨ (s.line l).ctl.state = .backoff) :
    s.endEarly l = (s.finishTxn l).select l := by
  unfold State.endEarly
  rcases waits with state | state <;> simp only [state]

/-- A request aborted in GUARD or BACKOFF: end report, completion, the controller at rest (R59, R60, R98). -/
def abortedEarly (s : State) (l : Line) (tag : Tag) (d : DropIx) (y : Txn) : State :=
  let x := s.slot tag
  { s.setLine l { s.line l with ctl := (s.line l).ctl.resting } with
    drops := (s.setDrop d { s.drop d with
      lastOutcome := .aborted
      toggle := if 0 < y.attempts then !(s.drop d).toggle else (s.drop d).toggle }).drops
    slots := (s.setSlot tag { x with
      state := .done, outcome := .aborted, abortPending := false
      replyLength := if y.kind = .poll then y.lastLength else 0
      replyStored := decide (y.kind = .poll) && y.lastStored }).slots
    buffers := pooled s.buffers (s.heldBy tag)
    events := s.events.post { kind := .requestDone, line := some x.line, drop := some x.drop, tag := some tag
                              code := 12, detail := BitVec.ofNat 8 x.attempts, stamp := s.clock.timestamp } }

theorem dropAfterEnd_aborted (r : Drop) (o : TxnOutcome) (began : Bool) (which : o = .aborted ∨ o = .dropDisabled) :
    dropAfterEnd r o began = { r with lastOutcome := o, toggle := if began then !r.toggle else r.toggle } := by
  unfold dropAfterEnd
  rcases which with rfl | rfl <;> by_cases disabled : r.state = .disabled <;> simp [disabled]

theorem marked_slot (s : State) (tag : Tag) : (marked s tag).slot tag = { s.slot tag with abortPending := true } := by
  unfold marked
  rw [State.setSlot_slot, if_pos rfl]

theorem finishTxn_marked (mine : (s.slot tag).line = l) (txn : (s.line l).ctl.txn = some y) (request : y.source = .request tag)
    (drop : y.drop = some d) (notOk : y.lastOutcome ≠ .ok) : (marked s tag).finishTxn l = abortedEarly s l tag d y := by
  have carried : y.request = some tag := by rw [Txn.request, request]
  have line : (marked s tag).line l = s.line l := by cases l <;> rfl
  have pending : ∃ g, y.request = some g ∧ ((marked s tag).slot g).abortPending = true :=
    ⟨tag, carried, by rw [marked_slot]⟩
  have aborted : (marked s tag).endOf (s.line l).role y = some .aborted := by
    unfold State.endOf
    rw [if_neg notOk, if_pos pending]
  have other : ¬ (y.source = .schedule ∧ y.attempts = 0 ∧ TxnOutcome.aborted = .dropDisabled) := by simp
  have entry : cycleAfterTxn (s.line l).cycle y .aborted = (s.line l).cycle := by simp [cycleAfterTxn, request]
  have twice (z w : Slot) : ((s.setSlot tag z).setSlot tag w).slots = (s.setSlot tag w).slots := by
    unfold State.setSlot
    exact Vector.set_set (hi := tag.isLt) ..
  rw [finishTxn_txn (x := y) (by rw [line]; exact txn) (fun g same => ?_)]
  · unfold State.txnEnded
    simp only [aborted, carried, drop, line, entry, other, if_false, marked_slot, dropAfterEnd_aborted _ .aborted _ (.inl rfl),
      returned_eq, decide_eq_true_eq, if_true]
    have again : abortedEarly s l tag d y = { abortedEarly s l tag d y with
        slots := ((marked s tag).setSlot tag { s.slot tag with
          state := .done, outcome := .aborted, abortPending := false
          replyLength := if y.kind = .poll then y.lastLength else 0
          replyStored := decide (y.kind = .poll) && y.lastStored }).slots } := by
      rw [marked, twice]
      rfl
    rw [again]
    cases l <;> rfl
  · rw [carried] at same
    rw [← Option.some.inj same, marked_slot]
    exact mine

theorem abort_inFlight (idle : s.idle) (named : s.bus.arg0.toNat = tag.val) (active : (s.slot tag).state = .active)
    (flying : (s.line (s.slot tag).line).ctl.state.inFlight = true) :
    exec .abort s = .next (doneAs (s.setSlot tag { s.slot tag with abortPending := true }) 0x03 2) := by
  have kept : (coded 0x03 s).abortActive tag = marked (coded 0x03 s) tag := by
    have line : ((marked (coded 0x03 s) tag).line (s.slot tag).line) = s.line (s.slot tag).line :=
      coded_line (s := marked s tag) 0x03 (s.slot tag).line
    rw [abortActive_eq]
    split
    · exact endEarly_of_inFlight (by rw [show (coded 0x03 s).slot tag = s.slot tag from rfl, line]; exact flying)
    · rfl
  have shown : ((marked (coded 0x03 s) tag).slot tag).state = .active := by
    rw [marked_slot]
    exact active
  rw [exec_abort idle, runAbort_of_active (s := coded 0x03 s) named active, kept, shown]
  rfl

theorem abort_early (idle : s.idle) (named : s.bus.arg0.toNat = tag.val) (mine : (s.slot tag).line = l)
    (waits : (s.line l).ctl.state = .guard ∨ (s.line l).ctl.state = .backoff) (agree : s.QueuesAgree)
    (txn : (s.line l).ctl.txn = some y) (request : y.source = .request tag) (drop : y.drop = some d)
    (notOk : y.lastOutcome ≠ .ok) : exec .abort s = .next (doneAs ((abortedEarly s l tag d y).select l) 0x03 3) := by
  have inHand : s.txnTag l = some tag := by rw [txnTag_eq, txn, Option.bind_some, Txn.request, request]
  have active := (agree.2 l tag inHand).1
  have line : (coded 0x03 s).line l = s.line l := coded_line ..
  have held : (marked (coded 0x03 s) tag).line l = s.line l := coded_line (s := marked s tag) 0x03 l
  have moved : abortedEarly (coded 0x03 s) l tag d y = withCommand { s.command with code := 0x03 } (abortedEarly s l tag d y) := by
    cases l <;> rfl
  have ended : (coded 0x03 s).abortActive tag =
      withCommand { s.command with code := 0x03 } ((abortedEarly s l tag d y).select l) := by
    have owned : (coded 0x03 s).txnTag ((coded 0x03 s).slot tag).line = some tag := by
      rw [← inHand, ← mine]
      exact txnTag_congr (by rw [coded_line])
    rw [abortActive_eq, if_pos owned]
    have here : ((coded 0x03 s).slot tag).line = l := mine
    rw [here, endEarly_of_waits (by rw [held]; exact waits),
      finishTxn_marked here (by rw [line]; exact txn) request drop notOk, moved, select_withCommand]
  have shown : (((abortedEarly s l tag d y).select l).slot tag).state = .done := by
    have queues : ((abortedEarly s l tag d y).line l).urgent ++ ((abortedEarly s l tag d y).line l).normal =
        (s.line l).urgent ++ (s.line l).normal := by cases l <;> rfl
    have out : tag ∉ ((abortedEarly s l tag d y).line l).urgent ++ ((abortedEarly s l tag d y).line l).normal := by
      rw [queues, mem_queues agree, active]
      exact fun queued => nomatch queued.1
    have slot : (abortedEarly s l tag d y).slot tag = _ := (State.setSlot_slot s ..).trans (if_pos rfl)
    rw [(chosen_select (abortedEarly s l tag d y) l).slot out, slot]
  rw [exec_abort idle, runAbort_of_active (s := coded 0x03 s) named active, ended, slot_withCommand, shown]
  rfl

end

/-- Settles O34: what an ABORT of an ACTIVE request ends early is its transaction, with the outcome ABORTED whatever else R59 would
have named; the selection after it takes only requests that are queued. -/
theorem retireAndAbort : Obligations.RetireAndAbort := by
  unfold Obligations.RetireAndAbort
  refine ⟨fun s idle => ⟨retire_badTag idle, fun tag named => ⟨retire_notDone idle named, fun isDone =>
    ⟨retire_done idle named isDone, freeSlot_le ?_⟩⟩⟩, fun s idle => ⟨abort_badTag idle, fun tag named =>
    ⟨abort_refused idle named, abort_inFlight idle named, fun y d waits agree txn request drop notOk => ?_,
      fun queued => ?_⟩⟩⟩
  · exact congrArg (·.state) ((State.setSlot_slot ..).trans (if_pos rfl))
  · exact ⟨abortedEarly s (s.slot tag).line tag d y, abort_early idle named rfl waits agree txn request drop notOk, rfl,
      fun b => pooled_get ..⟩
  · have aborted : exec .abort s = finish (((coded 0x03 s).completeQueued tag .aborted).done 3) :=
      (exec_abort idle).trans (congrArg finish (runAbort_of_queued (s := coded 0x03 s) named queued))
    refine ⟨_, aborted, ?_, ?_, fun g other => ?_, fun b => ?_⟩
    · have slot : (coded 0x03 s).slot tag = s.slot tag := rfl
      simp only [completeQueued_eq, State.unqueue, doneRecord, slot]
      cases (s.slot tag).line <;> rfl
    · exact (completeQueued_slot_closed (coded 0x03 s) tag .aborted tag).trans (if_pos rfl)
    · exact (completeQueued_slot_closed (coded 0x03 s) tag .aborted g).trans (if_neg other)
    · exact completeQueued_buffer (coded 0x03 s) tag .aborted b

/-! ### DROP_DISABLE (R31) -/

section

variable {s : State} {l : Line} {d : DropIx} {x : Txn}

/-- The queued requests of the drop's line that are to this drop, in the order of R96. -/
def requestsTo (s : State) (d : DropIx) : List Tag :=
  ((s.line (s.drop d).line).urgent ++ (s.line (s.drop d).line).normal).filter fun g => decide ((s.slot g).drop = d)

/-- The drop is DISABLED, its change told, its queued requests complete (R31). -/
def disabling (s : State) (d : DropIx) : State :=
  completions .dropDisabled (requestsTo s d) ((s.modDrop d Drop.disable).postDropState d .disabled (s.drop d).state)

theorem disableDrop_eq (s : State) (d : DropIx) : s.disableDrop d =
    if (disabling s d).txnDrop (s.drop d).line = some d then (disabling s d).endEarly (s.drop d).line else disabling s d := by
  have told : ((s.modDrop d Drop.disable).postDropState d .disabled (s.drop d).state).completeAll (s.drop d).line
      (fun x => x.drop = d) .dropDisabled = disabling s d := by
    unfold State.completeAll disabling completions requestsTo
    cases (s.drop d).line <;> rfl
  unfold State.disableDrop
  simp only [told]

theorem disabling_drop (s : State) (d : DropIx) : (disabling s d).drop d = (s.drop d).disable := by
  have drops := completions_drops (o := .dropDisabled) (requestsTo s d)
    ((s.modDrop d Drop.disable).postDropState d .disabled (s.drop d).state)
  refine (congrArg (·[d.val]) drops).trans ?_
  exact (State.modDrop_drop ..).trans (if_pos rfl)

theorem disabling_line (s : State) (d : DropIx) (k : Line) :
    ∃ u n, (disabling s d).line k = { s.line k with urgent := u, normal := n } := by
  obtain ⟨u, n, line⟩ := completions_line (o := .dropDisabled) (requestsTo s d)
    ((s.modDrop d Drop.disable).postDropState d .disabled (s.drop d).state) k
  refine ⟨u, n, line.trans ?_⟩
  cases k <;> rfl

theorem disabling_slot (s : State) (d : DropIx) (g : Tag) :
    (disabling s d).slot g = if g ∈ requestsTo s d then closed .dropDisabled (s.slot g) else s.slot g :=
  completions_slot (requestsTo s d) _ g

theorem agree_disabling (agree : s.QueuesAgree) (d : DropIx) : (disabling s d).QueuesAgree := by
  have told : ((s.modDrop d Drop.disable).postDropState d .disabled (s.drop d).state).QueuesAgree :=
    agree.of_same rfl fun k => by cases k <;> exact ⟨rfl, rfl, rfl⟩
  exact agree_foldl told ((nodup_queues agree _).filter _)
    (fun g listed => ((mem_queues agree).mp (List.mem_filter.mp listed).1).1) .dropDisabled

theorem mem_requestsTo (agree : s.QueuesAgree) {g : Tag} : g ∈ requestsTo s d ↔
    ((s.slot g).state = .queued ∧ (s.slot g).line = (s.drop d).line) ∧ (s.slot g).drop = d := by
  unfold requestsTo
  rw [List.mem_filter, mem_queues agree, decide_eq_true_iff]

/-- An early end does no more to a drop that is owed no extra poll than to report the end of a transaction to it. -/
theorem endEarly_drop (unowed : (s.drop d).attention = false) : (s.endEarly l).drop d = s.drop d ∨
    ∃ o began, (s.endEarly l).drop d = dropAfterEnd (s.drop d) o began := by
  have ended : ((s.finishTxn l).select l).drop d = s.drop d ∨
      ∃ o began, ((s.finishTxn l).select l).drop d = dropAfterEnd (s.drop d) o began := by
    have still : ((s.finishTxn l).drop d).attention = false := by
      rcases finishTxn_drop s l d with same | ⟨o, began, same⟩ <;> rw [same] <;> exact unowed
    rcases (chosen_select (s.finishTxn l) l).drop d with kept | ⟨owed, -⟩
    · rw [kept]
      exact finishTxn_drop s l d
    · rw [still] at owed
      cases owed
  unfold State.endEarly
  split
  iterate 2 exact ended
  all_goals exact .inl rfl

/-- The drop stays DISABLED through the early end of its transaction. -/
theorem disableDrop_drop (s : State) (d : DropIx) : ((s.disableDrop d).drop d).state = .disabled ∧
    ((s.disableDrop d).drop d).failures = 0 ∧ ((s.disableDrop d).drop d).attention = false := by
  have off := disabling_drop s d
  have unowed : ((disabling s d).drop d).attention = false := by rw [off]; rfl
  rw [disableDrop_eq]
  split
  · rcases endEarly_drop (l := (s.drop d).line) unowed with same | ⟨o, began, same⟩
    · rw [same, off]
      exact ⟨rfl, rfl, rfl⟩
    · rw [same, off]
      exact ⟨rfl, rfl, rfl⟩
  · rw [off]
    exact ⟨rfl, rfl, rfl⟩

/-- Slots of requests that are over stay through an early end. -/
theorem endEarly_slot (agree : s.QueuesAgree) {g : Tag} (isDone : (s.slot g).state = .done) :
    (s.endEarly l).slot g = s.slot g := by
  have other : s.txnTag l ≠ some g := fun inHand => by
    have active := (agree.2 l g inHand).1
    rw [isDone] at active
    cases active
  have kept := finishTxn_slot_other other
  have still : (s.finishTxn l).QueuesAgree := agree_moves (Moves.finishTxn (.refl s)) agree
  have out : g ∉ ((s.finishTxn l).line l).urgent ++ ((s.finishTxn l).line l).normal := by
    rw [mem_queues still, kept, isDone]
    exact fun queued => nomatch queued.1
  have ended : ((s.finishTxn l).select l).slot g = s.slot g := ((chosen_select _ l).slot out).trans kept
  unfold State.endEarly
  split
  iterate 2 exact ended
  all_goals rfl

theorem disableDrop_slot (agree : s.QueuesAgree) {g : Tag} (queued : (s.slot g).state = .queued) (theirs : (s.slot g).drop = d)
    (here : (s.slot g).line = (s.drop d).line) : (s.disableDrop d).slot g = closed .dropDisabled (s.slot g) := by
  have slot := (disabling_slot s d g).trans (if_pos ((mem_requestsTo agree).mpr ⟨⟨queued, here⟩, theirs⟩))
  rw [disableDrop_eq]
  split
  · rw [endEarly_slot (agree_disabling agree d) (by rw [slot]; rfl), slot]
  · exact slot

/-- A transaction to the drop that has no attempt in flight ends DROP_DISABLED (R31, R59). -/
theorem disabling_ending (theirs : x.drop = some d) (notOk : x.lastOutcome ≠ .ok) (notAborted : s.abortPending x = false) :
    (disabling s d).ending (s.drop d).line x = .over .dropDisabled := by
  have pending : (disabling s d).abortPending x = false := by
    unfold State.abortPending at notAborted ⊢
    split
    · next g source =>
      simp only [source] at notAborted
      rw [disabling_slot]
      split
      · rfl
      · exact notAborted
    all_goals rfl
  have off : (disabling s d).dropEnabled x = false := by
    unfold State.dropEnabled
    rw [theirs]
    dsimp only
    rw [disabling_drop]
    rfl
  unfold State.ending
  simp only [notOk, if_false, pending, Bool.false_eq_true, off, Bool.not_false, if_true]

theorem disabling_txn (d : DropIx) (k : Line) : ((disabling s d).line k).ctl = (s.line k).ctl := by
  obtain ⟨u, n, line⟩ := disabling_line s d k
  rw [line]

/-- What the early end of a transaction to the drop leaves: its end report, its request complete, and no transaction to the drop in
hand (R31, R59). -/
theorem disableDrop_early (agree : s.QueuesAgree) (theirs : x.drop = some d)
    (txn : (s.line (s.drop d).line).ctl.txn = some x)
    (waits : (s.line (s.drop d).line).ctl.state = .guard ∨ (s.line (s.drop d).line).ctl.state = .backoff)
    (notOk : x.lastOutcome ≠ .ok) (notAborted : s.abortPending x = false) :
    (s.disableDrop d).drop d = dropAfterEnd (s.drop d).disable .dropDisabled (0 < x.attempts) ∧
    (((s.disableDrop d).line (s.drop d).line).ctl.txn = none ∨ ((s.disableDrop d).line (s.drop d).line).ctl.state = .guard ∧
      ((s.disableDrop d).line (s.drop d).line).ctl.txn.bind (·.drop) ≠ some d) ∧
    ∀ g, x.request = some g →
      ((s.disableDrop d).slot g).state = .done ∧ ((s.disableDrop d).slot g).outcome = .dropDisabled := by
  have ctl := disabling_txn (s := s) d (s.drop d).line
  have inHand : ((disabling s d).line (s.drop d).line).ctl.txn = some x := by rw [ctl, txn]
  have owned : (disabling s d).txnDrop (s.drop d).line = some d := by
    unfold State.txnDrop
    rw [inHand, Option.bind_some, theirs]
  have ended : s.disableDrop d = ((disabling s d).finishTxn (s.drop d).line).select (s.drop d).line := by
    rw [disableDrop_eq, if_pos owned, endEarly_of_waits (by rw [ctl]; exact waits)]
  have ends := disabling_ending theirs notOk notAborted
  have report := finishTxn_drop_of_over inHand ends d
  rw [if_pos theirs, disabling_drop] at report
  have slots := finishTxn_slot_of_over inHand ends
  have agrees := agree_moves (Moves.finishTxn (.refl _) (l := (s.drop d).line)) (agree_disabling agree d)
  have chosen := chosen_select ((disabling s d).finishTxn (s.drop d).line) (s.drop d).line
  rw [← ended] at chosen
  have unowed : (((disabling s d).finishTxn (s.drop d).line).drop d).attention = false := by rw [report]; rfl
  refine ⟨?_, chosen.not_disabled ?_ ?_ unowed fun g queued same => ?_, fun g request => ?_⟩
  · rcases chosen.drop d with kept | ⟨owed, -⟩
    · rw [kept, report]
    · rw [unowed] at owed
      cases owed
  · rw [finishTxn_over inHand ends]
    cases (s.drop d).line <;> rfl
  · rw [report]
    rfl
  · obtain ⟨isQueued, here⟩ := (mem_queues agrees).mp queued
    rw [slots] at isQueued here same
    split at isQueued
    · cases isQueued
    · next other =>
      rw [if_neg other, disabling_slot] at here same
      rw [disabling_slot] at isQueued
      split at isQueued
      · cases isQueued
      · next out =>
        rw [if_neg out] at here same
        exact out ((mem_requestsTo agree).mpr ⟨⟨isQueued, here⟩, same⟩)
  · have slot := (slots g).trans (if_pos request)
    have out : g ∉ (((disabling s d).finishTxn (s.drop d).line).line (s.drop d).line).urgent ++
        (((disabling s d).finishTxn (s.drop d).line).line (s.drop d).line).normal := by
      rw [mem_queues agrees, slot]
      exact fun queued => nomatch queued.1
    rw [chosen.slot out, slot]
    exact ⟨rfl, rfl⟩

/-- With an attempt in flight the transaction to the drop goes on (R31). -/
theorem disableDrop_inFlight (flying : (s.line (s.drop d).line).ctl.state.inFlight = true) : s.disableDrop d = disabling s d := by
  rw [disableDrop_eq, endEarly_of_inFlight (by rw [disabling_txn]; exact flying), ite_self]

/-- DROP_STATE of the disabled drop comes first (R31). -/
theorem disableDrop_told (s : State) (d : DropIx) :
    (s.events.post { kind := .dropState, line := some (s.drop d).line, drop := some d, tag := none, code := 0
                     detail := (s.drop d).state.code, stamp := s.clock.timestamp }).queue <+: (s.disableDrop d).events.queue := by
  have told : ((s.modDrop d Drop.disable).postDropState d .disabled (s.drop d).state).events = s.events.post
      { kind := .dropState, line := some (s.drop d).line, drop := some d, tag := none, code := 0
        detail := (s.drop d).state.code, stamp := s.clock.timestamp } := by
    have line : ((s.modDrop d Drop.disable).drop d).line = (s.drop d).line := by
      rw [State.modDrop_drop, if_pos rfl]
      rfl
    unfold State.postDropState State.post
    rw [line]
    rfl
  have completed := completions_untouched (o := .dropDisabled) (requestsTo s d)
    ((s.modDrop d Drop.disable).postDropState d .disabled (s.drop d).state)
  rw [← told, disableDrop_eq]
  split
  · exact (untouched_endEarly completed _).events
  · exact completed.events

theorem exec_dropDisable (idle : s.idle) : exec .dropDisable s = finish (coded 0x11 s).runDropDisable :=
  congrArg finish (startCommand_of_idle idle ..)

end

/-- Settles O36: the drop is off and its queued requests are over before its transaction is looked at, and the selection after that
transaction's early end finds nothing for the drop. -/
theorem dropDisableCompletesQueued : Obligations.DropDisableCompletesQueued := by
  unfold Obligations.DropDisableCompletesQueued
  refine fun s idle => ⟨fun bad => ?_, fun d named => ?_⟩
  · have refused : (coded 0x11 s).runDropDisable = (coded 0x11 s).refuse .badDrop := by
      unfold State.runDropDisable State.withDrop
      rw [dropOf_eq_none (b := (coded 0x11 s).bus.arg0) bad]
    rw [exec_dropDisable idle, refused, finish_refuse_coded idle]
  · have found : dropOf (coded 0x11 s).bus.arg0 = some d := dropOf_eq_some named
    have judged : (coded 0x11 s).runDropDisable = if (s.drop d).enabled then ((coded 0x11 s).disableDrop d).done 0
        else (coded 0x11 s).refuse .notEnabled := by
      unfold State.runDropDisable State.withDrop
      rw [found]
      rfl
    refine ⟨fun off => ?_, fun on => ?_⟩
    · rw [exec_dropDisable idle, judged, if_neg (by simp [Drop.enabled, off]), finish_refuse_coded idle]
    · have answer : exec .dropDisable s = .next (((coded 0x11 s).disableDrop d).done 0).driveIrq := by
        rw [exec_dropDisable idle, judged, if_pos (by simp [Drop.enabled, on])]
        rfl
      have untouched := disableDrop_untouched (coded 0x11 s) d
      obtain ⟨state, failures, attention⟩ := disableDrop_drop (coded 0x11 s) d
      have line (k : Line) : (coded 0x11 s).line k = s.line k := coded_line ..
      have agrees (agree : s.QueuesAgree) := agree_coded agree 0x11
      refine ⟨_, answer, done_command untouched.command 0, state, failures, attention, untouched.config, ?_,
        fun agree g queued theirs here => ?_, fun x txn theirs => ⟨fun flying => ?_, fun waits notOk notAborted agree => ?_⟩,
        untouched.bus, untouched.clock, untouched.staging, untouched.sequence, untouched.opened⟩
      · exact disableDrop_told (coded 0x11 s) d
      · have slot := disableDrop_slot (agrees agree) queued theirs here
        exact ⟨congrArg (·.state) slot, congrArg (·.outcome) slot⟩
      · have kept := disableDrop_inFlight (s := coded 0x11 s) (d := d) (by rw [line]; exact flying)
        have off := disabling_drop (coded 0x11 s) d
        have ctl := disabling_txn (s := coded 0x11 s) d (s.drop d).line
        rw [kept, done_line, ctl, line]
        exact ⟨rfl, congrArg (·.lastOutcome) off, congrArg (·.toggle) off⟩
      · obtain ⟨report, hand, request⟩ := disableDrop_early (s := coded 0x11 s) (agrees agree) theirs (by rw [line]; exact txn)
          (by rw [line]; exact waits) notOk notAborted
        rw [dropAfterEnd_aborted _ _ _ (.inr rfl)] at report
        refine ⟨congrArg (·.lastOutcome) report, (congrArg (·.toggle) report).trans ?_, ?_, fun g source => request g ?_⟩
        · simp only [decide_eq_true_eq]
          rfl
        · rw [done_line]
          exact hand
        · rw [Txn.request, source]

end Sys2Proof.Proofs.EarlyEnds

/-! A tick and what it advances (R151, R67, R137, R63, R115). -/

namespace Sys2Proof.Proofs.Ticks

open Sys2Proof Sys2Proof.Machine Sys2Proof.Laws Sys2Proof.Proofs.Rows Sys2Proof.Proofs.Work Sys2Proof.Proofs.Invariants
open Sys2Proof.Proofs.LineRows Sys2Proof.Proofs.RoleEnds Sys2Proof.Proofs.Selection Sys2Proof.Proofs.Selected
open Sys2Proof.Proofs.EventQueue Sys2Proof.Proofs.OpenBuffer

/-! ### What a selection leaves alone -/

section

variable {s t : State} {l k : Line}

theorem buffers_of_chosen (chosen : Chosen l s t) : t.buffers = s.buffers := by
  have booked {u : State} (h : Booked l s u) : u.buffers = s.buffers := by
    obtain ⟨c, b, n, v, rfl⟩ := h
    cases l <;> rfl
  have guard (u : State) (x : Txn) : (u.enterGuard l x).buffers = u.buffers := by cases l <;> rfl
  cases chosen with
  | nothing h => exact booked h
  | request h g _ =>
    rw [startRequest_closed, guard, ← booked h]
    exact State.modLine_buffers ..
  | extra d _ => exact guard ..
  | poll h d _ | sync h => exact (guard ..).trans (booked h)
  | pause h n =>
    refine Eq.trans ?_ (booked h)
    cases l <;> rfl

theorem ctl_of_chosen (chosen : Chosen l s t) (other : k ≠ l) : (t.line k).ctl = (s.line k).ctl := by
  have booked {u : State} (h : Booked l s u) : u.line k = s.line k := by
    obtain ⟨c, b, n, v, rfl⟩ := h
    refine Eq.trans (b := (s.setLine l _).line k) rfl ?_
    rw [State.setLine_line, if_neg other]
  have guard (u : State) (x : Txn) : (u.enterGuard l x).line k = u.line k := by
    unfold State.enterGuard
    rw [State.modLine_line, if_neg other]
  cases chosen with
  | nothing h => rw [booked h]
  | request h g _ =>
    obtain ⟨a, b, c, line⟩ := startRequest_line _ l k g
    rw [line, booked h]
    exact if_neg other
  | extra d _ => exact congrArg (·.ctl) (guard ..)
  | poll h d _ | sync h => exact congrArg (·.ctl) ((guard ..).trans (booked h))
  | pause h n =>
    rw [← booked h]
    unfold State.startPause State.countPerformed
    rw [State.modCtl_eq, State.modLine_line, if_neg other, State.modCycle_eq, State.modLine_line, if_neg other]

theorem tells_moves (moves : Moves l s t) : Tells s.events t.events := by
  induction moves with
  | refl => exact .refl
  | tail _ move ih => exact ih.trans (tells_turn (.move move))

theorem tells_select (s : State) (l : Line) : Tells s.events (s.select l).events := tells_moves (Moves.select (.refl s))

/-- The head's age stays while records only join behind it (R160). -/
theorem headAge_of_tells {u v : EventUnit} (tells : Tells u v) (head : u.queue ≠ []) :
    v.headAge = u.headAge ∧ v.queue ≠ [] := by
  induction tells with
  | refl => exact ⟨rfl, head⟩
  | @tail w x _ told ih =>
    obtain ⟨age, still⟩ := ih
    rw [← age]
    have raised (u : EventUnit) (b : SummaryBit) : (u.raise b).headAge = u.headAge ∧ (u.raise b).queue = u.queue := by
      unfold EventUnit.raise
      split <;> exact ⟨rfl, rfl⟩
    cases told with
    | posted r =>
      unfold EventUnit.post
      split
      · exact ⟨rfl, still⟩
      · split
        · exact ⟨if_neg (by simpa using still), by simp⟩
        · exact ⟨(raised ..).1, by rw [(raised ..).2]; exact still⟩
    | raised b => exact ⟨(raised ..).1, by rw [(raised ..).2]; exact still⟩

end

/-! ### The counts (R67, R137, R63, R87) -/

section

variable {s : State} {l k : Line} {n : Nat}

theorem tickTimer_eq {e : LineEngine} (taken : e.cycle.expiryDue = false) : e.tickTimer = { e with cycle := { e.cycle with
    timer := if e.role = .off then e.cycle.timer else if e.params.period ≤ e.cycle.timer + 1 then 0 else e.cycle.timer + 1
    expiryDue := decide (e.role ≠ .off ∧ e.params.period ≤ e.cycle.timer + 1) } } := by
  unfold LineEngine.tickTimer
  by_cases off : e.role = .off
  · simp only [off, if_true, ne_eq, not_true_eq_false, false_and, decide_false]
    rw [← taken, ← off]
  · by_cases due : e.params.period ≤ e.cycle.timer + 1
    · simp only [off, due, if_true, if_false, ne_eq, not_false_eq_true, and_self, decide_true]
    · simp only [off, due, if_false, and_false, decide_false]
      rw [← taken]

theorem tickSilence_eq {e : LineEngine} (judged : e.silence.due = false) : e.tickSilence = { e with
    silence := if e.role = .standby then { e.silence with
        count := satInc e.silence.count
        due := decide (e.params.takeoverSilence ≠ 0 ∧ e.silence.flag = false ∧
          e.params.takeoverSilence ≤ (satInc e.silence.count).toNat) }
      else e.silence } := by
  unfold LineEngine.tickSilence
  split
  · refine congrArg (fun due => { e with silence := { e.silence with count := satInc e.silence.count, due } }) ?_
    rw [judged, Bool.eq_iff_iff]
    simp only [ne_eq, ge_iff_le, Bool.false_or, Bool.and_eq_true, decide_eq_true_eq, Bool.not_eq_true', decide_not,
      decide_eq_false_iff_not, and_assoc]
    exact and_congr_right fun _ => and_comm
  · rfl

theorem tickBackoff_eq (e : LineEngine) : e.tickBackoff = { e with
    ctl := if e.ctl.state = .backoff then { e.ctl with backoffCount := e.ctl.backoffCount + 1 } else e.ctl } := by
  unfold LineEngine.tickBackoff
  split <;> rfl

theorem tick_engine {e : LineEngine} (n : Nat) (taken : e.cycle.expiryDue = false) (judged : e.silence.due = false) :
    ({ e with stamping := stampAfter n e.stamping } : LineEngine).tick = tickedLine n e := by
  unfold LineEngine.tick
  rw [tickTimer_eq (by exact taken), tickSilence_eq (by exact judged), tickBackoff_eq]
  rfl

/-- With nothing left from the tick before, there is nothing to settle. -/
theorem settleTick_of_none (taken : (s.line l).cycle.expiryDue = false) (judged : (s.line l).silence.due = false)
    (waits : (s.line l).ctl.state = .backoff → (s.line l).ctl.backoffCount < (s.line l).ctl.backoffLength) :
    s.settleTick l = s := by
  have expiry : s.takeExpiry l = s := if_neg (by simp [taken])
  have backoff : s.takeBackoff l = s := by
    have still : (s.line l).ctl.backoffOver = false := by
      unfold Controller.backoffOver
      by_cases state : (s.line l).ctl.state = .backoff
      · simp [state, waits state]
      · simp [state]
    unfold State.takeBackoff
    split
    · exact if_neg (by simp [still])
    · rfl
  have silence : s.takeSilence l = s := if_neg (by simp [judged])
  unfold State.settleTick
  rw [expiry, backoff, silence]

theorem tickStamp_line (s : State) (l : Line) (n : Nat) (k : Line) : (s.tickStamp l n).line k =
    if k = l then { s.line k with stamping := stampAfter n (s.line k).stamping } else s.line k := by
  unfold State.tickStamp
  cases stamping : (s.line l).stamping with
  | none =>
    by_cases same : k = l
    · subst same
      simp only [if_true, stamping, stampAfter]
      rw [← stamping]
    · simp only [same, if_false]
  | some x =>
    have line (u : State) (p : Prop) [Decidable p] (f : Buffer → Buffer) :
        (if p then u.modBuffer x.buffer f else u).line k = u.line k := by
      split <;> cases k <;> rfl
    dsimp only
    rw [line, State.modLine_line]
    by_cases same : k = l
    · subst same
      simp only [if_true, stamping, stampAfter]
    · simp only [same, if_false]

theorem tickStamp_closed (s : State) (l : Line) (n : Nat) : s.tickStamp l n =
    { s.setLine l { s.line l with stamping := stampAfter n (s.line l).stamping } with buffers := (s.tickStamp l n).buffers } := by
  have stamping : ((s.tickStamp l n).line l).stamping = stampAfter n (s.line l).stamping := by
    rw [tickStamp_line, if_pos rfl]
  conv_lhs => rw [State.tickStamp_eq, stamping, modLine_eq]

theorem tickStamp_shown (s : State) (l : Line) (n : Nat) (b : BufIx) : (s.tickStamp l n).buffer b =
    if (s.buffer b).place = .ready ∧ (s.buffer b).line = l ∧
        (s.line l).stamping.any (fun x => decide (x.buffer = b ∧ n ≤ x.left)) = true then
      { s.buffer b with stamp := s.clock.timestamp }
    else s.buffer b := by
  cases stamping : (s.line l).stamping with
  | none => simp [State.tickStamp_of_none stamping]
  | some x =>
    rw [State.tickStamp_buffer stamping]
    refine if_congr ?_ rfl rfl
    simp only [Option.any_some, decide_eq_true_eq]
    constructor
    · exact fun ⟨same, lasts, ready, here⟩ => ⟨ready, here, same.symm, lasts⟩
    · exact fun ⟨ready, here, same, lasts⟩ => ⟨same.symm, lasts, ready, here⟩

/-- The state in which a tick has been counted, before its selections (R151). -/
def ticked (s : State) : State :=
  let counted := s.modClock fun c => { c with timestamp := c.timestamp + 1, prescaler := 0 }
  let stamped := (counted.tickStamp .a s.clock.toTick).tickStamp .b s.clock.toTick
  (stamped.modLines fun _ e => e.tick).modEvents (·.tick)

theorem tick_eq (quiet : ∀ l, (s.line l).cycle.expiryDue = false ∧ (s.line l).silence.due = false ∧
    ((s.line l).ctl.state = .backoff → (s.line l).ctl.backoffCount < (s.line l).ctl.backoffLength)) :
    s.tick = ((ticked s).select .a).select .b := by
  have settled : s.eachLine State.settleTick = s := by
    obtain ⟨takenA, judgedA, waitsA⟩ := quiet .a
    obtain ⟨takenB, judgedB, waitsB⟩ := quiet .b
    have first := settleTick_of_none takenA judgedA waitsA
    have second := settleTick_of_none takenB judgedB waitsB
    unfold State.eachLine bothLines
    rw [List.foldl_cons, List.foldl_cons, List.foldl_nil, first, second]
  unfold State.tick
  rw [settled]
  rfl

theorem ticked_eq (quiet : ∀ l, (s.line l).cycle.expiryDue = false ∧ (s.line l).silence.due = false) : ticked s = { s with
    lineA := tickedLine s.clock.toTick s.lineA, lineB := tickedLine s.clock.toTick s.lineB, buffers := (ticked s).buffers
    clock := { s.clock with timestamp := s.clock.timestamp + 1, prescaler := 0 }
    events := if s.events.queue = [] then s.events else { s.events with headAge := min 255 (s.events.headAge + 1) } } := by
  obtain ⟨takenA, judgedA⟩ := quiet .a
  obtain ⟨takenB, judgedB⟩ := quiet .b
  have events : s.events.tick = if s.events.queue = [] then s.events
      else { s.events with headAge := min 255 (s.events.headAge + 1) } := by
    unfold EventUnit.tick
    simp only [List.isEmpty_iff]
  have engineA : ({ s.lineA with stamping := stampAfter s.clock.toTick s.lineA.stamping } : LineEngine).tick =
      tickedLine s.clock.toTick s.lineA := tick_engine _ takenA judgedA
  have engineB : ({ s.lineB with stamping := stampAfter s.clock.toTick s.lineB.stamping } : LineEngine).tick =
      tickedLine s.clock.toTick s.lineB := tick_engine _ takenB judgedB
  have first := tickStamp_closed (s.modClock fun c => { c with timestamp := c.timestamp + 1, prescaler := 0 }) .a s.clock.toTick
  have second := tickStamp_closed ((s.modClock fun c => { c with timestamp := c.timestamp + 1, prescaler := 0 }).tickStamp .a
    s.clock.toTick) .b s.clock.toTick
  have buffers : (ticked s).buffers = (((s.modClock fun c => { c with timestamp := c.timestamp + 1, prescaler := 0 }).tickStamp .a
    s.clock.toTick).tickStamp .b s.clock.toTick).buffers := rfl
  rw [buffers, ← engineA, ← engineB, ← events]
  unfold ticked
  dsimp only
  generalize (((s.modClock fun c => { c with timestamp := c.timestamp + 1, prescaler := 0 }).tickStamp .a
    s.clock.toTick).tickStamp .b s.clock.toTick) = stamped at second
  rw [second, first]
  rfl

theorem ticked_buffer (s : State) (b : BufIx) : (ticked s).buffer b =
    if (s.buffer b).place = .ready ∧ (s.line (s.buffer b).line).stamping.any
        (fun x => decide (x.buffer = b ∧ s.clock.toTick ≤ x.left)) = true then
      { s.buffer b with stamp := s.clock.timestamp + 1 }
    else s.buffer b := by
  let counted := s.modClock fun c => { c with timestamp := c.timestamp + 1, prescaler := 0 }
  have shown : (ticked s).buffer b = ((counted.tickStamp .a s.clock.toTick).tickStamp .b s.clock.toTick).buffer b := rfl
  have first := tickStamp_shown counted .a s.clock.toTick b
  have before : counted.buffer b = s.buffer b := rfl
  have clock : (counted.tickStamp .a s.clock.toTick).clock.timestamp = s.clock.timestamp + 1 := by
    rw [tickStamp_closed]
    rfl
  have other : (counted.tickStamp .a s.clock.toTick).line .b = s.line .b := by
    rw [tickStamp_line]
    rfl
  rw [shown, tickStamp_shown, other, clock]
  cases here : (s.buffer b).line with
  | a =>
    have away : ¬ ((counted.tickStamp .a s.clock.toTick).buffer b).line = .b := by
      rw [first, before]
      split <;> exact fun inB : (s.buffer b).line = .b => by rw [here] at inB; cases inB
    rw [if_neg fun stamps => away stamps.2.1, first, before]
    exact if_congr (and_congr_right fun _ => and_iff_right here) rfl rfl
  | b =>
    have kept : (counted.tickStamp .a s.clock.toTick).buffer b = s.buffer b := by
      rw [first, before]
      exact if_neg fun ⟨_, inA, _⟩ => by rw [here] at inA; cases inA
    rw [kept]
    exact if_congr (and_congr_right fun _ => and_iff_right here) rfl rfl

end

/-- Settles O41: with nothing left to settle a tick counts on both lines at once, and the selections after it move none of the
counts. -/
theorem tickAdvancesCounts : Obligations.TickAdvancesCounts := by
  unfold Obligations.TickAdvancesCounts
  refine ⟨fun s => ?_, fun s b rest left idle shut ready stamping => ?_⟩
  · intro n quiet
    have counted := ticked_eq fun l => ⟨(quiet l).1, (quiet l).2.1⟩
    have answer : exec .tick s = .next (((ticked s).select .a).select .b).driveIrq := congrArg finish (tick_eq quiet)
    have untouchedA := (Untouched.refl (ticked s)).select .a
    have untouchedB := (Untouched.refl ((ticked s).select .a)).select .b
    have untouched := untouchedA.trans untouchedB
    have only (l : Line) : OnlyWork l (ticked s) (((ticked s).select .a).select .b) :=
      (OnlyWork.select _ .a).trans (OnlyWork.select _ .b)
    have line (l : Line) : (ticked s).line l = tickedLine n (s.line l) := by
      rw [counted]
      cases l <;> rfl
    have host : (ticked s).clock = { s.clock with timestamp := s.clock.timestamp + 1, prescaler := 0 } ∧
        (ticked s).bus = s.bus ∧ (ticked s).command = s.command ∧ (ticked s).staging = s.staging ∧
        (ticked s).sequence = s.sequence ∧ (ticked s).opened = s.opened ∧ (ticked s).drops = s.drops ∧
        (ticked s).events = if s.events.queue = [] then s.events
          else { s.events with headAge := min 255 (s.events.headAge + 1) } := by
      rw [counted]
      exact ⟨rfl, rfl, rfl, rfl, rfl, rfl, rfl, rfl⟩
    obtain ⟨clock, bus, command, staging, sequence, opened, drops, events⟩ := host
    have queue : (ticked s).events.queue = s.events.queue := by
      rw [events]
      split <;> rfl
    have buffers : (((ticked s).select .a).select .b).buffers = (ticked s).buffers :=
      (buffers_of_chosen (chosen_select _ .b)).trans (buffers_of_chosen (chosen_select _ .a))
    refine ⟨ticked s, counted, answer, ?_⟩
    have backoff (l : Line) (waits : (s.line l).ctl.state = .backoff) :
        ((((ticked s).select .a).select .b).line l).ctl = ((ticked s).line l).ctl := by
      have state : ((ticked s).line l).ctl.state = .backoff := by
        rw [line]
        unfold tickedLine
        simp only [waits, if_true]
      have chosenA := chosen_select (ticked s) .a
      have chosenB := chosen_select ((ticked s).select .a) .b
      cases l with
      | a =>
        rw [ctl_of_chosen chosenB (by decide), select_off_boundary (.inr (by rw [state]; decide))]
      | b =>
        have kept := ctl_of_chosen (k := .b) chosenA (by decide)
        rw [select_off_boundary (.inr (by rw [kept, state]; decide)), kept]
    have aged (some : s.events.queue ≠ []) :
        (((ticked s).select .a).select .b).events.headAge = min 255 (s.events.headAge + 1) := by
      have tells := (tells_select (ticked s) .a).trans (tells_select ((ticked s).select .a) .b)
      rw [(headAge_of_tells tells (queue ▸ some)).1, events, if_neg some]
    generalize ((ticked s).select .a).select .b = t at *
    refine ⟨_, answer, buffers, untouched.clock.trans clock, fun l => ?_, fun b => ?_, fun l => ?_,
      fun some => ?_, ?_, untouched.bus.trans bus, untouched.command.trans command, untouched.staging.trans staging,
      untouched.sequence.trans sequence, untouched.opened.trans opened, fun d => ?_⟩
    · rw [State.driveIrq_line, (only l).stamping, line]
      rfl
    · exact (congrArg (·[b.val]) buffers).trans (ticked_buffer s b)
    · rw [State.driveIrq_line, (only l).role, (only l).params, (only l).timer, (only l).expiryDue, (only l).silence, line]
      refine ⟨rfl, rfl, rfl, decide_eq_true_iff, ?_, ?_, ?_, fun waits => ?_⟩
      · unfold tickedLine
        dsimp only
        split <;> rfl
      · unfold tickedLine
        dsimp only
        split <;> rfl
      · unfold tickedLine
        dsimp only
        by_cases standby : (s.line l).role = .standby
        · simp only [standby, if_true, decide_eq_true_eq, true_and]
        · simp only [standby, if_false, false_and, (quiet l).2.1, Bool.false_eq_true]
      · rw [backoff l waits, line]
        exact congrArg Controller.backoffCount (if_pos waits)
    · exact aged some
    · rw [← queue]
      exact untouched.events
    · refine (untouched.config d).trans (congrArg Drop.config ?_)
      exact congrArg (·[d.val]) drops
  · have settled : s.settleStamp b = (s.modLine (s.buffer b).line fun e => { e with stamping := none }).modBuffer b fun y =>
        { y with stamp := y.stamp + BitVec.ofNat 32 (s.clock.ticksIn left) } := by
      unfold State.settleStamp
      simp only [stamping, if_true]
    have stamp : ((s.settleStamp b).buffer b).stamp = (s.buffer b).stamp + BitVec.ofNat 32 (s.clock.ticksIn left) := by
      rw [settled, State.modBuffer_buffer, if_pos rfl, State.modLine_buffer]
    have closed : ((s.settleStamp b).line (s.buffer b).line).stamping = none := by
      rw [settled, State.modBuffer_line, State.modLine_line, if_pos rfl]
    refine ⟨_, readyOpen_head idle ready shut, ?_, fun early => ?_, fun n some from_ until_ => ?_⟩
    · refine Eq.trans ?_ closed
      cases (s.buffer b).line <;> rfl
    · refine stamp.trans ?_
      rw [ClockUnit.ticksIn_of_lt early]
      exact BitVec.add_zero _
    · obtain ⟨k, rfl⟩ : ∃ k, n = k + 1 := ⟨n - 1, by omega⟩
      rw [← ClockUnit.ticksIn_eq (c := s.clock) (n := left) (k := k) from_ until_]
      exact stamp

end Sys2Proof.Proofs.Ticks

/-! The reports of an attempt's end, written out (R57, R32, R33, R35, R56). -/

namespace Sys2Proof.Proofs.AttemptReports

open Sys2Proof Sys2Proof.Machine Sys2Proof.Laws Sys2Proof.Proofs.Rows Sys2Proof.Proofs.Work Sys2Proof.Proofs.LineRows
open Sys2Proof.Proofs.RoleEnds Sys2Proof.Proofs.Completions

section

variable (s : State) (l : Line) (x : Txn) (d : DropIx) (o : TxnOutcome) (a : Bool)

/-- A good reply's attention is noticed from an enabled drop (R33). -/
abbrev noticed : Prop :=
  (o = .ok ∨ o = .busy ∨ o = .noBuffer) ∧ a = true ∧ (s.drop d).state ≠ .disabled

/-- The event unit after an attempt's report (R33). -/
def toldAttention : EventUnit :=
  if noticed s d o a ∧ (s.drop d).attnPolicy = .report then
    s.events.post { kind := .dropAttention, line := some (s.drop d).line, drop := some d, tag := none, code := 0, detail := 0
                    stamp := s.clock.timestamp }
  else s.events

theorem attempt_stats (r : DropStats) : r.attempt o = { r with
    busies := if o = .busy then satInc r.busies else r.busies
    timeouts := if o = .timeout then satInc r.timeouts else r.timeouts
    replyErrors := if o = .gap ∨ o = .check ∨ o = .framing ∨ o = .length ∨ o = .unexpected then satInc r.replyErrors
                   else r.replyErrors } := by
  cases o <;> rfl

theorem good_iff : o.good = true ↔ o = .ok ∨ o = .busy ∨ o = .noBuffer := by cases o <;> decide

/-- The attempt report to a drop (R32). -/
theorem attemptReport_eq (extra : Bool) : s.attemptReport d o o.good a extra =
    { s.setDrop d (dropAfterAttempt (s.drop d) o (noticed s d o a) extra) with events := toldAttention s d o a } := by
  have drop (r : Drop) : (s.setDrop d r).drop d = r := by simp
  have again (r q : Drop) : (s.setDrop d r).setDrop d q = s.setDrop d q :=
    congrArg (fun ds => { s with drops := ds }) (Vector.set_set (hi := d.isLt) ..)
  have enabled (r : Drop) : r.enabled = true ↔ r.state ≠ .disabled := by simp [Drop.enabled]
  have hears : ((o = .ok ∨ o = .busy ∨ o = .noBuffer) ∧ a = true) ∧ (s.drop d).state ≠ .disabled ↔ noticed s d o a :=
    and_assoc
  unfold State.attemptReport State.modDrop toldAttention dropAfterAttempt
  simp only [drop, attempt_stats, Bool.and_eq_true, good_iff, enabled, hears]
  by_cases heard : noticed s d o a
  · rw [if_pos heard, decide_eq_true heard]
    simp only [and_iff_right heard, Bool.true_and]
    cases policy : (s.drop d).attnPolicy with
    | ignore =>
      simp only [reduceCtorEq, if_false, decide_false, Bool.false_and, Bool.or_false]
      rfl
    | report =>
      simp only [reduceCtorEq, if_true, decide_false, Bool.false_and, Bool.or_false, State.post]
      rfl
    | extraPoll =>
      simp only [reduceCtorEq, if_false, decide_true, Bool.true_and]
      cases extra with
      | true =>
        simp only [if_true, Bool.not_true, Bool.or_false]
        rfl
      | false =>
        simp only [Bool.false_eq_true, if_false, Bool.not_false, Bool.or_true, again]
        rfl
  · rw [if_neg heard, if_neg fun told : noticed s d o a ∧ (s.drop d).attnPolicy = .report => heard told.1,
      decide_eq_false heard, Bool.false_and, Bool.false_and, Bool.or_false]
    rfl

/-- The slots after an attempt's report (R57, R97). -/
def slotsReported : Vector Slot 16 :=
  match x.request with
  | some g => (s.setSlot g { s.slot g with attempts := x.attempts, outcome := o }).slots
  | none => s.slots

theorem reportToSlot_eq : s.reportToSlot x o = { s with slots := slotsReported s x o } := by
  unfold State.reportToSlot slotsReported Txn.request
  cases x.source <;> rfl

variable {x d} in
theorem reportAttempt_eq (goes : x.drop = some d) : s.reportAttempt x o a =
    { s.setDrop d (dropAfterAttempt (s.drop d) o (noticed s d o a) (x.source = .extraPoll)) with
      events := toldAttention s d o a, slots := slotsReported s x o } := by
  unfold State.reportAttempt State.reportToDrop
  rw [goes]
  dsimp only
  rw [attemptReport_eq, reportToSlot_eq]
  rfl

/-- The reports of an attempt's end move no buffer. -/
theorem reportAttempt_buffers : (s.reportAttempt x o a).buffers = s.buffers := by
  cases goes : x.drop with
  | some d => rw [reportAttempt_eq s o a goes]; rfl
  | none =>
    unfold State.reportAttempt State.reportToDrop
    rw [goes, reportToSlot_eq]

variable {x d} in
/-- The state in which the retry is judged (R57, R56). -/
theorem attemptReported_eq (goes : x.drop = some d) : attemptReported s l o x =
    { s.setLine l { s.line l with ctl := { (s.line l).ctl with
        txn := some (x.withAttempt o (s.line l).ctl.reply), window := .none, deciding := false } } with
      drops := (s.setDrop d (dropAfterAttempt (s.drop d) o (noticed s d o (s.line l).ctl.reply.attention)
        (x.source = .extraPoll))).drops
      slots := slotsReported s x o, buffers := pooled s.buffers (s.assembling l)
      events := toldAttention s d o (s.line l).ctl.reply.attention } := by
  unfold attemptReported
  rw [reportAttempt_eq _ _ _ (by exact goes), freeAssembling_returned, returned_eq]
  cases l <;> rfl

end

end Sys2Proof.Proofs.AttemptReports

/-! The switch to the requested clock source and the fallback to IOSC (R146 to R148). -/

namespace Sys2Proof.Proofs.ClockSwitch

open Sys2Proof Sys2Proof.Machine Sys2Proof.Laws Sys2Proof.Proofs.Rows Sys2Proof.Proofs.Work Sys2Proof.Proofs.Invariants
open Sys2Proof.Proofs.LineRows Sys2Proof.Proofs.RoleEnds Sys2Proof.Proofs.Completions Sys2Proof.Proofs.Selected
open Sys2Proof.Proofs.EventQueue Sys2Proof.Proofs.Ticks Sys2Proof.Proofs.AttemptReports Sys2Proof.Proofs.ErrorSummary

/-! ### Buffers in the pool stay there -/

/-- Every buffer in the pool of `s` is in that of `t`. -/
def FreeKept (s t : State) : Prop :=
  ∀ b, (s.buffer b).place = .free → (t.buffer b).place = .free

namespace FreeKept

variable {s t u : State} {l : Line}

theorem trans (h : FreeKept s t) (k : FreeKept t u) : FreeKept s u := fun b free => k b (h b free)

theorem of_buffers (same : t.buffers = s.buffers) : FreeKept s t := fun b free => by
  unfold State.buffer at free ⊢
  rw [same]
  exact free

theorem returned (s : State) (b : Option BufIx) : FreeKept s (s.returned b) := fun i free => by
  rw [returned_buffer]
  split
  · rfl
  · exact free

theorem complete (s : State) (g : Tag) (o : TxnOutcome) (n : Nat) (b : Bool) : FreeKept s (s.complete g o n b) := by
  rw [complete_eq]
  exact (returned s (s.heldBy g)).trans (.of_buffers (by rw [returned_eq]))

theorem completeTxn (s : State) (x : Txn) (o : TxnOutcome) : FreeKept s (s.completeTxn x o) := by
  rw [completeTxn_eq]
  split
  · exact .of_buffers rfl
  · exact FreeKept.complete _ _ _ _ _

theorem reportEnd (s : State) (x : Txn) (o : TxnOutcome) : FreeKept s (s.reportEnd x o) := by
  unfold State.reportEnd
  split
  · rw [endReport_eq]
    exact .of_buffers rfl
  · exact .of_buffers rfl

theorem finishTxn (s : State) (l : Line) : FreeKept s (s.finishTxn l) := by
  obtain ⟨-, same⟩ | ⟨x, -, ⟨g, -, same⟩ | ⟨o, same⟩⟩ := finishTxn_cases l s
  · rw [same]
    exact .of_buffers (State.modLine_buffers ..)
  · rw [same]
    unfold State.putBack
    exact .of_buffers (by simp)
  · obtain ⟨p, q, n, counted⟩ := countEntry_eq l s x o
    have entry : FreeKept s (s.countEntry l x o) := .of_buffers (by rw [counted]; exact State.modLine_buffers ..)
    rw [same]
    have reported := entry.trans (FreeKept.reportEnd _ x o)
    exact (reported.trans (FreeKept.completeTxn _ x o)).trans (.of_buffers (State.modLine_buffers ..))

theorem afterAttempt (s : State) (l : Line) (o : TxnOutcome) : FreeKept s (s.afterAttempt l o) := by
  unfold State.afterAttempt
  split
  · exact .of_buffers rfl
  · split
    · split
      · exact .of_buffers (State.modLine_buffers ..)
      · exact .of_buffers (State.modLine_buffers ..)
    · exact (finishTxn s l).trans (.of_buffers (buffers_of_chosen (chosen_select _ l)))

theorem attemptReported (s : State) (l : Line) (o : TxnOutcome) (x : Txn) : FreeKept s (attemptReported s l o x) := by
  unfold LineRows.attemptReported
  refine FreeKept.trans ?_ (.of_buffers ((reportAttempt_buffers ..).trans (State.modLine_buffers ..)))
  rw [freeAssembling_returned]
  exact FreeKept.returned _ _

end FreeKept

/-! ### A wait that is settled (R51, R134) -/

section

variable {s t u : State} {l k : Line}

/-- A line's work moves the controller of no other line. -/
theorem ctl_of_moves (moves : Moves l s t) (other : k ≠ l) : (t.line k).ctl = (s.line k).ctl := by
  induction moves with
  | refl => rfl
  | @tail v w _ move ih =>
    rw [← ih]
    cases move with
    | engine => rw [State.setLine_line, if_neg other]
    | told | drops | written | noted => cases k <;> rfl
    | freed => rw [freeAssembling_line]
    | claimed n m =>
      obtain ⟨c, line⟩ := claimAssembly_line v l k n m
      rw [line, if_neg other]
    | handed o g d a x =>
      obtain ⟨c, line⟩ := handOver_line v l k o g d a x
      rw [line, if_neg other]
    | started =>
      obtain ⟨a, b, c, line⟩ := startRequest_line v l k _
      rw [line]
      exact if_neg other
    | closed => rw [State.modCtl_eq, State.modLine_line, if_neg other, complete_line]
    | putBack =>
      obtain ⟨a, b, line⟩ := putBack_line (v.modCtl l Controller.toIdle) k _ _
      rw [line, State.modCtl_eq, State.modLine_line, if_neg other]

/-- A bit once set stays set at a post. -/
theorem post_keeps {v : EventUnit} (r : EventRecord) {n : Nat} (set : v.summary.getLsbD n = true) :
    (v.post r).summary.getLsbD n = true := by
  unfold EventUnit.post
  split
  · exact set
  · split
    · exact set
    · exact raise_keeps (u := { v with lost := min 255 (v.lost + 1) }) .eventLost set

theorem summary_of_tells {v w : EventUnit} (tells : Tells v w) {n : Nat} (set : v.summary.getLsbD n = true) :
    w.summary.getLsbD n = true := by
  induction tells with
  | refl => exact set
  | tail _ told ih =>
    cases told with
    | posted r => exact post_keeps r ih
    | raised b => exact raise_keeps b ih

/-- What settling a wait leaves of a state: the transport of every line, controllers that do not wait for a reply, empty
observers, the clock, the pool, and what the event unit has been told. -/
structure Settled (s t : State) : Prop where
  clock : t.clock = s.clock
  queue : s.events.queue <+: t.events.queue
  tells : Tells s.events t.events
  transport : ∀ l, ((t.line l).divisor, (t.line l).rx, (t.line l).reader, (t.line l).tx) =
    ((s.line l).divisor, (s.line l).rx, (s.line l).reader, (s.line l).tx)
  ctl : ∀ l, (s.line l).ctl.state ≠ .await → (t.line l).ctl = (s.line l).ctl
  observer : ∀ l, (s.line l).observer = .empty → (t.line l).observer = .empty
  free : FreeKept s t

namespace Settled

theorem refl (s : State) : Settled s s :=
  ⟨rfl, List.prefix_refl _, .refl, fun _ => rfl, fun _ _ => rfl, fun _ h => h, fun _ h => h⟩

theorem trans (h : Settled s t) (j : Settled t u) : Settled s u where
  clock := j.clock.trans h.clock
  queue := h.queue.trans j.queue
  tells := h.tells.trans j.tells
  transport l := (j.transport l).trans (h.transport l)
  ctl l not := (j.ctl l (h.ctl l not ▸ not)).trans (h.ctl l not)
  observer l empty := j.observer l (h.observer l empty)
  free := h.free.trans j.free

/-- An attempt that ends without contention. -/
theorem endAttempt (o : TxnOutcome) (quiet : o ≠ .contention) (await : (s.line l).ctl.state = .await) :
    Settled s (s.endAttempt l o) := by
  cases txn : (s.line l).ctl.txn with
  | none =>
    rw [endAttempt_none s l txn]
    exact refl s
  | some x =>
    have untouched := (Untouched.refl s).endAttempt l o
    have moves : Moves l s (s.endAttempt l o) := Moves.endAttempt (.refl s) o
    have ended : s.endAttempt l o = (attemptReported s l o x).afterAttempt l o :=
      (endAttempt_eq s l txn o).trans (if_neg quiet)
    have reported (k : Line) : (attemptReported s l o x).line k = if k = l then { s.line l with
        ctl := { (s.line l).ctl with
          txn := some (x.withAttempt o (s.line l).ctl.reply), window := .none, deciding := false } } else s.line k := by
      by_cases same : k = l
      · rw [if_pos same, same, attemptReported_line]
      · unfold LineRows.attemptReported
        rw [if_neg same, reportAttempt_line, State.modLine_line, if_neg same, freeAssembling_line]
    have only (k : Line) : OnlyWork k s (s.endAttempt l o) := by
      rw [ended]
      refine OnlyWork.trans ?_ (OnlyWork.afterAttempt ..)
      unfold OnlyWork
      rw [reported]
      split
      · next same => rw [same]; rfl
      · rfl
    refine ⟨untouched.clock, untouched.events, tells_moves moves, fun k => ?_, fun k not => ?_, fun k empty => ?_, ?_⟩
    · rw [(only k).divisor, (only k).rx, (only k).reader, (only k).tx]
    · exact ctl_of_moves moves fun same => not (same ▸ await)
    · rw [(only k).observer, empty]
    · rw [ended]
      exact (FreeKept.attemptReported s l o x).trans (FreeKept.afterAttempt _ l o)

theorem settleWait (s : State) (l : Line) : Settled s (s.settleWait l) := by
  rw [← setLine_self s l]
  by_cases waits : (s.line l).ctl.deciding = true ∧ (s.line l).ctl.state = .await
  · rw [settleWait_timeout waits.1 waits.2, setLine_self]
    exact endAttempt .timeout (by decide) waits.2
  · rw [settleWait_eq (by simpa [or_iff_not_imp_left] using waits), setLine_self]
    split
    · next observed =>
      refine ⟨by simp, by simp, tells_of_eq (by simp), fun k => ?_, fun k _ => ?_, fun k empty => ?_,
        .of_buffers (State.setLine_buffers ..)⟩
      · rw [State.setLine_line]
        split
        · next same => rw [same]
        · rfl
      · rw [State.setLine_line]
        split
        · next same => rw [same]
        · rfl
      · rw [State.setLine_line]
        split
        · next same =>
          rw [← same, empty] at observed
          cases observed
        · exact empty
    · exact refl s

end Settled

end

/-! ### The fallback before its waits are settled (R148) -/

section

variable {s : State} {l k : Line}

/-- A line other than `l` keeps its assembling buffer when that of `l` returns to the pool. -/
theorem assembling_freeAssembling (other : k ≠ l) : (s.freeAssembling l).assembling k = s.assembling k := by
  unfold State.assembling
  refine congrArg (allBuffers.find? ·) (funext fun b => decide_eq_decide.mpr ?_)
  rw [State.freeAssembling_buffer]
  split
  · next mine =>
    have place : (s.buffer b).place = .assembling l := by
      simpa using List.find?_some (p := fun b => decide ((s.buffer b).place = .assembling l)) mine
    rw [place]
    simp [Ne.symm other]
  · rfl

/-- A fallback at the observer of a line (R148, R132). -/
def leaveObserver (s : State) (l : Line) : State :=
  if (s.line l).role = .standby then s.emptyObserver l else s

theorem leaveObserver_line (s : State) (l k : Line) : (leaveObserver s l).line k =
    if k = l ∧ (s.line k).role = .standby then { s.line k with observer := .empty } else s.line k := by
  unfold leaveObserver
  by_cases same : k = l
  · subst same
    by_cases standby : (s.line k).role = .standby
    · rw [if_pos standby, if_pos ⟨rfl, standby⟩]
      unfold State.emptyObserver
      rw [State.modObserver_eq, State.modLine_line, if_pos rfl, freeAssembling_line]
    · rw [if_neg standby, if_neg fun both => standby both.2]
  · rw [if_neg fun both : k = l ∧ _ => same both.1]
    split
    · unfold State.emptyObserver
      rw [State.modObserver_eq, State.modLine_line, if_neg same, freeAssembling_line]
    · rfl

theorem leaveObserver_free (s : State) (l : Line) : FreeKept s (leaveObserver s l) := by
  unfold leaveObserver State.emptyObserver
  split
  · rw [freeAssembling_returned]
    exact (FreeKept.returned s _).trans (.of_buffers (State.modLine_buffers ..))
  · exact .of_buffers rfl

theorem leaveObserver_assembling (other : k ≠ l) : (leaveObserver s l).assembling k = s.assembling k := by
  unfold leaveObserver State.emptyObserver
  split
  · refine Eq.trans ?_ (assembling_freeAssembling other)
    unfold State.assembling
    simp only [State.modObserver_eq, State.modLine_buffer]
  · rfl

theorem leaveObserver_freed (standby : (s.line l).role = .standby) {b : BufIx} (mine : s.assembling l = some b) :
    ((leaveObserver s l).buffer b).place = .free := by
  unfold leaveObserver State.emptyObserver
  rw [if_pos standby, State.modObserver_eq, State.modLine_buffer, State.freeAssembling_buffer, if_pos mine]

/-- The state of a fallback in which the waits are still to be settled (R148, log 23). -/
def fellBack (s : State) : State :=
  let left := leaveObserver (leaveObserver ((s.modClock fun c => { c.monitorAbsent with
    effective := .iosc, requested := .iosc }).modLines fun _ e => e.fallenBack) .a) .b
  (left.post .clockFallback none none none 0 0).raise .clockFallback

/-- A fallback at the wait of a line. -/
def endWait (s : State) (l : Line) : State :=
  if (s.line l).rx.state = .waitHigh then s.settleWait l else s

theorem exec_xrefLost (enabled : s.clock.xrefEnable = true) (present : s.clock.monitor = .present)
    (effective : s.clock.effective = .xref) :
    exec .xrefLost s = .next (endWait (endWait (fellBack s) .a) .b).driveIrq := by
  have runs : (s.clock.xrefEnable && decide (s.clock.monitor ≠ .absent)) = true := by simp [enabled, present]
  have used : (decide (s.clock.effective = .xref) && decide (s.clock.monitor = .present)) = true := by simp [effective, present]
  refine congrArg finish ((if_pos runs).trans ?_)
  exact if_pos used

theorem endWait_settled (s : State) (l : Line) : Settled s (endWait s l) := by
  unfold endWait
  split
  · exact Settled.settleWait s l
  · exact Settled.refl s

theorem fellBack_line (s : State) (l : Line) : (fellBack s).line l =
    if (s.line l).role = .standby then { (s.line l).fallenBack with observer := .empty } else (s.line l).fallenBack := by
  unfold fellBack
  dsimp only
  rw [raise_line, post_line, leaveObserver_line, leaveObserver_line, State.modLines_line, State.modClock_line]
  have role : ((s.line l).fallenBack).role = (s.line l).role := rfl
  cases l <;> simp [role]

theorem fellBack_host (s : State) :
    (fellBack s).clock = { s.clock with effective := .iosc, requested := .iosc, monitor := .absent, edges := 0, quiet := 0 } ∧
      (fellBack s).events = (s.events.post { kind := .clockFallback, line := none, drop := none, tag := none, code := 0, detail := 0
                                             stamp := s.clock.timestamp }).raise .clockFallback := by
  have left (u : State) (l : Line) : (leaveObserver u l).clock = u.clock ∧ (leaveObserver u l).events = u.events := by
    unfold leaveObserver State.emptyObserver
    split
    · rw [State.freeAssembling_eq]
      cases l <;> exact ⟨rfl, rfl⟩
    · exact ⟨rfl, rfl⟩
  unfold fellBack
  simp only [State.raise, State.post, State.modEvents, left, State.modLines_events, State.modClock_events]
  exact ⟨rfl, rfl⟩

theorem fellBack_freed (standby : (s.line l).role = .standby) {b : BufIx} (mine : s.assembling l = some b) :
    ((fellBack s).buffer b).place = .free := by
  let changed := (s.modClock fun c => { c.monitorAbsent with effective := .iosc, requested := .iosc }).modLines
    fun _ e => e.fallenBack
  have role : (changed.line l).role = .standby := by
    rw [State.modLines_line]
    exact standby
  change ((leaveObserver (leaveObserver changed .a) .b).buffer b).place = .free
  cases l with
  | a => exact leaveObserver_free _ .b b (leaveObserver_freed role mine)
  | b =>
    refine leaveObserver_freed ?_ ((leaveObserver_assembling (by decide)).trans mine)
    rw [leaveObserver_line, if_neg (by simp)]
    exact role

end

/-! ### The switch (R146) -/

section

variable {s : State}

theorem busy_false {e : LineEngine} (quiet : e.role = .off ∨ (e.rx.state ≠ .receiving ∧ e.tx.enable = false ∧
    e.tx.echoes = [] ∧ e.reader.state = .hunt ∧ e.ctl.state ≠ .send ∧ e.ctl.state ≠ .receive ∧ e.ctl.state ≠ .discard)) :
    e.busy = false := by
  unfold LineEngine.busy
  obtain off | ⟨waits, released, judged, hunts, noSend, noReceive, noDiscard⟩ := quiet
  · simp [off]
  · simp [waits, released, judged, hunts, noSend, noReceive, noDiscard]

theorem maySwitch_of (pending : s.clock.requested ≠ s.clock.effective)
    (available : s.clock.requested = .xref → s.clock.monitor = .present)
    (quiet : ∀ l, (s.line l).busy = false) : s.maySwitch = true := by
  have source : s.clock.available = true := by
    unfold ClockUnit.available
    cases requested : s.clock.requested with
    | iosc => rfl
    | xref => simp [available requested]
  have quietA := quiet .a
  have quietB := quiet .b
  unfold State.line at quietA quietB
  simp [State.maySwitch, ClockUnit.switchPending, pending, source, quietA, quietB]

end

/-- Settles O60: the switch in one step; the fallback by the state before its waits are settled, and by what settling a wait
leaves. -/
theorem clockSwitchAndFallback : Obligations.ClockSwitchAndFallback := by
  unfold Obligations.ClockSwitchAndFallback
  refine ⟨fun s pending available quiet => ?switch, fun s enabled present effective => ?fallback⟩
  case switch =>
    have row : exec .clockSwitch s = .next s.switchClock.driveIrq :=
      congrArg finish (if_pos (maySwitch_of pending available fun l => busy_false (quiet l)))
    have line (l : Line) : s.switchClock.driveIrq.line l = (s.line l).switched s.clock.requested := by cases l <;> rfl
    refine ⟨_, row, rfl, fun l => ?_⟩
    rw [line]
    refine ⟨rfl, rfl, rfl, rfl, fun x m stamping covers tight => ?_, rfl, rfl, rfl, rfl, rfl, rfl⟩
    refine (congrArg (Option.map _) stamping).trans ?_
    exact congrArg (fun n => some { x with left := n * (s.line l).params.divisorFor s.clock.requested })
      (samplesIn_eq covers tight)
  case fallback =>
    have settled := (endWait_settled (fellBack s) .a).trans (endWait_settled _ .b)
    have line := fellBack_line s
    have freed (l : Line) := fellBack_freed (s := s) (l := l)
    obtain ⟨clock, events⟩ := fellBack_host s
    refine ⟨_, exec_xrefLost enabled present effective, ?_⟩
    generalize endWait (endWait (fellBack s) .a) .b = t at *
    refine ⟨settled.clock.trans clock, ?_, ?_, fun l => ?_⟩
    · refine List.IsPrefix.trans ?_ settled.queue
      rw [events]
      exact EventUnit.raise_queue ..
    · refine summary_of_tells settled.tells ?_
      rw [events]
      exact raise_summary_index _ .clockFallback
    · have engine : ((fellBack s).line l).divisor = (s.line l).params.divIosc ∧
          ((fellBack s).line l).rx = (s.line l).fallenBack.rx ∧ ((fellBack s).line l).reader = (s.line l).fallenBack.reader ∧
          ((fellBack s).line l).tx = (s.line l).fallenBack.tx ∧ ((fellBack s).line l).ctl = (s.line l).fallenBack.ctl := by
        rw [line]
        split <;> exact ⟨rfl, rfl, rfl, rfl, rfl⟩
      obtain ⟨divisorThen, rxThen, readerThen, txThen, ctlThen⟩ := engine
      have transport := settled.transport l
      simp only [Prod.mk.injEq] at transport
      obtain ⟨divisor, rx, reader, tx⟩ := transport
      have ctl := settled.ctl l
      rw [ctlThen] at ctl
      rw [State.driveIrq_line, divisor, rx, reader, tx, divisorThen, rxThen, readerThen, txThen]
      refine ⟨rfl, ?_, ?_, fun inFlight => ?_, fun send => ?_, ?_, fun standby => ⟨?_, fun b mine => ?_⟩⟩
      · unfold LineEngine.fallenBack
        dsimp only
        split
        · simp
        · next idle => exact idle
      · unfold LineEngine.fallenBack Reader.toFlush
        dsimp only
        split
        · simp
        · next closed => exact closed
      · have discards : (s.line l).fallenBack.ctl = { (s.line l).ctl with state := .discard, discard := .faulty .clockFault } :=
          if_pos (by simpa using inFlight)
        rw [discards] at ctl
        exact ctl (by simp)
      · have kept : (s.line l).fallenBack.ctl = (s.line l).ctl := if_neg (by simp [send])
        rw [kept] at ctl
        exact ctl (by simp [send])
      · unfold LineEngine.fallenBack Transmitter.inProgress
        refine if_congr ?_ rfl rfl
        simp [or_assoc, Option.isSome_iff_ne_none]
      · refine settled.observer l ?_
        rw [line, if_pos standby]
      · exact settled.free b (freed l standby mine)

end Sys2Proof.Proofs.ClockSwitch

/-! The end of an attempt, by what follows it: another attempt, the request put back, a demotion, or the transaction's end (R57 to
R61, R99, R103, R131). -/

namespace Sys2Proof.Proofs.AttemptEnd

open Sys2Proof Sys2Proof.Machine Sys2Proof.Laws Sys2Proof.Proofs.Rows Sys2Proof.Proofs.Work Sys2Proof.Proofs.LineRows
open Sys2Proof.Proofs.RoleEnds Sys2Proof.Proofs.Completions Sys2Proof.Proofs.Queues Sys2Proof.Proofs.AttemptReports

/-! ### The state in which the retry is judged -/

section

variable (s : State) (l : Line) (o : TxnOutcome) (x : Txn) (d : DropIx)

/-- A contention at its limit demotes a MASTER line (R61, R131). -/
abbrev Demotes (e : LineEngine) (o : TxnOutcome) : Prop :=
  o = .contention ∧ e.role = .master ∧ e.params.contentionLimit ≤ min 255 (e.contention + 1)

/-- A line engine once the end of an attempt has counted its contention (R61). -/
def afterMeeting (e : LineEngine) (o : TxnOutcome) : LineEngine :=
  { e with
    contention := if o = .contention then min 255 (e.contention + 1) else e.contention
    counters := if o = .contention then { e.counters with contention := satInc e.counters.contention } else e.counters }

theorem afterMeeting_eq (e : LineEngine) (o : TxnOutcome) : afterMeeting e o =
    if o = .contention then
      { e with contention := min 255 (e.contention + 1)
               counters := { e.counters with contention := satInc e.counters.contention } }
    else e := by
  unfold afterMeeting
  split <;> rfl

/-- The transaction after the attempt (R99). -/
abbrev attempted (s : State) (l : Line) (o : TxnOutcome) (x : Txn) : Txn :=
  x.withAttempt o (s.line l).ctl.reply

/-- The state once reports and contention of an attempt's end are through (R57, R61). -/
def attemptOver : State :=
  { s.setLine l { afterMeeting (s.line l) o with
      ctl := { (s.line l).ctl with txn := some (attempted s l o x), window := .none, deciding := false } } with
    drops := (s.setDrop d (dropAfterAttempt (s.drop d) o (noticed s d o (s.line l).ctl.reply.attention)
      (x.source = .extraPoll))).drops
    slots := slotsReported s x o, buffers := pooled s.buffers (s.assembling l)
    events := toldAttention s d o (s.line l).ctl.reply.attention }

theorem slotsReported_eq : slotsReported s x o = (match x.request with
    | some g => s.setSlot g { s.slot g with attempts := x.attempts, outcome := o }
    | none => s).slots := by
  unfold slotsReported
  cases x.request <;> rfl

variable {s l x d}

theorem withAttempt_eq (y : ReplyInfo) : x.withAttempt o y =
    { x with lastOutcome := o, lastStored := decide (o = .ok ∧ y.claim = .granted)
             lastLength := if (o = .ok ∧ y.claim = .granted) ∨ o = .noBuffer then y.length else 0 } := by
  unfold Txn.withAttempt
  simp only [Bool.and_eq_true, Bool.or_eq_true, decide_eq_true_eq, Bool.decide_and]

theorem attemptOver_line : (attemptOver s l o x d).line l = { afterMeeting (s.line l) o with
    ctl := { (s.line l).ctl with txn := some (attempted s l o x), window := .none, deciding := false } } := by
  unfold attemptOver
  cases l <;> rfl

theorem attemptOver_drop : (attemptOver s l o x d).drop d =
    dropAfterAttempt (s.drop d) o (noticed s d o (s.line l).ctl.reply.attention) (x.source = .extraPoll) := by
  have shown : (attemptOver s l o x d).drop d = (s.setDrop d (dropAfterAttempt (s.drop d) o
      (noticed s d o (s.line l).ctl.reply.attention) (x.source = .extraPoll))).drop d := rfl
  rw [shown, State.setDrop_drop, if_pos rfl]

theorem attemptOver_slot (g : Tag) : (attemptOver s l o x d).slot g =
    if x.request = some g then { s.slot g with attempts := x.attempts, outcome := o } else s.slot g := by
  have shown : (attemptOver s l o x d).slot g = ({ s with slots := slotsReported s x o } : State).slot g := rfl
  rw [shown]
  unfold slotsReported
  cases request : x.request with
  | none => rfl
  | some f =>
    have slot : ({ s with slots := (s.setSlot f { s.slot f with attempts := x.attempts, outcome := o }).slots } : State).slot g =
      (s.setSlot f { s.slot f with attempts := x.attempts, outcome := o }).slot g := rfl
    dsimp only
    rw [slot, State.setSlot_slot]
    by_cases same : g = f
    · rw [if_pos same, same, if_pos rfl]
    · rw [if_neg same, if_neg fun is => same (Option.some.inj is).symm]

theorem attemptOver_aborts (g : Tag) : ((attemptOver s l o x d).slot g).abortPending = (s.slot g).abortPending := by
  rw [attemptOver_slot]
  split <;> rfl

theorem attemptOver_buffer (b : BufIx) : (attemptOver s l o x d).buffer b =
    if s.assembling l = some b then { s.buffer b with place := .free } else s.buffer b :=
  pooled_get ..

theorem attemptOver_heldBy (g : Tag) : (attemptOver s l o x d).heldBy g = s.heldBy g := by
  unfold State.heldBy
  refine congrArg (allBuffers.find? ·) (funext fun b => decide_eq_decide.mpr ?_)
  rw [attemptOver_buffer]
  split
  · next mine =>
    have place : (s.buffer b).place = .assembling l := by
      simpa using List.find?_some (p := fun b => decide ((s.buffer b).place = .assembling l)) mine
    simp [place]
  · rfl

variable (goes : x.drop = some d) (inHand : (s.line l).ctl.txn = some x)

include goes in
theorem attemptReported_over (calm : o ≠ .contention) : attemptReported s l o x = attemptOver s l o x d := by
  rw [attemptReported_eq s l o goes]
  unfold attemptOver
  rw [afterMeeting_eq, if_neg calm]

include goes in
theorem attemptReported_contention :
    (attemptReported s l .contention x).countContention l = attemptOver s l .contention x d := by
  rw [attemptReported_eq s l .contention goes]
  cases l <;> rfl

include goes inHand in
theorem endAttempt_undemoted (stays : ¬ Demotes (s.line l) o) :
    s.endAttempt l o = (attemptOver s l o x d).afterAttempt l o := by
  rw [endAttempt_eq s l inHand]
  by_cases contention : o = .contention
  · subst contention
    have line := attemptOver_line (s := s) (l := l) (x := x) (d := d) .contention
    have below : ((((attemptOver s l .contention x d).line l).role = .master &&
        ((attemptOver s l .contention x d).line l).contention ≥
          ((attemptOver s l .contention x d).line l).params.contentionLimit) : Bool) = false := by
      rw [line, Bool.and_eq_false_iff]
      simp only [decide_eq_false_iff_not]
      by_contra both
      rw [not_or, not_not, not_not] at both
      exact stays ⟨rfl, both⟩
    have met : (attemptReported s l .contention x).meetContention l = attemptOver s l .contention x d := by
      unfold State.meetContention
      rw [attemptReported_contention goes]
      exact if_neg (by rw [below]; decide)
    rw [if_pos rfl, met, if_pos (by rw [line]; rfl)]
  · rw [if_neg contention, attemptReported_over o goes contention]

theorem ownRequest_attemptOver (agree : s.QueuesAgree) (inHand : (s.line l).ctl.txn = some x) :
    OwnRequest (attemptOver s l o x d) l := by
  intro g mine
  rw [txnTag_eq, attemptOver_line] at mine
  have own := (agree.2 l g (by rw [txnTag_eq, inHand]; exact mine)).2
  rw [attemptOver_slot]
  split <;> exact own

theorem finishTxn_noTxn (t : State) (l : Line) : ((t.finishTxn l).line l).ctl.txn = none := by
  obtain ⟨-, same⟩ | ⟨y, -, ⟨g, -, same⟩ | ⟨p, same⟩⟩ := finishTxn_cases l t
  · simp [same, Controller.toIdle]
  · obtain ⟨u, v, queues⟩ := putBack_line (t.modCtl l Controller.toIdle) l g y.lastLength
    rw [same, queues]
    simp [Controller.toIdle]
  · simp [same, Controller.toIdle]

theorem onStandby_ctl (t : State) (l : Line) : ((t.onStandby l).line l).ctl = (t.line l).ctl := by
  unfold State.onStandby
  simp only [returned_eq]
  cases l <;> rfl

theorem demote_noTxn (t : State) (l : Line) : ((t.demote l).line l).ctl.txn = none := by
  unfold State.demote
  dsimp only
  rw [enterStandby_eq, onStandby_ctl]
  exact finishTxn_noTxn ..

include goes inHand in
theorem endAttempt_demoted (agree : s.QueuesAgree) (demotes : Demotes (s.line l) o) :
    s.endAttempt l o = (attemptOver s l o x d).demoted l := by
  obtain ⟨rfl, master, limit⟩ := demotes
  have line := attemptOver_line (s := s) (l := l) (x := x) (d := d) .contention
  have reached : ((((attemptOver s l .contention x d).line l).role = .master &&
      ((attemptOver s l .contention x d).line l).contention ≥
        ((attemptOver s l .contention x d).line l).params.contentionLimit) : Bool) = true := by
    rw [line, Bool.and_eq_true]
    exact ⟨decide_eq_true master, decide_eq_true limit⟩
  have met : (attemptReported s l .contention x).meetContention l = (attemptOver s l .contention x d).demoted l := by
    unfold State.meetContention
    rw [attemptReported_contention goes, ← demote_eq _ l (ownRequest_attemptOver _ agree inHand)]
    exact if_pos reached
  rw [endAttempt_eq s l inHand, if_pos rfl, met, ← demote_eq _ l (ownRequest_attemptOver _ agree inHand)]
  exact if_neg (by rw [demote_noTxn]; decide)

/-! ### What follows it -/

/-- The end of the work in hand asks a controller for its transaction and for what it keeps at rest. -/
theorem workEnded_ctl (t : State) (l : Line) (r : Role) {c : Controller} (txn : c.txn = (t.line l).ctl.txn)
    (rest : c.resting = (t.line l).ctl.resting) :
    (t.setLine l { t.line l with ctl := c }).workEnded l r = t.workEnded l r := by
  have endOf (y : Txn) : (t.setLine l { t.line l with ctl := c }).endOf r y = t.endOf r y := by cases l <;> rfl
  unfold State.workEnded
  simp only [line_setLine_self, txn, rest, setLine_setLine]
  cases (t.line l).ctl.txn with
  | none => rfl
  | some y =>
    unfold State.txnEnded
    simp only [line_setLine_self, rest, setLine_setLine, endOf]
    cases outcome : t.endOf r y with
    | none =>
      obtain ⟨g, request⟩ := request_of_endOf_none outcome
      simp only [request, State.setLine_slot]
    | some p =>
      simp only [State.setLine_drop, State.setLine_slot, State.setLine_events, State.setLine_clock]
      cases y.request with
      | none => rfl
      | some g =>
        have held : (t.setLine l { t.line l with ctl := c }).heldBy g = t.heldBy g := by cases l <;> rfl
        simp only [held]

theorem demoted_raise (t : State) (l : Line) : t.demoted l =
    ((((t.roleTold l .standby .demotion).raise (contentionBit l)).workEnded l .standby).onStandby l) := by cases l <;> rfl

/-- Demotion asks only for the transaction in hand of what a controller holds (R131). -/
theorem demoted_ctl (t : State) (l : Line) {c : Controller} (txn : c.txn = (t.line l).ctl.txn)
    (rest : c.resting = (t.line l).ctl.resting) : (t.setLine l { t.line l with ctl := c }).demoted l = t.demoted l := by
  have same : ((t.setLine l { t.line l with ctl := c }).roleTold l .standby .demotion).raise (contentionBit l) =
      ((t.roleTold l .standby .demotion).raise (contentionBit l)).setLine l
        { ((t.roleTold l .standby .demotion).raise (contentionBit l)).line l with ctl := c } := by
    cases l <;> rfl
  have ctl : (((t.roleTold l .standby .demotion).raise (contentionBit l)).line l).ctl = (t.line l).ctl := by cases l <;> rfl
  rw [demoted_raise, demoted_raise, same, workEnded_ctl _ l .standby (by rw [ctl, txn]) (by rw [ctl, rest])]

/-- Another attempt is allowed (R58). -/
theorem retryFollows_iff (call : x.kind ≠ .sync) (goes : x.drop = some d) :
    (attemptOver s l o x d).retryFollows l (attempted s l o x) o = true ↔
      o ≠ .ok ∧ x.attempts < x.retry + 1 ∧ (¬ ∃ g, x.request = some g ∧ (s.slot g).abortPending = true) ∧
        (s.line l).role = .master ∧ (s.drop d).state ≠ .disabled := by
  have aborts : (attemptOver s l o x d).abortPending (attempted s l o x) = true ↔
      ∃ g, x.request = some g ∧ (s.slot g).abortPending = true := by
    rw [abortPending_iff]
    simp only [attemptOver_aborts]
    rfl
  have enabled : (attemptOver s l o x d).dropEnabled (attempted s l o x) = true ↔ (s.drop d).state ≠ .disabled := by
    unfold State.dropEnabled
    have still : (attempted s l o x).drop = some d := goes
    rw [still]
    dsimp only
    rw [attemptOver_drop]
    simp [Drop.enabled, dropAfterAttempt]
  have role : ((attemptOver s l o x d).line l).role = (s.line l).role := by
    rw [attemptOver_line]
    rfl
  have kind : (attempted s l o x).kind ≠ .sync := call
  have retries : (attempted s l o x).attempts < (attempted s l o x).retry + 1 ↔ x.attempts < x.retry + 1 := Iff.rfl
  unfold State.retryFollows
  simp only [Bool.and_eq_true, decide_eq_true_eq, Bool.not_eq_true', ← Bool.not_eq_true, aborts, enabled, role, retries,
    and_assoc]
  simp only [kind, ne_eq, not_false_eq_true, true_and]

/-- R59's table on the state in which the retry is judged. -/
theorem endOf_attemptOver (goes : x.drop = some d) (r : Role) : (attemptOver s l o x d).endOf r (attempted s l o x) =
    if o = .ok then some .ok
    else if ∃ g, x.request = some g ∧ (s.slot g).abortPending = true then some .aborted
    else if (s.drop d).state = .disabled then some .dropDisabled
    else if r = .stopping then some .lineStopped
    else if (r = .yielding ∨ r = .standby) ∧ x.attempts < x.retry + 1 then
      (if x.request = none then some .lineStopped else none)
    else some o := by
  have disabled : (∃ f, x.drop = some f ∧ ((attemptOver s l o x d).drop f).state = .disabled) ↔
      (s.drop d).state = .disabled := by
    rw [goes]
    simp only [Option.some.injEq, exists_eq_left', attemptOver_drop]
    rfl
  unfold State.endOf
  have request : (attempted s l o x).request = x.request := rfl
  have drop : (attempted s l o x).drop = x.drop := rfl
  have last : (attempted s l o x).lastOutcome = o := rfl
  have attempts : (attempted s l o x).attempts = x.attempts := rfl
  have retry : (attempted s l o x).retry = x.retry := rfl
  simp only [request, drop, last, attempts, retry, attemptOver_aborts, disabled]

/-- The outcome that R59 chooses where no request is put back. -/
theorem endOf_some (goes : x.drop = some d) (r : Role)
    (ends : ¬ ((o ≠ .ok ∧ (¬ ∃ g, x.request = some g ∧ (s.slot g).abortPending = true) ∧
      (s.drop d).state ≠ .disabled ∧ (r = .yielding ∨ r = .standby) ∧ x.attempts < x.retry + 1) ∧ x.request ≠ none)) :
    (attemptOver s l o x d).endOf r (attempted s l o x) = some (if o = .ok then .ok
      else if ∃ g, x.request = some g ∧ (s.slot g).abortPending = true then .aborted
      else if (s.drop d).state = .disabled then .dropDisabled
      else if r = .stopping ∨ ((r = .yielding ∨ r = .standby) ∧ x.attempts < x.retry + 1) then .lineStopped else o) := by
  rw [endOf_attemptOver o goes]
  by_cases ok : o = .ok
  · rw [if_pos ok, if_pos ok]
  by_cases aborted : ∃ g, x.request = some g ∧ (s.slot g).abortPending = true
  · rw [if_neg ok, if_neg ok, if_pos aborted, if_pos aborted]
  by_cases disabled : (s.drop d).state = .disabled
  · rw [if_neg ok, if_neg ok, if_neg aborted, if_neg aborted, if_pos disabled, if_pos disabled]
  rw [if_neg ok, if_neg ok, if_neg aborted, if_neg aborted, if_neg disabled, if_neg disabled]
  by_cases stopping : r = .stopping
  · rw [if_pos stopping, if_pos (.inl stopping)]
  by_cases leaves : (r = .yielding ∨ r = .standby) ∧ x.attempts < x.retry + 1
  · have free : x.request = none := by
      by_contra some
      exact ends ⟨⟨ok, aborted, disabled, leaves⟩, some⟩
    rw [if_neg stopping, if_pos leaves, if_pos free, if_pos (.inr leaves)]
  · rw [if_neg stopping, if_neg leaves, if_neg (not_or.mpr ⟨stopping, leaves⟩)]

variable (s l x d) in
theorem afterAttempt_again (again : (attemptOver s l o x d).retryFollows l (attempted s l o x) o = true) :
    (attemptOver s l o x d).afterAttempt l o = if o = .busy then (attemptOver s l o x d).enterBackoff l
      else (attemptOver s l o x d).enterGuard l (attempted s l o x) := by
  unfold State.afterAttempt
  rw [attemptOver_line]
  exact if_pos again

variable (s l x d) in
theorem afterAttempt_over (last : (attemptOver s l o x d).retryFollows l (attempted s l o x) o = false) :
    (attemptOver s l o x d).afterAttempt l o = ((attemptOver s l o x d).finishTxn l).select l := by
  unfold State.afterAttempt
  rw [attemptOver_line]
  exact if_neg (by rw [last]; decide)

theorem finishTxn_attemptOver (agree : s.QueuesAgree) (inHand : (s.line l).ctl.txn = some x) :
    (attemptOver s l o x d).finishTxn l = (attemptOver s l o x d).txnEnded l (s.line l).role (attempted s l o x) := by
  have role : ((attemptOver s l o x d).line l).role = (s.line l).role := by
    rw [attemptOver_line]
    rfl
  rw [finishTxn_eq (ownRequest_attemptOver o agree inHand), role]
  unfold State.workEnded
  rw [attemptOver_line]

/-- A request put back (R103). -/
theorem txnEnded_back {r : Role} {g : Tag} (back : (attemptOver s l o x d).endOf r (attempted s l o x) = none)
    (request : x.request = some g) : (attemptOver s l o x d).txnEnded l r (attempted s l o x) =
      ((attemptOver s l o x d).setLine l (({ afterMeeting (s.line l) o with ctl := (s.line l).ctl.resting } : LineEngine).modQueue
        (s.slot g).priority (g :: ·))).setSlot g
          { (attemptOver s l o x d).slot g with state := .queued, lastLength := (attempted s l o x).lastLength } := by
  have tag : (attempted s l o x).request = some g := request
  have priority : ((attemptOver s l o x d).slot g).priority = (s.slot g).priority := by
    rw [attemptOver_slot]
    split <;> rfl
  unfold State.txnEnded
  simp only [back, tag, attemptOver_line, priority]
  rfl

end

section

/-- The event unit after the end report of a transaction (R24, R25). -/
def eventsReported (w : State) (d : DropIx) (p : TxnOutcome) : EventUnit :=
  if (dropAfterEnd (w.drop d) p true).state = (w.drop d).state then w.events else w.events.post
    { kind := .dropState, line := some (w.drop d).line, drop := some d, tag := none
      code := (dropAfterEnd (w.drop d) p true).state.code, detail := (w.drop d).state.code, stamp := w.clock.timestamp }

/-- A transaction to a drop that ended after an attempt, its end report out and its request not completed yet (R59). -/
def reportedEnd (w : State) (l : Line) (y : Txn) (d : DropIx) (p : TxnOutcome) : State :=
  { (w.setLine l { w.line l with
      ctl := (w.line l).ctl.resting
      cycle := if y.source = .schedule then { (w.line l).cycle with performed := (w.line l).cycle.performed + 1 }
        else (w.line l).cycle }).setDrop d (dropAfterEnd (w.drop d) p true) with events := eventsReported w d p }

variable {w : State} {l : Line} {r : Role} {y : Txn} {d : DropIx} {p : TxnOutcome}

theorem cycleAfterTxn_of_began (c : Cycle) (began : 0 < y.attempts) : cycleAfterTxn c y p =
    if y.source = .schedule then { c with performed := c.performed + 1 } else c := by
  unfold cycleAfterTxn
  by_cases schedule : y.source = .schedule
  · rw [if_pos ⟨schedule, began⟩, if_pos schedule]
  · rw [if_neg fun both => schedule both.1, if_neg fun both => schedule both.1, if_neg schedule]

theorem txnEnded_report (ends : w.endOf r y = some p) (goes : y.drop = some d) (began : 0 < y.attempts)
    (request : y.request = none) : w.txnEnded l r y = reportedEnd w l y d p := by
  have not : ¬ y.attempts = 0 := by omega
  unfold State.txnEnded
  simp only [ends, request, goes, cycleAfterTxn_of_began _ began, not, began, decide_true, false_and, and_false, if_false]
  rfl

theorem txnEnded_request {g : Tag} (ends : w.endOf r y = some p) (goes : y.drop = some d) (began : 0 < y.attempts)
    (request : y.request = some g) : w.txnEnded l r y = { (reportedEnd w l y d p).setSlot g { w.slot g with
          state := .done, outcome := p, abortPending := false
          replyLength := if y.kind = .poll then y.lastLength else 0
          replyStored := decide (y.kind = .poll) && y.lastStored } with
        buffers := pooled w.buffers (w.heldBy g)
        events := (eventsReported w d p).post
          { kind := .requestDone, line := some (w.slot g).line, drop := some (w.slot g).drop, tag := some g, code := p.code
            detail := BitVec.ofNat 8 (w.slot g).attempts, stamp := w.clock.timestamp } } := by
  have not : ¬ y.attempts = 0 := by omega
  unfold State.txnEnded
  simp only [ends, request, goes, cycleAfterTxn_of_began _ began, not, began, decide_true, false_and, and_false, if_false,
    returned_eq]
  cases l <;> rfl

end

section

variable {s : State} {l : Line} {o p : TxnOutcome} {x : Txn} {d : DropIx}

/-- The record of the drop after the attempt (R32 to R35). -/
abbrev attemptedDrop (s : State) (l : Line) (o : TxnOutcome) (x : Txn) (d : DropIx) : Drop :=
  dropAfterAttempt (s.drop d) o (noticed s d o (s.line l).ctl.reply.attention) (x.source = .extraPoll)

theorem eventsReported_over : eventsReported (attemptOver s l o x d) d p =
    if (dropAfterEnd (attemptedDrop s l o x d) p true).state = (s.drop d).state then
      toldAttention s d o (s.line l).ctl.reply.attention
    else (toldAttention s d o (s.line l).ctl.reply.attention).post
      { kind := .dropState, line := some (s.drop d).line, drop := some d, tag := none
        code := (dropAfterEnd (attemptedDrop s l o x d) p true).state.code, detail := (s.drop d).state.code
        stamp := s.clock.timestamp } := by
  unfold eventsReported
  rw [attemptOver_drop]
  cases l <;> rfl

theorem reportedEnd_over : reportedEnd (attemptOver s l o x d) l (attempted s l o x) d p =
    { s.setLine l { afterMeeting (s.line l) o with
        ctl := (s.line l).ctl.resting
        cycle := if x.source = .schedule then { (s.line l).cycle with performed := (s.line l).cycle.performed + 1 }
          else (s.line l).cycle } with
      drops := (s.setDrop d (dropAfterEnd (attemptedDrop s l o x d) p true)).drops
      slots := slotsReported s x o, buffers := pooled s.buffers (s.assembling l)
      events := eventsReported (attemptOver s l o x d) d p } := by
  have again (q : Drop) : ((s.setDrop d (attemptedDrop s l o x d)).drops.set d.val q) = (s.setDrop d q).drops :=
    Vector.set_set (hi := d.isLt) ..
  unfold reportedEnd
  rw [attemptOver_drop, ← again]
  cases l <;> rfl

end

theorem freed_either {p q : Prop} [Decidable p] [Decidable q] (y : Buffer) :
    (if q then { (if p then { y with place := .free } else y) with place := .free }
      else if p then { y with place := .free } else y) = if p ∨ q then { y with place := .free } else y := by
  by_cases first : p
  · by_cases second : q <;> simp [first, second]
  · by_cases second : q <;> simp [first, second]

/-- Settles O48, by what follows the attempt. -/
theorem attemptEnds : Obligations.AttemptEnds := by
  unfold Obligations.AttemptEnds
  intro s l o x d inHand goes call source began agree _ e r tag stored x' aborted left noticed r' told e' idle demoted freed slotIs
    again back outcome
  have tagIs : tag = x.request := rfl
  have meeting : e' = afterMeeting e o := (afterMeeting_eq e o).symm
  have txn : attempted s l o x = x' := withAttempt_eq o e.ctl.reply
  clear_value e' x' tag
  subst meeting txn tagIs
  have record : (attemptOver s l o x d).drop d = r' := attemptOver_drop o
  have line := attemptOver_line (s := s) (l := l) (x := x) (d := d) o
  have follows : (attemptOver s l o x d).retryFollows l (attempted s l o x) o = true ↔
      o ≠ .ok ∧ left ∧ ¬ aborted ∧ e.role = .master ∧ r.state ≠ .disabled := retryFollows_iff o call goes
  have slots (t : State) (same : t.slots = (attemptOver s l o x d).slots) : slotIs t id := by
    have slot (g : Tag) : t.slot g = if x.request = some g then { s.slot g with attempts := x.attempts, outcome := o }
        else s.slot g := (congrArg (·[g.val]) same).trans (attemptOver_slot o g)
    exact ⟨fun g mine => (slot g).trans (if_pos mine), fun g other => (slot g).trans (if_neg other)⟩
  have pool (t : State) (same : t.buffers = (attemptOver s l o x d).buffers) : freed t none := fun b => by
    have buffer := (congrArg (·[b.val]) same).trans (attemptOver_buffer o b)
    refine buffer.trans (if_congr ?_ rfl rfl)
    simp
  refine ⟨fun another => ?again, fun g putsBack mine => ?back, fun demotes => ?demoted, fun stays last ends => ?ended⟩
  case again =>
    obtain ⟨stays, notOk, more, free, master, enabled⟩ := another
    have ended : s.endAttempt l o = if o = .busy then (attemptOver s l o x d).enterBackoff l
        else (attemptOver s l o x d).enterGuard l (attempted s l o x) :=
      (endAttempt_undemoted o goes inHand stays).trans
        (afterAttempt_again s l o x d (follows.mpr ⟨notOk, more, free, master, enabled⟩))
    rw [ended]
    by_cases busy : o = .busy
    · rw [if_pos busy]
      refine ⟨?_, fun other => absurd busy other, slots _ (by cases l <;> rfl), pool _ (by cases l <;> rfl)⟩
      rw [if_pos busy]
      cases l <;> rfl
    · have built : (((attemptOver s l o x d).enterGuard l (attempted s l o x)).line l).ctl.call =
          (attemptOver s l o x d).buildCall (attempted s l o x) := by cases l <;> rfl
      have drop : (attempted s l o x).drop = some d := goes
      rw [if_neg busy]
      refine ⟨?_, fun _ => ?_, slots _ (by cases l <;> rfl), pool _ (by cases l <;> rfl)⟩
      · rw [if_neg busy]
        cases l <;> rfl
      · rw [built]
        unfold State.buildCall
        rw [drop]
        dsimp only
        rw [record]
        exact ⟨rfl, rfl⟩
  case back =>
    obtain ⟨notOk, free, enabled, leaves, more⟩ := putsBack
    have noMaster : ¬ (s.line l).role = .master := by
      obtain is | is := leaves <;> exact fun master => by rw [show (s.line l).role = _ from is] at master; cases master
    have stays : ¬ Demotes (s.line l) o := fun demotes => noMaster demotes.2.1
    have noRetry : (attemptOver s l o x d).retryFollows l (attempted s l o x) o = false := by
      rw [← Bool.not_eq_true, follows]
      exact fun again => noMaster again.2.2.2.1
    have notStopping : ¬ (s.line l).role = .stopping := by
      obtain is | is := leaves <;> exact fun stopping => by rw [show (s.line l).role = _ from is] at stopping; cases stopping
    have endOf : (attemptOver s l o x d).endOf (s.line l).role (attempted s l o x) = none := by
      have carries : ¬ x.request = none := fun absent => by rw [absent] at mine; cases mine
      have unaborted : ¬ ∃ g, x.request = some g ∧ (s.slot g).abortPending = true := free
      rw [endOf_attemptOver o goes, if_neg notOk, if_neg unaborted, if_neg enabled, if_neg notStopping,
        if_pos ⟨leaves, more⟩, if_neg carries]
    have ended := (endAttempt_undemoted o goes inHand stays).trans (afterAttempt_over s l o x d noRetry)
    rw [finishTxn_attemptOver o agree inHand, txnEnded_back o endOf mine] at ended
    have role : ((((attemptOver s l o x d).setLine l (({ afterMeeting (s.line l) o with ctl := (s.line l).ctl.resting } :
        LineEngine).modQueue (s.slot g).priority (g :: ·))).setSlot g { (attemptOver s l o x d).slot g with
          state := .queued, lastLength := (attempted s l o x).lastLength }).line l).role ≠ .master := by
      rw [State.setSlot_line, line_setLine_self]
      cases (s.slot g).priority <;> exact noMaster
    rw [select_off_boundary (.inl role)] at ended
    rw [ended]
    refine ⟨?_, ⟨fun f same => ?_, fun f other => ?_⟩, pool _ (by cases l <;> rfl)⟩
    · cases l <;> rfl
    · obtain rfl : g = f := Option.some.inj (mine.symm.trans same)
      rw [State.setSlot_slot, if_pos rfl, attemptOver_slot, if_pos mine]
    · rw [State.setSlot_slot, if_neg fun is : f = g => other (is ▸ mine), State.setLine_slot, attemptOver_slot, if_neg other]
  case demoted =>
    intro judged
    have ctl := demoted_ctl (judged.returned (s.assembling l)) l
      (c := { e.ctl with txn := some (attempted s l o x), window := .none, deciding := false })
    rw [endAttempt_demoted o goes inHand agree demotes]
    refine Eq.trans (congrArg (State.demoted · l) ?_) (ctl ?_ ?_)
    · have same : slotsReported s x o = judged.slots := slotsReported_eq s o x
      unfold attemptOver
      rw [same, returned_eq]
      cases l <;> rfl
    · rw [returned_eq]
      cases l <;> rfl
    · rw [returned_eq]
      cases l <;> rfl
  case ended =>
    have notAgain : ¬ (o ≠ .ok ∧ left ∧ ¬ aborted ∧ e.role = .master ∧ r.state ≠ .disabled) := fun again =>
      last ⟨stays, again⟩
    have noRetry : (attemptOver s l o x d).retryFollows l (attempted s l o x) o = false := by
      rw [← Bool.not_eq_true, follows]
      exact notAgain
    have endOf : (attemptOver s l o x d).endOf (s.line l).role (attempted s l o x) = some outcome :=
      endOf_some o goes _ ends
    have ended := (endAttempt_undemoted o goes inHand stays).trans (afterAttempt_over s l o x d noRetry)
    rw [finishTxn_attemptOver o agree inHand] at ended
    refine ⟨_, ended, ?_⟩
    cases request : x.request with
    | none =>
      rw [txnEnded_report endOf goes began request, reportedEnd_over, eventsReported_over]
      refine ⟨rfl, ⟨fun f mine => ?_, fun f other => ?_⟩, pool _ rfl⟩
      · exact absurd (request.symm.trans mine) nofun
      · refine (attemptOver_slot (l := l) (d := d) o f).trans (if_neg other)
    | some g =>
      rw [txnEnded_request endOf goes began request, reportedEnd_over, eventsReported_over, attemptOver_slot, if_pos request,
        attemptOver_heldBy]
      refine ⟨by cases l <;> rfl, ⟨fun f mine => ?_, fun f other => ?_⟩, fun b => ?_⟩
      · obtain rfl : g = f := Option.some.inj (request.symm.trans mine)
        exact (State.setSlot_slot ..).trans (if_pos rfl)
      · have another : ¬ f = g := fun is => other (is ▸ request)
        have before := (attemptOver_slot (s := s) (l := l) (d := d) o f).trans (if_neg other)
        exact (State.setSlot_slot ..).trans ((if_neg another).trans before)
      · refine (pooled_get (attemptOver s l o x d).buffers (s.heldBy g) b).trans ?_
        have buffer : (attemptOver s l o x d).buffers[b.val] =
            if s.assembling l = some b then { s.buffer b with place := .free } else s.buffer b := attemptOver_buffer o b
        rw [buffer]
        exact freed_either (s.buffer b)

end Sys2Proof.Proofs.AttemptEnd

/-! A received character on its way to its one consumer (R4 to R6, R15 to R17), and the wait that it may have ended. -/

namespace Sys2Proof.Proofs.Characters

open Sys2Proof Sys2Proof.Machine Sys2Proof.Laws Sys2Proof.Proofs.Rows Sys2Proof.Proofs.Work Sys2Proof.Proofs.LineRows
open Sys2Proof.Proofs.RoleEnds Sys2Proof.Proofs.Selection Sys2Proof.Proofs.Selected Sys2Proof.Proofs.SilentEnds
open Sys2Proof.Proofs.AttemptEnd

/-! ### The row -/

section

variable {s : State} {l : Line} {c : CharSamples}

/-- A line that has taken note of a character which goes to the echo comparator. -/
def echoHeard (e : LineEngine) (c : CharSamples) : LineEngine :=
  { e.heard c with tx := e.tx }

theorem receiveChar_eq (s : State) (l : Line) (c : CharSamples) : s.receiveChar l (rxChar c) =
    ((s.setLine l (echoHeard (s.line l) c)).routeChar l (rxChar c)).settleWait l := by
  have noted : (if (rxChar c).noisy then s.countNoise l else s) = s.setLine l { s.line l with counters :=
      { (s.line l).counters with noise := if c.noisy then satInc (s.line l).counters.noise else (s.line l).counters.noise } } := by
    change (if c.noisy then s.countNoise l else s) = _
    cases c.noisy with
    | false => exact (setLine_self s l).symm
    | true => rfl
  unfold State.receiveChar
  refine congrArg (fun t : State => (t.routeChar l (rxChar c)).settleWait l) ?_
  have framing : (rxChar c).framing = c.framing := rfl
  unfold echoHeard LineEngine.heard State.restartSilence
  simp only [noted, framing, modLine_eq, line_setLine_self, setLine_setLine]
  cases c.framing with
  | false => rfl
  | true => rfl

theorem exec_characterReceived (on : (s.line l).role ≠ .off) (receiving : (s.line l).rx.state = .receiving)
    (starts : c.start.majority = false) : exec (.characterReceived l c) s =
      finish (((s.setLine l (echoHeard (s.line l) c)).routeChar l (rxChar c)).settleWait l) := by
  rw [← receiveChar_eq]
  exact congrArg finish ((if_pos (by simp [on, receiving])).trans (if_neg (by simp [starts])))

/-- A character that arrives goes to the frame reader (R6). -/
theorem exec_arrives (on : (s.line l).role ≠ .off) (arrives : s.arrives l c) : exec (.characterReceived l c) s =
    finish (((s.setLine l ((s.line l).heard c)).readChar l (rxChar c)).settleWait l) := by
  obtain ⟨receiving, starts, released, tail, -⟩ := arrives
  rw [exec_characterReceived on receiving starts]
  refine congrArg (fun t : State => finish (t.settleWait l)) ?_
  have engine : (s.setLine l (echoHeard (s.line l) c)).line l = echoHeard (s.line l) c := line_setLine_self ..
  have noEcho : ¬ ((echoHeard (s.line l) c).tx.enable ||
      ((echoHeard (s.line l) c).tx.tail && !(echoHeard (s.line l) c).rx.afterRelease)) = true := by
    have shown : (echoHeard (s.line l) c).tx.enable = (s.line l).tx.enable ∧
        (echoHeard (s.line l) c).tx.tail = (s.line l).tx.tail ∧
        (echoHeard (s.line l) c).rx.afterRelease = (s.line l).rx.afterRelease := ⟨rfl, rfl, rfl⟩
    rw [shown.1, shown.2.1, shown.2.2, released]
    cases tailed : (s.line l).tx.tail with
    | false => simp
    | true => simp [tail tailed]
  unfold State.routeChar
  rw [engine]
  refine (if_neg noEcho).trans ?_
  rw [State.modTx_eq, modLine_eq, engine, setLine_setLine]
  rfl

/-- The state in which the consumer gets the report of a character. -/
def charRead (s : State) (l : Line) (c : CharSamples) (r : Reader) : State :=
  s.setLine l { (s.line l).heard c with reader := r }

theorem readChar_reported {r : Reader} {y : ReaderReport}
    (reads : (s.line l).reader.char (s.line l).params.gapLimit (rxChar c) = (r, some y)) :
    (s.setLine l ((s.line l).heard c)).readChar l (rxChar c) = (charRead s l c r).deliver l y := by
  have heard : ((s.line l).heard c).reader.char ((s.line l).heard c).params.gapLimit (rxChar c) = (r, some y) := reads
  unfold State.readChar charRead
  simp only [line_setLine_self, heard, State.modReader_eq, modLine_eq, setLine_setLine]

theorem readChar_unreported {r : Reader}
    (reads : (s.line l).reader.char (s.line l).params.gapLimit (rxChar c) = (r, none)) :
    (s.setLine l ((s.line l).heard c)).readChar l (rxChar c) = charRead s l c r := by
  have heard : ((s.line l).heard c).reader.char ((s.line l).heard c).params.gapLimit (rxChar c) = (r, none) := reads
  unfold State.readChar charRead
  simp only [line_setLine_self, heard, State.modReader_eq, modLine_eq, setLine_setLine]

/-- A character that the frame reader reports on a mastering line goes to the transaction controller. -/
theorem exec_controller {r : Reader} {y : ReaderReport} (mastering : (s.line l).role.mastering = true) (arrives : s.arrives l c)
    (reads : (s.line l).reader.char (s.line l).params.gapLimit (rxChar c) = (r, some y)) :
    exec (.characterReceived l c) s = finish (((charRead s l c r).controllerReport l y).settleWait l) := by
  have here : ((charRead s l c r).line l).role.mastering = true := by
    unfold charRead
    rw [line_setLine_self]
    exact mastering
  have on : (s.line l).role ≠ .off := fun off => by rw [off] at mastering; cases mastering
  rw [exec_arrives on arrives, readChar_reported reads]
  exact congrArg (fun t : State => finish (t.settleWait l)) (deliver_of_mastering here)

/-- A character that the frame reader reports on a STANDBY line goes to the observer. -/
theorem exec_observer {r : Reader} {y : ReaderReport} (standby : (s.line l).role = .standby) (arrives : s.arrives l c)
    (reads : (s.line l).reader.char (s.line l).params.gapLimit (rxChar c) = (r, some y)) :
    exec (.characterReceived l c) s = finish (((charRead s l c r).observerReport l y).settleWait l) := by
  have here : ((charRead s l c r).line l).role = .standby := by
    unfold charRead
    rw [line_setLine_self]
    exact standby
  rw [exec_arrives (by rw [standby]; decide) arrives, readChar_reported reads]
  exact congrArg (fun t : State => finish (t.settleWait l)) (deliver_of_standby here)

/-- A character that the frame reader does not report. -/
theorem exec_unreported {r : Reader} (on : (s.line l).role ≠ .off) (arrives : s.arrives l c)
    (reads : (s.line l).reader.char (s.line l).params.gapLimit (rxChar c) = (r, none)) :
    exec (.characterReceived l c) s = finish ((charRead s l c r).settleWait l) := by
  rw [exec_arrives on arrives, readChar_unreported reads]

end

/-! ### The frame reader (R15 to R17) -/

section

variable {e : LineEngine} {c : CharSamples}

theorem char_stray (hunts : e.reader.state = .hunt) (mark : c.markBit = false) :
    e.reader.char e.params.gapLimit (rxChar c) = (e.reader, some (.stray c.noisy c.framing)) := by
  simp [Reader.char, Reader.hunt, hunts, rxChar, mark]

theorem char_startFraming (hunts : e.reader.state = .hunt) (mark : c.markBit = true) (framing : c.framing = true) :
    e.reader.char e.params.gapLimit (rxChar c) = (e.flushed e.reader, some (.startFraming c.byte)) := by
  simp [Reader.char, Reader.hunt, hunts, rxChar, mark, framing, Reader.toFlush, LineEngine.flushed]

theorem char_start (hunts : e.reader.state = .hunt) (mark : c.markBit = true) (framing : c.framing = false) :
    e.reader.char e.params.gapLimit (rxChar c) = (e.opened c.byte, some (.start c.byte)) := by
  simp [Reader.char, Reader.hunt, hunts, rxChar, mark, framing, LineEngine.opened]

theorem char_flush (flush : e.reader.state = .flush) : e.reader.char e.params.gapLimit (rxChar c) = (e.reader, none) := by
  simp [Reader.char, flush]

theorem char_fault (opened : e.reader.state = .inFrame) (fault : c.framing = true ∨ c.markBit = true) :
    e.reader.char e.params.gapLimit (rxChar c) = (e.flushed e.reader, some (.fault .framing)) := by
  simp [Reader.char, opened, rxChar, fault, Reader.toFlush, LineEngine.flushed]

variable (opened : e.reader.state = .inFrame) (plain : plainChar c)

include opened plain

theorem char_take : e.reader.char e.params.gapLimit (rxChar c) = e.reader.take e.params.gapLimit c.byte := by
  simp [Reader.char, opened, rxChar, plain.1, plain.2]

theorem char_control (control : e.reader.position = .control) : e.reader.char e.params.gapLimit (rxChar c) =
    ({ e.reader with sum := e.reader.sum + c.byte, position := .length }, some (.control c.byte)) := by
  rw [char_take opened plain]
  simp [Reader.take, control]

theorem char_length_over (length : e.reader.position = .length) (long : 32 < c.byte.toNat) :
    e.reader.char e.params.gapLimit (rxChar c) =
      (e.flushed { e.reader with sum := e.reader.sum + c.byte }, some (.fault .length)) := by
  rw [char_take opened plain]
  simp [Reader.take, length, long, Reader.toFlush, LineEngine.flushed]

theorem char_length (length : e.reader.position = .length) (fits : c.byte.toNat ≤ 32) :
    e.reader.char e.params.gapLimit (rxChar c) =
      ({ e.reader with sum := e.reader.sum + c.byte, expected := c.byte.toNat
                       position := if c.byte = 0 then .check else .payload 0 }, some (.length c.byte.toNat)) := by
  rw [char_take opened plain]
  simp [Reader.take, length, Nat.not_lt.mpr fits]

theorem char_payload {k : Nat} (payload : e.reader.position = .payload k) : e.reader.char e.params.gapLimit (rxChar c) =
    ({ e.reader with sum := e.reader.sum + c.byte
                     position := if k + 1 < e.reader.expected then .payload (k + 1) else .check }, some (.payload k c.byte)) := by
  rw [char_take opened plain]
  simp [Reader.take, payload]

theorem char_check (check : e.reader.position = .check) (right : c.byte = ~~~ e.reader.sum) :
    e.reader.char e.params.gapLimit (rxChar c) = ({ e.reader with state := .hunt, sum := 0 }, some .complete) := by
  rw [char_take opened plain]
  simp [Reader.take, check, right]

theorem char_check_wrong (check : e.reader.position = .check) (wrong : c.byte ≠ ~~~ e.reader.sum) :
    e.reader.char e.params.gapLimit (rxChar c) = (e.flushed e.reader, some (.fault .check)) := by
  rw [char_take opened plain]
  simp [Reader.take, check, wrong, Reader.toFlush, LineEngine.flushed]

end

/-! ### No wait is left after the end of an attempt (R51) -/

section

variable {s t : State} {l : Line}

theorem settleWait_of_none (noWait : (s.line l).ctl.deciding = false ∨ (s.line l).ctl.state ≠ .await)
    (free : (s.line l).observer.waiting = false) : s.settleWait l = s := by
  have still := settleWait_still (s := s) (l := l) noWait free
  rwa [setLine_self] at still

theorem deciding_select (judged : (s.line l).ctl.deciding = false) : ((s.select l).line l).ctl.deciding = false := by
  have chosen := chosen_select s l
  generalize s.select l = t at chosen
  have guard (u : State) (x : Txn) : ((u.enterGuard l x).line l).ctl.deciding = false := by
    unfold State.enterGuard
    rw [State.modLine_line, if_pos rfl]
  cases chosen with
  | nothing h =>
    obtain ⟨c, k, n, line⟩ := h.line
    rw [line]
    exact judged
  | request h g _ =>
    obtain ⟨retry, x, -, start⟩ := startRequest_eq _ l g
    rw [start]
    exact guard ..
  | extra d _ => exact guard ..
  | poll h d _ | sync h => exact guard ..
  | pause h n =>
    obtain ⟨c, k, m, line⟩ := h.line
    unfold State.startPause State.countPerformed
    rw [State.modCtl_eq, State.modLine_line, if_pos rfl, State.modCycle_eq, State.modLine_line, if_pos rfl, line]
    exact judged

theorem deciding_finishTxn (s : State) (l : Line) : ((s.finishTxn l).line l).ctl.deciding = false := by
  obtain ⟨-, same⟩ | ⟨y, -, ⟨g, -, same⟩ | ⟨p, same⟩⟩ := finishTxn_cases l s
  · simp [same, Controller.toIdle]
  · obtain ⟨u, v, queues⟩ := putBack_line (s.modCtl l Controller.toIdle) l g y.lastLength
    rw [same, queues]
    simp [Controller.toIdle]
  · simp [same, Controller.toIdle]

theorem deciding_afterAttempt (judged : (s.line l).ctl.deciding = false) (o : TxnOutcome) :
    ((s.afterAttempt l o).line l).ctl.deciding = false := by
  unfold State.afterAttempt
  split
  · exact judged
  · split
    · split
      · unfold State.enterBackoff
        rw [State.modLine_line, if_pos rfl]
      · unfold State.enterGuard
        rw [State.modLine_line, if_pos rfl]
    · exact deciding_select (deciding_finishTxn ..)

/-- A demotion leaves no wait. -/
theorem demote_noWait (s : State) (l : Line) :
    ((s.demote l).line l).ctl.deciding = false ∧ ((s.demote l).line l).observer.waiting = false := by
  unfold State.demote
  dsimp only
  rw [enterStandby_eq, onStandby_ctl]
  refine ⟨deciding_finishTxn .., ?_⟩
  unfold State.onStandby
  simp only [returned_eq]
  cases l <;> rfl

theorem endAttempt_noWait {x : Txn} (inHand : (s.line l).ctl.txn = some x) (free : (s.line l).observer.waiting = false)
    (o : TxnOutcome) :
    ((s.endAttempt l o).line l).ctl.deciding = false ∧ ((s.endAttempt l o).line l).observer.waiting = false := by
  have after {u : State} (judged : (u.line l).ctl.deciding = false ∧ (u.line l).observer.waiting = false) :
      ((u.afterAttempt l o).line l).ctl.deciding = false ∧ ((u.afterAttempt l o).line l).observer.waiting = false :=
    ⟨deciding_afterAttempt judged.1 o, by rw [(OnlyWork.afterAttempt (k := l) u l o).observer]; exact judged.2⟩
  have reported : ((attemptReported s l o x).line l).ctl.deciding = false ∧
      ((attemptReported s l o x).line l).observer.waiting = false := by
    rw [attemptReported_line]
    exact ⟨rfl, free⟩
  have met : (((attemptReported s l o x).meetContention l).line l).ctl.deciding = false ∧
      (((attemptReported s l o x).meetContention l).line l).observer.waiting = false := by
    unfold State.meetContention
    dsimp only
    split
    · exact demote_noWait ..
    · unfold State.countContention
      rw [State.modLine_line, if_pos rfl]
      exact reported
  rw [endAttempt_eq s l inHand]
  split
  · split
    · exact after met
    · exact met
  · exact after reported

/-- The end of an attempt, on a line that had one or did not wait, leaves no wait to settle. -/
theorem settleWait_endAttempt (waits : (s.line l).ctl.txn ≠ none ∨ (s.line l).ctl.state ≠ .await)
    (free : (s.line l).observer.waiting = false) (o : TxnOutcome) : (s.endAttempt l o).settleWait l = s.endAttempt l o := by
  cases inHand : (s.line l).ctl.txn with
  | none =>
    rw [endAttempt_none s l inHand]
    exact settleWait_of_none (.inr (waits.resolve_left fun some => some inHand)) free
  | some x =>
    obtain ⟨judged, still⟩ := endAttempt_noWait inHand free o
    exact settleWait_of_none (.inl judged) still

end

end Sys2Proof.Proofs.Characters

/-! What reaches the controller of a mastering line outside its own reply (R47, R48, R50, R61, R65). -/

namespace Sys2Proof.Proofs.Foreign

open Sys2Proof Sys2Proof.Machine Sys2Proof.Laws Sys2Proof.Proofs.Rows Sys2Proof.Proofs.Work Sys2Proof.Proofs.LineRows
open Sys2Proof.Proofs.RoleEnds Sys2Proof.Proofs.SilentEnds Sys2Proof.Proofs.AttemptEnd Sys2Proof.Proofs.Characters

/-! ### One engine written after another -/

section

variable (s : State) (l : Line) (e : LineEngine)

theorem modCtl_setLine (f : Controller → Controller) : (s.setLine l e).modCtl l f = s.setLine l { e with ctl := f e.ctl } := by
  rw [State.modCtl_eq, modLine_eq, line_setLine_self, setLine_setLine]

theorem countUnsolicited_setLine : (s.setLine l e).countUnsolicited l =
    s.setLine l { e with counters := { e.counters with unsolicited := satInc e.counters.unsolicited } } := by
  unfold State.countUnsolicited
  rw [State.modCounters_eq, modLine_eq, line_setLine_self, setLine_setLine]

theorem countStale_setLine : (s.setLine l e).countStale l =
    s.setLine l { e with counters := { e.counters with stale := satInc e.counters.stale } } := by
  unfold State.countStale
  rw [State.modCounters_eq, modLine_eq, line_setLine_self, setLine_setLine]

theorem discard_setLine (why : DiscardWhy) : (s.setLine l e).discard l why =
    s.setLine l { e with ctl := { e.ctl with state := .discard, discard := why } } := modCtl_setLine ..

end

/-! ### The controller's reports, by its state -/

section

variable {s : State} {l : Line} {e : LineEngine} {y : ReaderReport}

/-- IDLE, GUARD, BACKOFF and PAUSE (R61). -/
abbrev Quiet (k : CtlState) : Prop :=
  k = .idle ∨ k = .guard ∨ k = .backoff ∨ k = .pause

theorem controllerReport_quiet (quiet : Quiet e.ctl.state) :
    (s.setLine l e).controllerReport l y = (s.setLine l e).quietReport l y := by
  unfold State.controllerReport
  rw [line_setLine_self]
  obtain is | is | is | is := quiet <;> rw [is]

theorem controllerReport_await (await : e.ctl.state = .await) :
    (s.setLine l e).controllerReport l y = (s.setLine l e).awaitReport l y := by
  unfold State.controllerReport
  rw [line_setLine_self, await]

theorem controllerReport_receive (receive : e.ctl.state = .receive) :
    (s.setLine l e).controllerReport l y = (s.setLine l e).receiveReport l y := by
  unfold State.controllerReport
  rw [line_setLine_self, receive]

theorem controllerReport_discard (discard : e.ctl.state = .discard) :
    (s.setLine l e).controllerReport l y = (s.setLine l e).discardReport l y := by
  unfold State.controllerReport
  rw [line_setLine_self, discard]

theorem controllerReport_kept (send : e.ctl.state = .send) : (s.setLine l e).controllerReport l y =
    s.setLine l { e with ctl := { e.ctl with kept := e.ctl.kept ++ [y] } } := by
  unfold State.controllerReport
  rw [line_setLine_self, send]
  dsimp only
  rw [modCtl_setLine, send]

theorem not_await_of_quiet {k : CtlState} (quiet : Quiet k) : k ≠ .await := by
  obtain rfl | rfl | rfl | rfl := quiet <;> decide

/-! ### A foreign call met while no attempt is in flight (R61, R131) -/

/-- A line engine that has counted a contention. -/
def met (e : LineEngine) : LineEngine :=
  { e with contention := min 255 (e.contention + 1)
           counters := { e.counters with contention := satInc e.counters.contention } }

theorem countContention_setLine : (s.setLine l e).countContention l = s.setLine l (met e) := by
  unfold State.countContention met
  rw [modLine_eq, line_setLine_self, setLine_setLine]

theorem meetContention_below (below : ¬ (e.role = .master ∧ e.params.contentionLimit ≤ min 255 (e.contention + 1))) :
    (s.setLine l e).meetContention l = s.setLine l (met e) := by
  unfold State.meetContention
  rw [countContention_setLine]
  dsimp only
  rw [line_setLine_self]
  refine if_neg fun reached => below ?_
  rw [Bool.and_eq_true] at reached
  exact ⟨of_decide_eq_true reached.1, of_decide_eq_true reached.2⟩

theorem meetContention_limit (limit : e.role = .master ∧ e.params.contentionLimit ≤ min 255 (e.contention + 1)) :
    (s.setLine l e).meetContention l = (s.setLine l (met e)).demote l := by
  unfold State.meetContention
  rw [countContention_setLine]
  dsimp only
  rw [line_setLine_self]
  exact if_pos (by rw [Bool.and_eq_true]; exact ⟨decide_eq_true limit.1, decide_eq_true limit.2⟩)

end

/-- Settles O49, by the state of the controller and what the frame reader reports to it. -/
theorem foreignCallsAndStrays : Obligations.ForeignCallsAndStrays := by
  unfold Obligations.ForeignCallsAndStrays
  intro s l c arrives mastering e h k quiet call counted opened flushed gives contentions demoted
  have free : h.observer.waiting = false := arrives.2.2.2.2
  have on : (s.line l).role ≠ .off := fun off => by rw [off] at mastering; cases mastering
  have row {r : Reader} {y : ReaderReport} (reads : (s.line l).reader.char (s.line l).params.gapLimit (rxChar c) = (r, some y)) :
      exec (.characterReceived l c) s = finish (((charRead s l c r).controllerReport l y).settleWait l) :=
    exec_controller mastering arrives reads
  /- What a character comes to where the controller's answer to its report is one engine and it does not wait. -/
  have still {r : Reader} {y : ReaderReport} {e' : LineEngine}
      (reads : (s.line l).reader.char (s.line l).params.gapLimit (rxChar c) = (r, some y))
      (answer : (charRead s l c r).controllerReport l y = s.setLine l e') (observer : e'.observer = h.observer)
      (noWait : e'.ctl.deciding = false ∨ e'.ctl.state ≠ .await) : gives (s.setLine l e') := by
    change exec (.characterReceived l c) s = finish (s.setLine l e')
    rw [row reads, answer, settleWait_still noWait (by rw [observer]; exact free)]
  have calling (calls : call) : isReply c.byte = false := calls
  have replying (reply : ¬ call) : isReply c.byte = true := (Bool.not_eq_false _).mp reply
  refine ⟨fun hunts mark => ⟨?strayQuiet, ?strayWaits⟩, fun hunts mark quietly => ?quiet,
    fun x inHand hunts mark await => ?await, fun discard => ?discard⟩
  case strayQuiet =>
    intro quietly
    have reads := char_stray (e := s.line l) (c := c) hunts mark
    have noWait : e.ctl.deciding = false ∨ e.ctl.state ≠ .await :=
      quietly.elim (fun q => .inr (not_await_of_quiet q)) fun q => .inl q.2
    refine still reads ?_ rfl noWait
    unfold charRead
    obtain q | ⟨await, -⟩ := quietly
    · rw [controllerReport_quiet (by exact q)]
      exact countUnsolicited_setLine ..
    · rw [controllerReport_await (by exact await)]
      exact countUnsolicited_setLine ..
  case strayWaits =>
    intro await deciding
    have reads := char_stray (e := s.line l) (c := c) hunts mark
    have answer : (charRead s l c (s.line l).reader).controllerReport l (.stray c.noisy c.framing) = s.setLine l (counted h) := by
      unfold charRead
      rw [controllerReport_await (by exact await)]
      exact countUnsolicited_setLine ..
    change exec (.characterReceived l c) s = finish ((s.setLine l (counted h)).endAttempt l .timeout)
    rw [row reads, answer, settleWait_timeout (by exact deciding) (by exact await)]
  case quiet =>
    have noWait : e.ctl.deciding = false ∨ e.ctl.state ≠ .await := .inr (not_await_of_quiet quietly)
    have answers (r : Reader) (y : ReaderReport) : (charRead s l c r).controllerReport l y = (charRead s l c r).quietReport l y :=
      controllerReport_quiet (by exact quietly)
    refine ⟨fun good calls stays => ?_, fun good calls demotes agree => ?_, fun good reply => ?_, fun bad calls => ?_,
      fun bad reply => ?_⟩
    · refine still (char_start (e := s.line l) hunts mark good) ?_ rfl noWait
      exact (answers _ _).trans ((if_neg (by rw [calling calls]; decide)).trans (meetContention_below (by exact stays)))
    · have own : OwnRequest (s.setLine l (met opened)) l := fun g mine => by
        rw [txnTag_eq, line_setLine_self] at mine
        rw [State.setLine_slot]
        exact (agree.2 l g (by rw [txnTag_eq]; exact mine)).2
      have answer : (charRead s l c (e.opened c.byte)).controllerReport l (.start c.byte) = (s.setLine l (met opened)).demoted l :=
        (answers _ _).trans ((if_neg (by rw [calling calls]; decide)).trans
          ((meetContention_limit (by exact demotes)).trans (demote_eq _ l own)))
      have noWaitThen := demote_noWait (s.setLine l (met opened)) l
      rw [demote_eq _ l own] at noWaitThen
      change exec (.characterReceived l c) s = finish ((s.setLine l (met opened)).demoted l)
      rw [row (char_start (e := s.line l) hunts mark good), answer, settleWait_of_none (.inl noWaitThen.1) noWaitThen.2]
    · refine still (char_start (e := s.line l) hunts mark good) ?_ rfl noWait
      exact (answers _ _).trans ((if_pos (replying reply)).trans (countUnsolicited_setLine ..))
    · refine still (char_startFraming (e := s.line l) hunts mark bad) ?_ rfl noWait
      exact (answers _ _).trans (if_neg (by rw [calling calls]; decide))
    · refine still (char_startFraming (e := s.line l) hunts mark bad) ?_ rfl noWait
      exact (answers _ _).trans ((if_pos (replying reply)).trans (countUnsolicited_setLine ..))
  case await =>
    have answers (r : Reader) (y : ReaderReport) : (charRead s l c r).controllerReport l y = (charRead s l c r).awaitReport l y :=
      controllerReport_await (by exact await)
    have address (r : Reader) : ((charRead s l c r).line l).ctl.address = x.address := by
      have txn : ((s.line l).heard c).ctl.txn = some x := inHand
      unfold charRead Controller.address
      rw [line_setLine_self]
      simp only [txn]
    intro mine passing
    have matching (r : Reader) : addressOf c.byte = ((charRead s l c r).line l).ctl.address ↔ c.byte.setWidth 7 = x.address := by
      rw [address]
      rfl
    refine ⟨fun good calls => ?_, fun good isMine => ?_, fun good reply other => ?_, fun bad isMine => ?_, fun bad other => ?_⟩
    · have answer : (charRead s l c (e.opened c.byte)).controllerReport l (.start c.byte) =
          (s.setLine l opened).endAttempt l .contention := (answers _ _).trans (if_pos (by rw [calling calls]; rfl))
      have txn : ((s.setLine l opened).line l).ctl.txn ≠ none := by
        rw [line_setLine_self]
        exact fun none => by rw [show opened.ctl.txn = some x from inHand] at none; cases none
      change exec (.characterReceived l c) s = finish ((s.setLine l opened).endAttempt l .contention)
      rw [row (char_start (e := s.line l) hunts mark good), answer,
        settleWait_endAttempt (.inl txn) (by rw [line_setLine_self]; exact free)]
    · refine still (char_start (e := s.line l) hunts mark good) ?_ rfl (.inr (by rintro ⟨⟩))
      refine (answers _ _).trans ((if_neg (by simp [isReply, isMine.1])).trans ((if_pos ((matching _).mpr isMine.2)).trans ?_))
      exact modCtl_setLine ..
    · refine still (char_start (e := s.line l) hunts mark good) ?_ rfl (.inr (by rintro ⟨⟩))
      have isReply := replying reply
      have notMine : ¬ c.byte.setWidth 7 = x.address := fun same => other ⟨isReply, same⟩
      refine (answers _ _).trans ((if_neg (by simp [isReply])).trans ((if_neg (mt (matching _).mp notMine)).trans ?_))
      unfold charRead
      rw [countStale_setLine, discard_setLine]
      rfl
    · refine still (char_startFraming (e := s.line l) hunts mark bad) ?_ rfl (.inr (by rintro ⟨⟩))
      have both : (isReply c.byte && addressOf c.byte =
          ((charRead s l c ((s.line l).flushed (s.line l).reader)).line l).ctl.address) = true := by
        rw [Bool.and_eq_true]
        exact ⟨isMine.1, decide_eq_true ((matching _).mpr isMine.2)⟩
      refine (answers _ _).trans ((if_pos both).trans ?_)
      exact discard_setLine ..
    · refine still (char_startFraming (e := s.line l) hunts mark bad) ?_ rfl (.inr (by rintro ⟨⟩))
      have notBoth : ¬ (isReply c.byte && addressOf c.byte =
          ((charRead s l c ((s.line l).flushed (s.line l).reader)).line l).ctl.address) = true := by
        rw [Bool.and_eq_true]
        exact fun both => other ⟨both.1, (matching _).mp (of_decide_eq_true both.2)⟩
      refine (answers _ _).trans ((if_neg notBoth).trans ?_)
      unfold charRead
      rw [countUnsolicited_setLine, discard_setLine]
      rfl
  case discard =>
    intro closed clean
    have answers (r : Reader) (y : ReaderReport) : (charRead s l c r).controllerReport l y = (charRead s l c r).discardReport l y :=
      controllerReport_discard (by exact discard)
    have notAwait : e.ctl.state ≠ .await := fun await => by cases discard.symm.trans await
    refine ⟨fun opened isClean => ?_, fun flush => ?_, fun opened unclean => ?_⟩
    · obtain ⟨plain, check, right⟩ := isClean
      have answer : (charRead s l c { e.reader with state := .hunt, sum := 0 }).controllerReport l .complete =
        (s.setLine l closed).discardEnd l := answers _ _
      have ended (o : TxnOutcome) (answer : (s.setLine l closed).discardEnd l = (s.setLine l closed).endAttempt l o) :
          gives ((s.setLine l closed).endAttempt l o) := by
        have away : ((s.setLine l closed).line l).ctl.state ≠ .await := by
          rw [line_setLine_self]
          exact notAwait
        change exec (.characterReceived l c) s = finish ((s.setLine l closed).endAttempt l o)
        rw [row (char_check (e := s.line l) opened plain check right), answers]
        exact congrArg finish ((congrArg (·.settleWait l) answer).trans
          (settleWait_endAttempt (.inr away) (by rw [line_setLine_self]; exact free) o))
      refine ⟨fun o faulty => ?_, fun passing elapsed => ?_, fun passing runs judged => ?_⟩
      · exact ended o (discardEnd_faulty (by exact faulty))
      · exact ended .timeout ((discardEnd_passing (by exact passing)).trans (if_pos elapsed))
      · refine still (char_check (e := s.line l) opened plain check right) ?_ rfl (.inl judged)
        exact answer.trans ((discardEnd_passing (by exact passing)).trans (if_neg runs))
    · change exec (.characterReceived l c) s = finish (s.setLine l h)
      rw [exec_unreported on arrives (char_flush flush)]
      exact congrArg finish (settleWait_still (.inr notAwait) free)
    · have ignored {r : Reader} {y : ReaderReport}
          (reads : (s.line l).reader.char (s.line l).params.gapLimit (rxChar c) = (r, some y))
          (noEnd : (charRead s l c r).discardReport l y = charRead s l c r) : ∃ t, exec (.characterReceived l c) s = .next t ∧
            t = { s.setLine l { h with reader := (t.line l).reader } with irqPin := t.irqPin } := by
        refine ⟨(charRead s l c r).driveIrq, ?_, ?_⟩
        · exact still reads ((answers r y).trans noEnd) rfl (.inr notAwait)
        · unfold charRead
          rw [State.driveIrq_line, line_setLine_self]
          rfl
      by_cases plain : plainChar c
      · cases position : e.reader.position with
        | control => exact ignored (char_control (e := s.line l) opened plain position) rfl
        | length =>
          by_cases long : 32 < c.byte.toNat
          · exact ignored (char_length_over (e := s.line l) opened plain position long) rfl
          · exact ignored (char_length (e := s.line l) opened plain position (Nat.not_lt.mp long)) rfl
        | payload k => exact ignored (char_payload (e := s.line l) opened plain position) rfl
        | check =>
          have wrong : c.byte ≠ ~~~ e.reader.sum := fun right => unclean ⟨plain, position, right⟩
          exact ignored (char_check_wrong (e := s.line l) opened plain position wrong) rfl
      · refine ignored (char_fault (e := s.line l) opened ?_) rfl
        simpa [plainChar, or_iff_not_imp_left] using plain

end Sys2Proof.Proofs.Foreign

/-! A reply's way into a buffer and into the ready list (R54, R108, R113, R115 to R117), and the kinds of a control byte. -/

namespace Sys2Proof.Proofs.Storing

open Sys2Proof Sys2Proof.Machine Sys2Proof.Laws Sys2Proof.Proofs.Rows Sys2Proof.Proofs.Work Sys2Proof.Proofs.LineRows
open Sys2Proof.Proofs.SubmitFills

/-! ### The ready list (R116, R117) -/

section

variable {s : State} {i old : BufIx} {o : Origin} {d : DropIx}

/-- The ready list as far as a REPLACE may look at it. -/
abbrev reachable (s : State) : List BufIx :=
  if s.opened then s.ready.drop 1 else s.ready

theorem mem_ready_of_reachable {j : BufIx} (member : j ∈ reachable s) : j ∈ s.ready := by
  unfold reachable at member
  split at member
  · exact List.mem_of_mem_drop member
  · exact member

/-- A buffer that is not in the ready list is none of the targets, and what it holds is no matter to them. -/
theorem replaceTargets_modBuffer (new : i ∉ s.ready) (f : Buffer → Buffer) : (s.modBuffer i f).replaceTargets o d =
    (reachable s).filter fun j => decide (s.replaceable o d j) := by
  unfold State.replaceTargets
  refine List.filter_congr fun j member => ?_
  have other : j ≠ i := fun same => new (same ▸ mem_ready_of_reachable member)
  rw [State.modBuffer_buffer, if_neg other, Bool.decide_and]

/-- The buffer joins at the tail (R116). -/
theorem storeReady_append (new : i ∉ s.ready) (origin : (s.buffer i).origin = o) (drop : (s.buffer i).drop = d)
    (last : (s.buffer i).mode = .append ∨ ∀ j ∈ reachable s, ¬ s.replaceable o d j) : s.storeReady i =
      { s.setBuffer i { s.buffer i with place := .ready, replaced := 0 } with ready := s.ready ++ [i] } := by
  generalize stored : ({ s.setBuffer i { s.buffer i with place := .ready, replaced := 0 } with ready := s.ready ++ [i] } :
    State) = t
  unfold State.storeReady
  dsimp only
  rw [origin, drop, replaceTargets_modBuffer new]
  split
  · next old replaces found =>
    have member := List.mem_filter.mp (List.mem_of_getLast? found)
    exact absurd (of_decide_eq_true member.2) (last.resolve_left (by rw [replaces]; decide) old member.1)
  all_goals exact stored

/-- The buffer takes the place of the one nearest the tail that it may replace (R117). -/
theorem storeReady_replace (new : i ∉ s.ready) (origin : (s.buffer i).origin = o) (drop : (s.buffer i).drop = d)
    (mode : (s.buffer i).mode = .replace) {front back : List BufIx} (ready : s.ready = front ++ old :: back)
    (shut : s.opened = true → front ≠ []) (before : old ∉ front) (target : s.replaceable o d old)
    (after : ∀ j ∈ back, ¬ s.replaceable o d j) : s.storeReady i =
      { (s.setBuffer i { s.buffer i with place := .ready, replaced := min 255 ((s.buffer old).replaced + 1) }).setBuffer old
          { s.buffer old with place := .free } with ready := front ++ i :: back } := by
  have reach : ∃ head, reachable s = head ++ old :: back := by
    unfold reachable
    rw [ready]
    split
    · next isOpen =>
      obtain ⟨first, rest, rfl⟩ := List.exists_cons_of_ne_nil (shut isOpen)
      exact ⟨rest, rfl⟩
    · exact ⟨front, rfl⟩
  obtain ⟨head, reach⟩ := reach
  have found : ((reachable s).filter fun j => decide (s.replaceable o d j)).getLast? = some old := by
    have tail : back.filter (fun j => decide (s.replaceable o d j)) = [] := by
      rw [List.filter_eq_nil_iff]
      exact fun j member => by simpa using after j member
    rw [reach, List.filter_append, List.filter_cons_of_pos (by simpa using target), tail]
    simp
  have different : old ≠ i := fun same => new (by rw [ready, ← same]; simp)
  have behind : old ∉ back := fun member => after old member target
  have list : s.ready.map (fun j => if j = old then i else j) = front ++ i :: back := by
    rw [ready, List.map_append, List.map_cons, if_pos rfl]
    have same {xs : List BufIx} (out : old ∉ xs) : xs.map (fun j => if j = old then i else j) = xs :=
      (List.map_congr_left fun j member => if_neg fun is : j = old => out (is ▸ member)).trans (List.map_id' xs)
    rw [same before, same behind]
  generalize stored : ({ (s.setBuffer i { s.buffer i with place := .ready
                                                          replaced := min 255 ((s.buffer old).replaced + 1) }).setBuffer old
      { s.buffer old with place := .free } with ready := front ++ i :: back } : State) = t
  unfold State.storeReady
  dsimp only
  rw [origin, drop, replaceTargets_modBuffer new, found]
  split
  · next again _ is =>
    obtain rfl : old = again := Option.some.inj is
    rw [← stored]
    have kept (x y : Buffer) : ((s.setBuffer i x).setBuffer i y) = s.setBuffer i y :=
      congrArg (fun bs => { s with buffers := bs }) (Vector.set_set (hi := i.isLt) ..)
    have oldBuffer (x : Buffer) : (s.setBuffer i x).buffer old = s.buffer old := by
      rw [State.setBuffer_buffer, if_neg different]
    have newBuffer (x : Buffer) : (s.setBuffer i x).buffer i = x := by
      rw [State.setBuffer_buffer, if_pos rfl]
    unfold State.freeAt State.modBuffer
    simp only [oldBuffer, newBuffer, kept]
    rw [← list]
    rfl
  · next none => cases none
  · next appends => cases mode.symm.trans appends

end

/-! ### The hand-over (R115) -/

section

variable {s t : State} {l : Line} {i : BufIx} {o : Origin} {g : Option Tag} {d : DropIx} {a x : Bool}

/-- The reply as it is stored (R115). -/
abbrev handedOver (s : State) (l : Line) (i : BufIx) (o : Origin) (g : Option Tag) (d : DropIx) (a x : Bool) : Buffer :=
  { s.buffer i with
    place := .ready, origin := o, tag := g, drop := d, kind := .reply, attention := a, extraPoll := x, replaced := 0
    stamp := s.clock.timestamp, cycle := (s.line l).cycle.number }

theorem handOver_of_storedAs (found : s.assembling l = some i) (new : i ∉ s.ready)
    (stored : (s.setLine l { s.line l with stamping := some { buffer := i, left := 3 * (s.line l).divisor } }).storedAs t i
      (handedOver s l i o g d a x) o d) : s.handOver l o g d a x = t := by
  let stamped := s.setLine l { s.line l with stamping := some { buffer := i, left := 3 * (s.line l).divisor } }
  let given : Buffer := { s.buffer i with origin := o, tag := g, drop := d, kind := .reply, attention := a, extraPoll := x
                                          stamp := s.clock.timestamp, cycle := (s.line l).cycle.number }
  let u := stamped.setBuffer i given
  have handed : s.handOver l o g d a x = u.storeReady i := by
    unfold State.handOver
    rw [found]
    cases l <;> rfl
  have buffer : u.buffer i = given := (State.setBuffer_buffer ..).trans (if_pos rfl)
  have other {j : BufIx} (away : j ≠ i) : u.buffer j = stamped.buffer j := (State.setBuffer_buffer ..).trans (if_neg away)
  have ready : u.ready = s.ready := State.setLine_ready ..
  have again (y : Buffer) : u.setBuffer i y = stamped.setBuffer i y :=
    congrArg (fun bs => { stamped with buffers := bs }) (Vector.set_set (hi := i.isLt) ..)
  have outside : i ∉ u.ready := by rwa [ready]
  have same {j : BufIx} (member : j ∈ u.ready) : u.replaceable o d j ↔ stamped.replaceable o d j := by
    have away : j ≠ i := fun is => outside (is ▸ member)
    unfold State.replaceable
    rw [other away]
  rw [handed]
  obtain ⟨last, is⟩ | ⟨front, old, back, mode, list, shut, before, target, after, is⟩ := stored
  · rw [is, storeReady_append (o := o) (d := d) outside (by rw [buffer]) (by rw [buffer]), buffer, again, ready]
    · rw [State.setLine_ready]
    · rw [buffer]
      refine last.imp id fun none j member => ?_
      rw [same (mem_ready_of_reachable member)]
      exact none j member
  · rw [State.setLine_ready] at list
    have inList {j : BufIx} (member : j ∈ front ++ old :: back) : j ∈ u.ready := by rwa [ready, list]
    have oldAway : old ≠ i := fun same => outside (inList (by simp [← same]))
    rw [is, storeReady_replace (o := o) (d := d) outside (by rw [buffer]) (by rw [buffer]) (by rw [buffer]; exact mode)
      (ready.trans list) (by exact shut) before ((same (inList (by simp))).mpr target)
      fun j member => (same (inList (by simp [member]))).not.mpr (after j member)]
    rw [buffer, again, other oldAway]

end

/-! ### A claim for a reply (R54, R108, R113) -/

section

variable {s : State} {l : Line} {e : LineEngine} {n : Nat} {m : StoreMode}

theorem assembling_setLine (s : State) (l k : Line) (e : LineEngine) : (s.setLine l e).assembling k = s.assembling k := by
  unfold State.assembling
  simp only [State.setLine_buffer]

theorem assembling_none (unclaimed : ∀ i, (s.buffer i).place ≠ .assembling l) : (s.setLine l e).assembling l = none :=
  State.assembling_eq_none.mpr fun i => by rw [State.setLine_buffer]; exact unclaimed i

theorem claimAssembly_denied (unclaimed : ∀ i, (s.buffer i).place ≠ .assembling l)
    (full : ∀ i, (s.buffer i).place ≠ .free) :
    (s.setLine l e).claimAssembly l n m = ({ s.setLine l { e with
      counters := { e.counters with repliesLost := satInc e.counters.repliesLost } } with
      events := s.events.raise .poolEmpty }, .denied) := by
  have none : (s.setLine l e).freeBuffer = none := State.freeBuffer_eq_none.mpr fun i => by
    rw [State.setLine_buffer]
    exact full i
  rw [State.claimAssembly_of_full (assembling_none unclaimed) none]
  cases l <;> rfl

theorem claimAssembly_granted {i : BufIx} (unclaimed : ∀ i, (s.buffer i).place ≠ .assembling l) (lowest : s.lowestFree i) :
    (s.setLine l e).claimAssembly l n m = ({ (s.setLine l e).setBuffer i { s.buffer i with
      place := .assembling l, line := l, length := n, mode := m, payload := unwritten s.fresh } with fresh := s.fresh + 1 },
      .granted) := by
  have free : (s.setLine l e).freeBuffer = some i := freeBuffer_eq_some.mpr
    ⟨by rw [State.setLine_buffer]; exact lowest.1, fun j below => by rw [State.setLine_buffer]; exact lowest.2 j below⟩
  rw [State.claimAssembly_of_free (assembling_none unclaimed) free]
  cases l <;> rfl

/-- A payload character of the assembling buffer (R108). -/
theorem writePayload_setLine {i : BufIx} {k : Nat} {b : Byte} (found : s.assembling l = some i) :
    (s.setLine l e).writePayload l k b = (s.setLine l e).setBuffer i
      { s.buffer i with payload := (s.buffer i).payload.setIfInBounds k b } := by
  have still : (s.setLine l e).assembling l = some i := (assembling_setLine ..).trans found
  unfold State.writePayload
  rw [still]
  exact congrArg (fun y : Buffer => (s.setLine l e).setBuffer i { y with payload := y.payload.setIfInBounds k b })
    (State.setLine_buffer ..)

end

/-! ### The kinds of a control byte (R52, R134) -/

/-- What answers a call of this kind has the kind that the low half of its control byte names. -/
theorem kindOf_of_answers {k : FrameKind} {b : Byte} (answer : answersCall k b) :
    kindOf b = some (replyKind b) ∧ answers k (replyKind b) = true := by
  unfold kindOf replyKind
  obtain ⟨rfl, is | is⟩ | ⟨rfl, is | is⟩ := answer <;> rw [is] <;> exact ⟨rfl, rfl⟩

theorem code_of_kindOf {y : FrameKind} {b : Byte} (kind : kindOf b = some y) : b &&& 0x0F = y.code := by
  unfold kindOf at kind
  split at kind
  case h_7 => cases kind
  all_goals
    next low =>
      cases kind
      exact BitVec.eq_of_toNat_eq low

theorem answersCall_of_kindOf {k y : FrameKind} {b : Byte} (kind : kindOf b = some y) (answer : answers k y = true) :
    answersCall k b := by
  have code := code_of_kindOf kind
  cases k with
  | poll =>
    obtain rfl | rfl : y = .reply ∨ y = .busy := by simpa [answers] using answer
    · exact .inl ⟨rfl, .inl code⟩
    · exact .inl ⟨rfl, .inr code⟩
  | data =>
    obtain rfl | rfl : y = .ack ∨ y = .busy := by simpa [answers] using answer
    · exact .inr ⟨rfl, .inl code⟩
    · exact .inr ⟨rfl, .inr code⟩
  | sync | reply | ack | busy => cases answer

end Sys2Proof.Proofs.Storing

/-! The reply of the called drop in RECEIVE (R49, R52 to R56, R113, R115). -/

namespace Sys2Proof.Proofs.Replies

open Sys2Proof Sys2Proof.Machine Sys2Proof.Laws Sys2Proof.Proofs.Rows Sys2Proof.Proofs.Work Sys2Proof.Proofs.LineRows
open Sys2Proof.Proofs.AttemptEnd Sys2Proof.Proofs.Characters Sys2Proof.Proofs.Foreign Sys2Proof.Proofs.Storing

section

variable {s t : State} {l : Line} {e : LineEngine} {c : CharSamples} {r : Reader} {y : ReaderReport}

/-- A character whose report the controller answers without leaving a wait. -/
theorem exec_controller_still (mastering : (s.line l).role.mastering = true) (arrives : s.arrives l c)
    (reads : (s.line l).reader.char (s.line l).params.gapLimit (rxChar c) = (r, some y))
    (answer : (charRead s l c r).controllerReport l y = t)
    (noWait : (t.line l).ctl.deciding = false ∨ (t.line l).ctl.state ≠ .await)
    (free : (t.line l).observer.waiting = false) : exec (.characterReceived l c) s = finish t := by
  rw [exec_controller mastering arrives reads, answer, settleWait_of_none noWait free]

theorem faultReply_setLine (opened : e.reader.state = .inFrame) (o : TxnOutcome) : (s.setLine l e).faultReply l o =
    s.setLine l { e with reader := e.flushed e.reader, ctl := { e.ctl with state := .discard, discard := .faulty o } } := by
  unfold State.faultReply State.declareError State.flushReader
  rw [line_setLine_self, if_pos opened, modLine_eq, line_setLine_self, setLine_setLine, discard_setLine]
  rfl

theorem storeMode_eq {x : Txn} {d : DropIx} (goes : x.drop = some d) :
    (s.setLine l e).storeMode x = replyMode x.source (s.drop d).replyPolicy := by
  have policy : ((s.setLine l e).drop d).replyPolicy = (s.drop d).replyPolicy := by rw [State.setLine_drop]
  unfold State.storeMode replyMode policyMode
  rw [goes]
  dsimp only
  generalize ((s.setLine l e).drop d).replyPolicy = p at policy ⊢
  subst policy
  cases x.source with
  | request => rfl
  | schedule | extraPoll | sync => cases (s.drop d).replyPolicy <;> rfl

/-- A stale reply is passed by (R49). -/
theorem receiveControl_stale {x : Txn} {d : DropIx} {b : Byte} (inHand : e.ctl.txn = some x) (goes : x.drop = some d)
    (old : b.getLsbD 5 ≠ e.ctl.call.control.getLsbD 5) : (s.setLine l e).receiveControl l b =
      (s.setLine l { e with counters := { e.counters with stale := satInc e.counters.stale }
                            ctl := { e.ctl with state := .discard, discard := .passing } }).setDrop d
        { s.drop d with stats := { (s.drop d).stats with stales := satInc (s.drop d).stats.stales } } := by
  have drop (n : LineCounters) : (s.setLine l { e with counters := n }).txnDrop l = some d := by
    unfold State.txnDrop
    rw [line_setLine_self]
    simp [inHand, goes]
  have toggles : toggleOf b ≠ toggleOf ((s.setLine l e).line l).ctl.call.control := by
    rw [line_setLine_self]
    exact old
  unfold State.receiveControl
  rw [if_pos toggles, countStale_setLine]
  dsimp only
  rw [drop]
  dsimp only
  unfold State.staleReport State.discard
  cases l <;> rfl

theorem receiveControl_fresh {b : Byte} (fresh : b.getLsbD 5 = e.ctl.call.control.getLsbD 5) :
    (s.setLine l e).receiveControl l b =
      let met := s.setLine l { e with ctl := { e.ctl with window := .met } }
      match kindOf b with
      | some k => if answers e.ctl.callKind k then
          met.modCtl l fun c => { c with reply := { c.reply with kind := some k, attention := attentionOf b } }
        else met.faultReply l .unexpected
      | none => met.faultReply l .unexpected := by
  have toggles : ¬ toggleOf b ≠ toggleOf ((s.setLine l e).line l).ctl.call.control := by
    rw [line_setLine_self]
    exact not_not.mpr fresh
  unfold State.receiveControl
  rw [if_neg toggles, modCtl_setLine]
  dsimp only
  rw [line_setLine_self]
  rfl

/-- A reply of a kind that answers the call (R52). -/
theorem receiveControl_answer {x : Txn} {b : Byte} (inHand : e.ctl.txn = some x)
    (fresh : b.getLsbD 5 = e.ctl.call.control.getLsbD 5) (answer : answersCall x.kind b) :
    (s.setLine l e).receiveControl l b = s.setLine l { e with ctl := { e.ctl with
      window := .met, reply := { e.ctl.reply with kind := some (replyKind b), attention := b.getLsbD 6 } } } := by
  obtain ⟨kind, suits⟩ := kindOf_of_answers answer
  have called : e.ctl.callKind = x.kind := by simp [Controller.callKind, inHand]
  rw [receiveControl_fresh fresh]
  dsimp only
  rw [kind]
  dsimp only
  rw [called, if_pos suits, modCtl_setLine]
  rfl

/-- A reply of any other kind (R52). -/
theorem receiveControl_unexpected {x : Txn} {b : Byte} (opened : e.reader.state = .inFrame) (inHand : e.ctl.txn = some x)
    (fresh : b.getLsbD 5 = e.ctl.call.control.getLsbD 5) (noAnswer : ¬ answersCall x.kind b) :
    (s.setLine l e).receiveControl l b = s.setLine l { e with
      reader := e.flushed e.reader, ctl := { e.ctl with window := .met, state := .discard, discard := .faulty .unexpected } } := by
  have called : e.ctl.callKind = x.kind := by simp [Controller.callKind, inHand]
  have fault : (s.setLine l { e with ctl := { e.ctl with window := .met } }).faultReply l .unexpected = s.setLine l { e with
      reader := e.flushed e.reader, ctl := { e.ctl with window := .met, state := .discard, discard := .faulty .unexpected } } :=
    faultReply_setLine (by exact opened) _
  rw [receiveControl_fresh fresh]
  dsimp only
  rw [called]
  cases kind : kindOf b with
  | none => exact fault
  | some k =>
    have unsuited : ¬ answers x.kind k = true := fun suits => noAnswer (answersCall_of_kindOf kind suits)
    exact (if_neg unsuited).trans fault

/-! ### The length character (R53, R54) -/

variable {n : Nat}

/-- A line engine whose controller knows the reply's length. -/
def withLength (e : LineEngine) (n : Nat) : LineEngine :=
  { e with ctl := { e.ctl with reply := { e.ctl.reply with length := n } } }

theorem receiveLength_eq : (s.setLine l e).receiveLength l n =
    if n = 0 then s.setLine l (withLength e n)
    else if e.ctl.reply.kind = some .reply then
      match e.ctl.txn.bind (s.setLine l (withLength e n)).storeMode with
      | none => s.setLine l (withLength e n)
      | some mode => ((s.setLine l (withLength e n)).claimAssembly l n mode).1.modCtl l fun c =>
          { c with reply := { c.reply with claim := ((s.setLine l (withLength e n)).claimAssembly l n mode).2 } }
    else (s.setLine l (withLength e n)).faultReply l .length := by
  unfold State.receiveLength
  rw [modCtl_setLine]
  dsimp only
  rw [line_setLine_self]
  rfl

section

variable {x : Txn} {d : DropIx} (inHand : e.ctl.txn = some x) (goes : x.drop = some d)

include inHand goes

theorem bind_storeMode : e.ctl.txn.bind (s.setLine l (withLength e n)).storeMode = replyMode x.source (s.drop d).replyPolicy := by
  rw [inHand]
  exact storeMode_eq goes

/-- A reply without payload, or one that is not stored. -/
theorem receiveLength_unstored
    (plain : n = 0 ∨ (e.ctl.reply.kind = some .reply ∧ replyMode x.source (s.drop d).replyPolicy = none)) :
    (s.setLine l e).receiveLength l n = s.setLine l (withLength e n) := by
  rw [receiveLength_eq, bind_storeMode inHand goes]
  by_cases zero : n = 0
  · rw [if_pos zero]
  · obtain ⟨reply, unstored⟩ := plain.resolve_left zero
    rw [if_neg zero, if_pos reply, unstored]

theorem receiveLength_stored {m : StoreMode} (positive : n ≠ 0) (reply : e.ctl.reply.kind = some .reply)
    (stored : replyMode x.source (s.drop d).replyPolicy = some m) : (s.setLine l e).receiveLength l n =
      ((s.setLine l (withLength e n)).claimAssembly l n m).1.modCtl l fun c =>
        { c with reply := { c.reply with claim := ((s.setLine l (withLength e n)).claimAssembly l n m).2 } } := by
  rw [receiveLength_eq, bind_storeMode inHand goes, if_neg positive, if_pos reply, stored]

end

/-- Only a REPLY has a payload. -/
theorem receiveLength_wrong (positive : n ≠ 0) (other : e.ctl.reply.kind ≠ some .reply) :
    (s.setLine l e).receiveLength l n = (s.setLine l (withLength e n)).faultReply l .length := by
  rw [receiveLength_eq, if_neg positive, if_neg other]

/-- The frame reader at a length character, by the number that it gives. -/
theorem char_length_next {e : LineEngine} {c : CharSamples} (opened : e.reader.state = .inFrame) (plain : plainChar c)
    (length : e.reader.position = .length) (fits : c.byte.toNat ≤ 32) : e.reader.char e.params.gapLimit (rxChar c) =
      ({ e.reader with sum := e.reader.sum + c.byte, expected := c.byte.toNat
                       position := if c.byte.toNat = 0 then .check else .payload 0 }, some (.length c.byte.toNat)) := by
  have zero : c.byte = 0 ↔ c.byte.toNat = 0 := BitVec.toNat_inj.symm
  rw [char_length opened plain length fits]
  simp only [zero]

end

/-- Settles O46, by the position of the frame reader. -/
theorem replyIsChecked : Obligations.ReplyIsChecked := by
  unfold Obligations.ReplyIsChecked
  intro s l c x d arrives mastering receive opened inHand goes e h b r faulty mode next lengthIs gives
  have free : h.observer.waiting = false := arrives.2.2.2.2
  have receiving : (s.line l).ctl.state ≠ .await := fun await => by cases receive.symm.trans await
  have answers (r : Reader) (y : ReaderReport) : (charRead s l c r).controllerReport l y = (charRead s l c r).receiveReport l y :=
    controllerReport_receive (by exact receive)
  have still {r : Reader} {y : ReaderReport} {t : State} {e' : LineEngine}
      (reads : (s.line l).reader.char (s.line l).params.gapLimit (rxChar c) = (r, some y))
      (answer : (charRead s l c r).receiveReport l y = t) (line : t.line l = e') (noWait : e'.ctl.state ≠ .await)
      (observer : e'.observer = h.observer) : exec (.characterReceived l c) s = finish t :=
    exec_controller_still mastering arrives reads ((answers r y).trans answer) (.inr (by rw [line]; exact noWait))
      (by rw [line, observer]; exact free)
  refine ⟨fun fault => ?fault, fun plain control => ?control, fun plain length => ?length, fun k plain payload => ?payload⟩
  case fault =>
    exact still (char_fault (e := s.line l) opened fault) (discard_setLine ..) (line_setLine_self ..) (by rintro ⟨⟩) rfl
  case control =>
    have reads := char_control (e := s.line l) opened plain control
    refine ⟨fun old => ?_, fun fresh answer => ?_, fun fresh noAnswer => ?_⟩
    · exact still reads (receiveControl_stale (by exact inHand) goes (by exact old))
        ((State.setDrop_line ..).trans (line_setLine_self ..)) (by rintro ⟨⟩) rfl
    · exact still reads (receiveControl_answer (by exact inHand) (by exact fresh) answer) (line_setLine_self ..)
        receiving rfl
    · exact still reads (receiveControl_unexpected (by exact opened) (by exact inHand) (by exact fresh) noAnswer)
        (line_setLine_self ..) (by rintro ⟨⟩) rfl
  case length =>
    intro n
    refine ⟨fun long => ?_, fun plainly => ?_, fun some fits other => ?_, fun m some fits reply stored unclaimed => ?_⟩
    · exact still (char_length_over (e := s.line l) opened plain length long) (discard_setLine ..) (line_setLine_self ..)
        (by rintro ⟨⟩) rfl
    · have fits : c.byte.toNat ≤ 32 := plainly.elim (fun zero => zero.trans_le (Nat.zero_le _)) fun unstored => unstored.1
      exact still (char_length_next (e := s.line l) opened plain length fits)
        (receiveLength_unstored (by exact inHand) goes (plainly.imp id fun unstored => unstored.2)) (line_setLine_self ..)
        receiving rfl
    · exact still (char_length_next (e := s.line l) opened plain length fits)
        ((receiveLength_wrong (e := { h with reader := next n }) (Nat.pos_iff_ne_zero.mp some) other).trans
          (faultReply_setLine (by exact opened) .length))
        (line_setLine_self ..) (by rintro ⟨⟩) rfl
    · intro claimed
      have reads := char_length_next (e := s.line l) opened plain length fits
      have answer := receiveLength_stored (s := s) (l := l) (e := { h with reader := next n }) inHand goes
        (Nat.pos_iff_ne_zero.mp some) reply stored
      refine ⟨fun full => ?_, fun i lowest => ?_⟩
      · rw [claimAssembly_denied unclaimed full] at answer
        refine still (e' := { h with
          reader := next n, ctl := claimed .denied
          counters := { h.counters with repliesLost := satInc e.counters.repliesLost } }) reads (answer.trans ?_) ?_ receiving rfl
        · cases l <;> rfl
        · cases l <;> rfl
      · rw [claimAssembly_granted unclaimed lowest] at answer
        let given : Buffer := { s.buffer i with place := .assembling l, line := l, length := n, mode := m
                                                payload := unwritten s.fresh }
        let left : State := { (s.setLine l { h with reader := next n, ctl := claimed .granted }).setBuffer i given with
                              fresh := s.fresh + 1 }
        have buffer : left.driveIrq.buffer i = given := (State.setBuffer_buffer ..).trans (if_pos rfl)
        refine ⟨left.driveIrq, still (e' := { h with reader := next n, ctl := claimed .granted }) reads (answer.trans ?_) ?_
          receiving rfl, ?_, ?_⟩
        · cases l <;> rfl
        · cases l <;> rfl
        · rw [buffer]
          rfl
        · rw [buffer]
  case payload =>
    have reads := char_payload (e := s.line l) opened plain payload
    intro h'
    have claim (r : Reader) : ((charRead s l c r).line l).ctl.reply.claim = e.ctl.reply.claim :=
      congrArg (·.ctl.reply.claim) (line_setLine_self ..)
    refine ⟨fun unclaimed => ?_, fun i granted found => ?_⟩
    · exact still reads (if_neg (by rw [claim]; exact unclaimed)) (line_setLine_self ..) receiving rfl
    · exact still reads ((if_pos (by rw [claim]; exact granted)).trans (writePayload_setLine found))
        ((State.setBuffer_line ..).trans (line_setLine_self s l h')) receiving rfl

/-! ### The clean end of a reply (R55, R113, R115) -/

theorem origin_kind (y : TxnSource) : y.origin.1 = match y with
    | .request _ => .request
    | .schedule | .extraPoll | .sync => .schedule := by
  cases y <;> rfl

theorem origin_tag (y : TxnSource) : y.origin.2 = match y with
    | .request g => some g
    | .schedule | .extraPoll | .sync => none := by
  cases y <;> rfl

section

variable {s : State} {l : Line} {e : LineEngine} {x : Txn} {d : DropIx} (inHand : e.ctl.txn = some x) (goes : x.drop = some d)

include inHand

theorem receiveComplete_busy (busy : e.ctl.reply.kind = some .busy) :
    (s.setLine l e).receiveComplete l = (s.setLine l e).endAttempt l .busy := by
  unfold State.receiveComplete
  rw [line_setLine_self]
  dsimp only
  rw [inHand]
  exact if_pos busy

theorem receiveComplete_unstored (other : e.ctl.reply.kind ≠ some .busy) (claim : e.ctl.reply.claim = .none) :
    (s.setLine l e).receiveComplete l = (s.setLine l e).endAttempt l .ok := by
  unfold State.receiveComplete
  rw [line_setLine_self]
  dsimp only
  rw [inHand]
  refine (if_neg other).trans ?_
  rw [claim]

include goes

theorem receiveComplete_denied (other : e.ctl.reply.kind ≠ some .busy) (claim : e.ctl.reply.claim = .denied) :
    (s.setLine l e).receiveComplete l = State.endAttempt
      { s.setLine l e with
        events := s.events.post
          { kind := .replyLost, line := some l, drop := some d, tag := x.source.origin.2, code := x.source.origin.1.code
            detail := 0, stamp := s.clock.timestamp } } l .noBuffer := by
  unfold State.receiveComplete
  rw [line_setLine_self]
  dsimp only
  rw [inHand]
  refine (if_neg other).trans ?_
  rw [claim, goes]
  cases l <;> rfl

theorem receiveComplete_granted (other : e.ctl.reply.kind ≠ some .busy) (claim : e.ctl.reply.claim = .granted) :
    (s.setLine l e).receiveComplete l = ((s.setLine l e).handOver l x.source.origin.1 x.source.origin.2 d e.ctl.reply.attention
      (x.source = .extraPoll)).endAttempt l .ok := by
  unfold State.receiveComplete
  rw [line_setLine_self]
  dsimp only
  rw [inHand]
  refine (if_neg other).trans ?_
  rw [claim, goes]
  rfl

end

/-- Settles O47, by what was kept of the reply. -/
theorem replyCleanEnd : Obligations.ReplyCleanEnd := by
  unfold Obligations.ReplyCleanEnd
  intro s l c x d arrives mastering receive opened inHand goes check plain e h y origin tag closed s' gives
  have originIs : x.source.origin.1 = origin := origin_kind x.source
  have tagIs : x.source.origin.2 = tag := origin_tag x.source
  have free : h.observer.waiting = false := arrives.2.2.2.2
  have receiving : (s.line l).ctl.state ≠ .await := fun await => by cases receive.symm.trans await
  refine ⟨fun wrong => ?wrong, fun right => ?right⟩
  case wrong =>
    have answer : (charRead s l c ((s.line l).flushed (s.line l).reader)).controllerReport l (.fault .check) = _ :=
      (controllerReport_receive (by exact receive)).trans (discard_setLine s l _ (.faulty .check))
    refine exec_controller_still mastering arrives (char_check_wrong opened plain check wrong) answer (.inr ?_) ?_
    · rw [line_setLine_self]
      rintro ⟨⟩
    · rw [line_setLine_self]
      exact free
  case right =>
    have reads := char_check (e := s.line l) opened plain check right
    have ends {u : State} {o : TxnOutcome} (answer : s'.receiveComplete l = u.endAttempt l o) (txn : (u.line l).ctl.txn = some x)
        (waits : (u.line l).observer.waiting = false) : gives (u.endAttempt l o) := by
      have answers : (charRead s l c { e.reader with state := .hunt, sum := 0 }).controllerReport l .complete = u.endAttempt l o :=
        (controllerReport_receive (by exact receive)).trans answer
      change exec (.characterReceived l c) s = finish (u.endAttempt l o)
      rw [exec_controller mastering arrives reads, answers,
        settleWait_endAttempt (.inl (by rw [txn]; rintro ⟨⟩)) waits]
    have line : s'.line l = closed := line_setLine_self ..
    refine ⟨fun busy => ?_, fun other claim => ?_, fun other claim => ?_, fun i other claim found new t stored => ?_⟩
    · exact ends (receiveComplete_busy inHand busy) (by rw [line]; exact inHand) (by rw [line]; exact free)
    · exact ends (receiveComplete_unstored inHand other claim) (by rw [line]; exact inHand) (by rw [line]; exact free)
    · have answer := receiveComplete_denied (s := s) (l := l) (e := closed) inHand goes other claim
      rw [originIs, tagIs] at answer
      exact ends answer (by cases l <;> exact inHand) (by cases l <;> exact free)
    · have held : s'.assembling l = some i := (assembling_setLine ..).trans found
      have handed : s'.handOver l origin tag d e.ctl.reply.attention (x.source = .extraPoll) = t := by
        refine handOver_of_storedAs held (by rw [State.setLine_ready]; exact new) ?_
        have given : handedOver s' l i origin tag d e.ctl.reply.attention (x.source = .extraPoll) =
            { s.buffer i with
              place := .ready, origin := origin, tag := tag, drop := d, kind := .reply, attention := e.ctl.reply.attention
              extraPoll := x.source = .extraPoll, replaced := 0, stamp := s.clock.timestamp, cycle := e.cycle.number } := by
          cases l <;> rfl
        rw [line, setLine_setLine, given]
        exact stored
      have answer := receiveComplete_granted (s := s) (l := l) (e := closed) inHand goes other claim
      rw [originIs, tagIs] at answer
      have lineThen : ∃ c, t.line l = { closed with stamping := c } := by
        obtain ⟨c, is⟩ := handOver_line s' l l origin tag d e.ctl.reply.attention (x.source = .extraPoll)
        rw [handed, if_pos rfl, line] at is
        exact ⟨c, is⟩
      obtain ⟨c, lineThen⟩ := lineThen
      refine ends (answer.trans (congrArg (·.endAttempt l .ok) handed)) ?_ ?_
      · rw [lineThen]
        exact inHand
      · rw [lineThen]
        exact free

end Sys2Proof.Proofs.Replies

/-! The standby observer and the characters that the frame reader reports to it (R133, R134, R136). -/

namespace Sys2Proof.Proofs.Observers

open Sys2Proof Sys2Proof.Machine Sys2Proof.Laws Sys2Proof.Proofs.Rows Sys2Proof.Proofs.Work Sys2Proof.Proofs.LineRows
open Sys2Proof.Proofs.SilentEnds Sys2Proof.Proofs.SubmitFills Sys2Proof.Proofs.Characters Sys2Proof.Proofs.Storing

/-! ### The observer, report by report -/

section

variable {s t : State} {l : Line} {e : LineEngine} {c : CharSamples} {r : Reader} {y : ReaderReport}

/-- A line engine whose observer is `o`. -/
def withObserver (e : LineEngine) (o : Observer) : LineEngine :=
  { e with observer := o }

theorem modObserver_setLine (f : Observer → Observer) :
    (s.setLine l e).modObserver l f = s.setLine l (withObserver e (f e.observer)) := by
  rw [State.modObserver_eq, modLine_eq, line_setLine_self, setLine_setLine]
  rfl

/-- A character whose report the observer answers, on a line with no attempt in flight. -/
theorem exec_observer_still (standby : (s.line l).role = .standby) (arrives : s.arrives l c)
    (reads : (s.line l).reader.char (s.line l).params.gapLimit (rxChar c) = (r, some y))
    (answer : (charRead s l c r).observerReport l y = t) (idle : (t.line l).ctl.state = .idle)
    (free : (t.line l).observer.waiting = false) : exec (.characterReceived l c) s = finish t := by
  rw [exec_observer standby arrives reads, answer, settleWait_of_none (.inr (by rw [idle]; decide)) free]

theorem idle_of_standby (standby : e.role = .standby) (sound : e.RoleSound) : e.ctl.state = .idle :=
  sound.2.1 (by rw [standby]; rfl)

theorem observeStart_call {b : Byte} (calls : b.getLsbD 7 = false) : (s.setLine l e).observeStart l b =
    s.setLine l (withObserver e { e.observer with call := none, follow := .call (b.setWidth 7) none 0 }) := by
  unfold State.observeStart
  refine (if_pos ?_).trans (modObserver_setLine ..)
  rw [show isReply b = false from calls]
  rfl

theorem observeStart_reply {b : Byte} (replies : b.getLsbD 7 = true) : (s.setLine l e).observeStart l b =
    if e.observer.call.any fun q => q.address = b.setWidth 7 then
      s.setLine l (withObserver e { e.observer with follow := .candidate })
    else s.setLine l (withObserver e { e.observer with call := none, follow := .nothing }) := by
  unfold State.observeStart
  rw [line_setLine_self]
  refine (if_neg ?_).trans ?_
  · rw [show isReply b = true from replies]
    decide
  · rw [modObserver_setLine, modObserver_setLine]
    rfl

theorem observeFault_call {a : BitVec 7} {k : Option Byte} {n : Nat} (follow : e.observer.follow = .call a k n) :
    (s.setLine l e).observeFault l = s.setLine l (withObserver e (forgotten e.observer)) := by
  unfold State.observeFault
  rw [line_setLine_self, follow]
  exact forgetCall_eq

theorem observeFault_candidate (follow : e.observer.follow = .candidate) :
    (s.setLine l e).observeFault l = s.setLine l (withObserver e { e.observer with follow := .unmatched }) := by
  unfold State.observeFault
  rw [line_setLine_self, follow]
  exact modObserver_setLine ..

theorem observeFault_matched {k : FrameKind} {att : Bool} {n : Nat} (follow : e.observer.follow = .matched k att n) :
    (s.setLine l e).observeFault l = s.setLine l (withObserver e { e.observer with call := none, follow := .failed }) := by
  unfold State.observeFault
  rw [line_setLine_self, follow]
  exact modObserver_setLine ..

/-- The observer takes no part in the frame that is open. -/
abbrev Aside (o : Observer) : Prop :=
  o.follow = .nothing ∨ o.follow = .unmatched ∨ o.follow = .failed

/-- Of a frame that it takes no part in the observer takes nothing before the end. -/
theorem observerReport_aside (aside : Aside e.observer)
    (inside : (∃ b, y = .control b) ∨ (∃ n, y = .length n) ∨ (∃ k b, y = .payload k b) ∨
      ∃ f, f ≠ .gap ∧ y = .fault f) :
    (s.setLine l e).observerReport l y = s.setLine l e := by
  obtain ⟨b, rfl⟩ | ⟨n, rfl⟩ | ⟨k, b, rfl⟩ | ⟨f, notGap, rfl⟩ := inside
  · change (s.setLine l e).observeControl l b = _
    unfold State.observeControl
    rw [line_setLine_self]
    obtain is | is | is := aside <;> simp only [is]
  · change (s.setLine l e).observeLength l n = _
    unfold State.observeLength
    rw [line_setLine_self]
    obtain is | is | is := aside <;> simp only [is]
  · change (s.setLine l e).observePayload l k b = _
    unfold State.observePayload
    rw [line_setLine_self]
    obtain is | is | is := aside <;> simp only [is]
  · have fault : (s.setLine l e).observerReport l (.fault f) = (s.setLine l e).observeFault l := by
      cases f with
      | gap => exact absurd rfl notGap
      | framing | length | check => rfl
    rw [fault]
    unfold State.observeFault
    rw [line_setLine_self]
    obtain is | is | is := aside <;> simp only [is]

theorem observeControl_call {a : BitVec 7} {k : Option Byte} {n : Nat} {b : Byte} (follow : e.observer.follow = .call a k n) :
    (s.setLine l e).observeControl l b = s.setLine l (withObserver e { e.observer with follow := .call a (some b) n }) := by
  unfold State.observeControl
  rw [line_setLine_self]
  simp only [follow]
  exact modObserver_setLine ..

theorem observeControl_matched {q : ObservedCall} {b : Byte} (follow : e.observer.follow = .candidate)
    (call : e.observer.call = some q) (toggle : b.getLsbD 5 = q.toggle) (answer : answersCall q.kind.frame b) :
    (s.setLine l e).observeControl l b =
      s.setLine l (withObserver e { e.observer with follow := .matched (replyKind b) (b.getLsbD 6) 0 }) := by
  obtain ⟨kind, suits⟩ := kindOf_of_answers answer
  have both : (toggleOf b = q.toggle && answers q.kind.frame (replyKind b)) = true := by
    rw [Bool.and_eq_true]
    exact ⟨decide_eq_true toggle, suits⟩
  refine Eq.trans (b := (s.setLine l e).modObserver l fun o => { o with follow := .matched (replyKind b) (attentionOf b) 0 }) ?_
    (modObserver_setLine _)
  unfold State.observeControl
  rw [line_setLine_self]
  simp only [follow, call, kind]
  exact if_pos both

theorem observeControl_unmatched {q : ObservedCall} {b : Byte} (follow : e.observer.follow = .candidate)
    (call : e.observer.call = some q) (other : ¬ (b.getLsbD 5 = q.toggle ∧ answersCall q.kind.frame b)) :
    (s.setLine l e).observeControl l b = s.setLine l (withObserver e { e.observer with follow := .unmatched }) := by
  refine Eq.trans (b := (s.setLine l e).modObserver l fun o => { o with follow := .unmatched }) ?_ (modObserver_setLine _)
  unfold State.observeControl
  rw [line_setLine_self]
  simp only [follow, call]
  cases kind : kindOf b with
  | none => rfl
  | some k =>
    refine if_neg ?_
    rw [Bool.and_eq_true]
    exact fun both => other ⟨of_decide_eq_true both.1, answersCall_of_kindOf kind both.2⟩

theorem observeLength_call {a : BitVec 7} {k : Option Byte} {m n : Nat} (follow : e.observer.follow = .call a k m) :
    (s.setLine l e).observeLength l n = s.setLine l (withObserver e { e.observer with follow := .call a k n }) := by
  unfold State.observeLength
  rw [line_setLine_self]
  simp only [follow]
  exact modObserver_setLine ..

theorem observePayload_call {a : BitVec 7} {k : Option Byte} {n j : Nat} {b : Byte} (follow : e.observer.follow = .call a k n) :
    (s.setLine l e).observePayload l j b = s.setLine l e := by
  unfold State.observePayload
  rw [line_setLine_self]
  simp only [follow]

/-- The clean end of a frame that the observer takes no part in. -/
theorem observeComplete_aside (aside : e.observer.follow = .nothing ∨ e.observer.follow = .failed) :
    (s.setLine l e).observeComplete l = s.setLine l (withObserver e { e.observer with follow := .nothing }) := by
  unfold State.observeComplete
  rw [line_setLine_self]
  obtain is | is := aside <;> simp only [is] <;> exact modObserver_setLine ..

theorem observeComplete_unmatched (follow : e.observer.follow = .unmatched) : (s.setLine l e).observeComplete l =
    s.setLine l (withObserver e (if e.observer.elapsed then forgotten e.observer else { e.observer with follow := .nothing })) := by
  unfold State.observeComplete
  rw [line_setLine_self]
  simp only [follow]
  exact observeUnmatchedEnd_eq

/-! ### The clean end of a call (R133) -/

/-- The kind of call that is observed, by the control byte and the length. -/
def observedKind (control : Byte) (n : Nat) : Option ReqKind :=
  if control &&& 0x0F = 4 ∧ n = 0 then some .poll else if control &&& 0x0F = 5 then some .data else none

theorem observedKind_eq (control : Byte) (n : Nat) : (match kindOf control with
    | some .poll => if n = 0 then some ReqKind.poll else none
    | some .data => some .data
    | some .sync | some .reply | some .ack | some .busy | none => none) = observedKind control n := by
  unfold observedKind
  cases kind : kindOf control with
  | none =>
    have notPoll : ¬ control &&& 0x0F = 4 := fun is => by
      unfold kindOf at kind
      rw [is] at kind
      cases kind
    have notData : ¬ control &&& 0x0F = 5 := fun is => by
      unfold kindOf at kind
      rw [is] at kind
      cases kind
    exact ((if_neg fun both : _ ∧ n = 0 => notPoll both.1).trans (if_neg notData)).symm
  | some k =>
    rw [code_of_kindOf kind]
    cases k with
    | poll => by_cases zero : n = 0 <;> simp [zero, FrameKind.code]
    | data | sync | reply | ack | busy => simp [FrameKind.code]

theorem dropAt_eq_some {a : BitVec 7} {d : DropIx} : s.dropAt l a = some d ↔
    ((s.drop d).state ≠ .disabled ∧ (s.drop d).line = l ∧ (s.drop d).address = a) ∧
      ∀ f < d, ¬ ((s.drop f).state ≠ .disabled ∧ (s.drop f).line = l ∧ (s.drop f).address = a) := by
  unfold State.dropAt allDrops
  simp only [find_finRange_eq_some, Bool.and_eq_true, decide_eq_true_eq, Drop.enabled, ← Bool.not_eq_true, and_assoc]

theorem dropAt_eq_none {a : BitVec 7} : s.dropAt l a = none ↔
    ∀ d, ¬ ((s.drop d).state ≠ .disabled ∧ (s.drop d).line = l ∧ (s.drop d).address = a) := by
  unfold State.dropAt allDrops
  simp only [List.find?_eq_none, List.mem_finRange, Bool.and_eq_true, decide_eq_true_eq, Drop.enabled, and_assoc, forall_const]

theorem dropAt_setLine (a : BitVec 7) : (s.setLine l e).dropAt l a = s.dropAt l a := by
  unfold State.dropAt
  simp only [State.setLine_drop]

/-- A call to an enabled drop of the line becomes the observed call. -/
theorem observeCall_known {a : BitVec 7} {control : Byte} {n : Nat} {k : ReqKind} {d : DropIx}
    (kind : observedKind control n = some k) (drop : s.dropAt l a = some d) : (s.setLine l e).observeCall l a control n =
      s.setLine l (withObserver e { call := some { drop := d, address := a, kind := k, toggle := control.getLsbD 5 }
                                    lead := 3 * e.divisor, timer := .zero, window := e.params.window, elapsed := false
                                    waiting := false, follow := .nothing, capture := .none }) := by
  unfold State.observeCall
  dsimp only
  rw [dropAt_setLine]
  split
  · next k' d' isKind isDrop =>
    obtain rfl : k = k' := Option.some.inj (kind.symm.trans ((observedKind_eq control n).symm.trans isKind))
    obtain rfl : d = d' := Option.some.inj (drop.symm.trans isDrop)
    rw [modLine_eq, line_setLine_self, setLine_setLine]
    rfl
  · next other => exact (other k d ((observedKind_eq control n).trans kind) drop).elim

/-- Any other call is forgotten. -/
theorem observeCall_other {a : BitVec 7} {control : Byte} {n : Nat}
    (other : observedKind control n = none ∨ s.dropAt l a = none) :
    (s.setLine l e).observeCall l a control n = s.setLine l (withObserver e (forgotten e.observer)) := by
  unfold State.observeCall
  dsimp only
  rw [dropAt_setLine]
  split
  · next k d isKind isDrop =>
    obtain none | none := other
    · cases none.symm.trans ((observedKind_eq control n).symm.trans isKind)
    · cases none.symm.trans isDrop
  · exact forgetCall_eq

theorem observeComplete_call {a : BitVec 7} {control : Byte} {n : Nat} (follow : e.observer.follow = .call a (some control) n) :
    (s.setLine l e).observeComplete l = (s.setLine l e).observeCall l a control n := by
  unfold State.observeComplete
  rw [line_setLine_self]
  simp only [follow]

end

end Sys2Proof.Proofs.Observers

/-! A matched reply on a STANDBY line (R134 to R136). -/

namespace Sys2Proof.Proofs.ObservedReplies

open Sys2Proof Sys2Proof.Machine Sys2Proof.Laws Sys2Proof.Proofs.Rows Sys2Proof.Proofs.Work Sys2Proof.Proofs.LineRows
open Sys2Proof.Proofs.SilentEnds Sys2Proof.Proofs.Characters Sys2Proof.Proofs.Storing Sys2Proof.Proofs.Replies
open Sys2Proof.Proofs.Observers

/-! ### What asks nothing of a controller and an observer -/

section

variable (s : State) (l : Line) (k : Controller) (o : Observer)

/-- `s` with this controller and observer on a line. -/
def touched : State :=
  s.setLine l { s.line l with ctl := k, observer := o }

theorem touched_storeReady (b : BufIx) : (touched s l k o).storeReady b = touched (s.storeReady b) l k o := by
  have buffer : (touched s l k o).buffer b = s.buffer b := State.setLine_buffer ..
  have targets (f : Buffer → Buffer) (p : Origin) (d : DropIx) :
      ((touched s l k o).modBuffer b f).replaceTargets p d = (s.modBuffer b f).replaceTargets p d := by cases l <;> rfl
  unfold State.storeReady
  dsimp only
  rw [buffer, targets]
  split <;> cases l <;> rfl

theorem touched_handOver (p : Origin) (g : Option Tag) (d : DropIx) (a x : Bool) :
    (touched s l k o).handOver l p g d a x = touched (s.handOver l p g d a x) l k o := by
  have found : (touched s l k o).assembling l = s.assembling l := assembling_setLine ..
  unfold State.handOver
  rw [found]
  cases s.assembling l with
  | none => rfl
  | some b =>
    dsimp only
    rw [← touched_storeReady]
    cases l <;> rfl

theorem forgetCall_touched : s.forgetCall l = touched s l (s.line l).ctl (forgotten (s.line l).observer) := by
  have forgot := forgetCall_eq (s := s) (l := l) (e := s.line l)
  rw [setLine_self] at forgot
  exact forgot

/-- A hand-over and the forgetting of the call do not meet. -/
theorem handOver_forgetCall (p : Origin) (g : Option Tag) (d : DropIx) (a x : Bool) :
    (s.handOver l p g d a x).forgetCall l = (s.forgetCall l).handOver l p g d a x := by
  obtain ⟨c, line⟩ := handOver_line s l l p g d a x
  rw [forgetCall_touched, forgetCall_touched, touched_handOver, line, if_pos rfl]

end

/-! ### The observation (R135) -/

section

variable (s : State) (l : Line) (d : DropIx) (b : Bool)

/-- The record of a drop after an observed success (R135). -/
def observedDrop (r : Drop) (l : Line) (b : Bool) : Drop :=
  let mine := r.state ≠ .disabled ∧ r.line = l
  { r with
    stats := { r.stats with observations := satInc r.stats.observations }
    state := if mine then .online else r.state
    failures := if mine then 0 else r.failures
    fresh := if mine then false else r.fresh
    toggle := if mine then !b else r.toggle }

theorem observe_eq (r : Drop) : r.observe l b = observedDrop r l b := by
  unfold Drop.observe observedDrop
  by_cases mine : r.state ≠ .disabled ∧ r.line = l
  · simp [Drop.enabled, Drop.succeed, mine]
  · simp only [mine, if_false]
    exact if_neg (by simpa [Drop.enabled] using mine)

theorem observation_eq : s.observation d l b =
    { s.setDrop d (observedDrop (s.drop d) l b) with
      events := if (observedDrop (s.drop d) l b).state = (s.drop d).state then s.events else s.events.post
        { kind := .dropState, line := some (s.drop d).line, drop := some d, tag := none
          code := (observedDrop (s.drop d) l b).state.code, detail := (s.drop d).state.code, stamp := s.clock.timestamp } } := by
  have record : s.modDrop d (·.observe l b) = s.setDrop d (observedDrop (s.drop d) l b) := by
    simp [State.modDrop, observe_eq]
  have same (r : Drop) : (s.setDrop d r).drop d = r := by simp
  unfold State.observation State.postIfChanged
  rw [record, same]
  by_cases kept : (observedDrop (s.drop d) l b).state = (s.drop d).state
  · rw [if_pos kept, if_pos kept]
    rfl
  · rw [if_neg kept, if_neg kept]
    unfold State.postDropState State.post
    rw [same]
    rfl

theorem observation_forgetCall : (s.observation d l b).forgetCall l = (s.forgetCall l).observation d l b := by
  rw [observation_eq, observation_eq]
  cases l <;> rfl

end

/-! ### The report of a matched reply, character by character (R134, R136) -/

section

variable {s : State} {l : Line} {e : LineEngine} {k : FrameKind} {att : Bool} {n m : Nat}

/-- A line engine whose observer has a matched reply of this length in hand. -/
def matchedLength (e : LineEngine) (k : FrameKind) (att : Bool) (m : Nat) : LineEngine :=
  withObserver e { e.observer with follow := .matched k att m }

theorem observeLength_reply (follow : e.observer.follow = .matched .reply att n) : (s.setLine l e).observeLength l m =
    if m = 0 then s.setLine l (matchedLength e .reply att m)
    else match (s.setLine l (matchedLength e .reply att m)).captureMode l with
      | none => s.setLine l (matchedLength e .reply att m)
      | some y => ((s.setLine l (matchedLength e .reply att m)).claimAssembly l m y).1.modObserver l fun o =>
          { o with capture := if ((s.setLine l (matchedLength e .reply att m)).claimAssembly l m y).2 = .granted then .assembling
                              else .lost } := by
  have counted : (s.setLine l e).modObserver l (fun o => { o with follow := .matched .reply att m }) =
      s.setLine l (matchedLength e .reply att m) := modObserver_setLine ..
  unfold State.observeLength
  rw [line_setLine_self]
  simp only [follow, counted] <;> rfl

theorem observeLength_other (follow : e.observer.follow = .matched k att n) (other : k ≠ .reply) :
    (s.setLine l e).observeLength l m =
      if m = 0 then (s.setLine l e).modObserver l fun o => { o with follow := .matched k att 0 }
      else ((s.setLine l e).declareError l).modObserver l fun o => { o with call := none, follow := .failed } := by
  unfold State.observeLength
  rw [line_setLine_self]
  cases k with
  | reply => exact absurd rfl other
  | ack | busy | poll | data | sync => simp only [follow]

theorem observeLength_zero (follow : e.observer.follow = .matched k att n) :
    (s.setLine l e).observeLength l 0 = s.setLine l (matchedLength e k att 0) := by
  by_cases reply : k = .reply
  · subst reply
    exact (observeLength_reply follow).trans (if_pos rfl)
  · exact (observeLength_other follow reply).trans ((if_pos rfl).trans (modObserver_setLine ..))

theorem observeLength_wrong (opened : e.reader.state = .inFrame) (follow : e.observer.follow = .matched k att n)
    (other : k ≠ .reply) (positive : m ≠ 0) : (s.setLine l e).observeLength l m = s.setLine l { e with
      reader := e.flushed e.reader, observer := { e.observer with call := none, follow := .failed } } := by
  refine (observeLength_other follow other).trans ((if_neg positive).trans ?_)
  unfold State.declareError State.flushReader
  rw [line_setLine_self, if_pos opened, modLine_eq, line_setLine_self, setLine_setLine]
  exact modObserver_setLine ..

theorem captureMode_eq {q : ObservedCall} (call : e.observer.call = some q) :
    (s.setLine l (matchedLength e k att m)).captureMode l =
      if e.params.capture then policyMode (s.drop q.drop).replyPolicy else none := by
  have called : (matchedLength e k att m).observer.call = some q := call
  have params : (matchedLength e k att m).params = e.params := rfl
  unfold State.captureMode policyMode
  rw [line_setLine_self, called, params]
  dsimp only
  rw [State.setLine_drop]
  cases e.params.capture with
  | false => rfl
  | true => cases (s.drop q.drop).replyPolicy <;> rfl

/-- A REPLY's payload that is not captured. -/
theorem observeLength_unstored {q : ObservedCall} (follow : e.observer.follow = .matched .reply att n)
    (call : e.observer.call = some q)
    (unstored : (if e.params.capture then policyMode (s.drop q.drop).replyPolicy else none) = none) :
    (s.setLine l e).observeLength l m = s.setLine l (matchedLength e .reply att m) := by
  rw [observeLength_reply follow, captureMode_eq call, unstored]
  exact ite_self _

/-- A REPLY's payload that is captured. -/
theorem observeLength_stored {q : ObservedCall} {y : StoreMode} (follow : e.observer.follow = .matched .reply att n)
    (call : e.observer.call = some q) (positive : m ≠ 0)
    (stored : (if e.params.capture then policyMode (s.drop q.drop).replyPolicy else none) = some y) :
    (s.setLine l e).observeLength l m =
      ((s.setLine l (matchedLength e .reply att m)).claimAssembly l m y).1.modObserver l fun o =>
        { o with capture := if ((s.setLine l (matchedLength e .reply att m)).claimAssembly l m y).2 = .granted then .assembling
                            else .lost } := by
  rw [observeLength_reply follow, captureMode_eq call, stored, if_neg positive]

/-- A payload character of a captured reply. -/
theorem observePayload_assembling {j : Nat} {b : Byte} (follow : e.observer.follow = .matched k att n)
    (capture : e.observer.capture = .assembling) :
    (s.setLine l e).observePayload l j b = (s.setLine l e).writePayload l j b := by
  unfold State.observePayload
  rw [line_setLine_self]
  simp only [follow, capture]

/-! ### The clean end of a matched reply (R135, R136) -/

theorem observeComplete_matched {q : ObservedCall} (follow : e.observer.follow = .matched k att n)
    (call : e.observer.call = some q) : (s.setLine l e).observeComplete l = (s.setLine l e).observeSuccess l q att := by
  unfold State.observeComplete
  rw [line_setLine_self]
  simp only [follow, call]

section

variable {q : ObservedCall}

/-- A line engine whose observer has forgotten the observed call. -/
abbrev forgetful (e : LineEngine) : LineEngine :=
  withObserver e (forgotten e.observer)

theorem observeSuccess_none (capture : e.observer.capture = .none) : (s.setLine l e).observeSuccess l q att =
    (s.setLine l (forgetful e)).observation q.drop l q.toggle := by
  unfold State.observeSuccess
  rw [line_setLine_self, capture]
  dsimp only
  rw [observation_forgetCall, forgetCall_eq]
  rfl

theorem observeSuccess_lost (capture : e.observer.capture = .lost) : (s.setLine l e).observeSuccess l q att =
    State.observation
      { s.setLine l (forgetful e) with
        events := s.events.post
          { kind := .replyLost, line := some l, drop := some q.drop, tag := none, code := 2, detail := 0
            stamp := s.clock.timestamp } } q.drop l q.toggle := by
  unfold State.observeSuccess
  rw [line_setLine_self, capture]
  dsimp only
  rw [observation_forgetCall]
  refine congrArg (fun u : State => u.observation q.drop l q.toggle) ?_
  unfold State.forgetCall
  cases l <;> rfl

theorem observeSuccess_assembling (capture : e.observer.capture = .assembling) : (s.setLine l e).observeSuccess l q att =
    ((s.setLine l (forgetful e)).handOver l .observed none q.drop att false).observation q.drop l q.toggle := by
  unfold State.observeSuccess
  rw [line_setLine_self, capture]
  dsimp only
  rw [observation_forgetCall, handOver_forgetCall, forgetCall_eq]
  rfl

end

end

/-- Settles O51, by the position of the frame reader and the capture. -/
theorem observedReply : Obligations.ObservedReply := by
  unfold Obligations.ObservedReply
  intro s l c q k att n arrives standby sound opened call follow e h o b r next gives failed mode
  have free : h.observer.waiting = false := arrives.2.2.2.2
  have idle : h.ctl.state = .idle := idle_of_standby (e := s.line l) standby sound
  have still {r : Reader} {y : ReaderReport} {t : State} {e' : LineEngine}
      (reads : (s.line l).reader.char (s.line l).params.gapLimit (rxChar c) = (r, some y))
      (answer : (charRead s l c r).observerReport l y = t) (line : t.line l = e') (ctl : e'.ctl = h.ctl)
      (waiting : e'.observer.waiting = h.observer.waiting) : exec (.characterReceived l c) s = finish t :=
    exec_observer_still standby arrives reads answer (by rw [line, ctl]; exact idle) (by rw [line, waiting]; exact free)
  refine ⟨fun fault => ?fault, fun plain length => ?length, fun j i plain payload capture found => ?payload,
    fun plain check wrong => ?wrong, fun plain check right => ?right⟩
  case fault =>
    have faulty : c.framing = true ∨ c.markBit = true := by simpa [plainChar, or_iff_not_imp_left] using fault
    exact still (char_fault (e := s.line l) opened faulty) (observeFault_matched (by exact follow)) (line_setLine_self ..) rfl rfl
  case length =>
    intro m
    refine ⟨fun long => ?_, fun some fits other => ?_, fun plainly => ?_, fun y some fits reply stored unclaimed => ?_⟩
    · exact still (char_length_over (e := s.line l) opened plain length long) (observeFault_matched (by exact follow))
        (line_setLine_self ..) rfl rfl
    · exact still (char_length_next (e := s.line l) opened plain length fits)
        (observeLength_wrong (e := { h with reader := next m }) opened follow other (Nat.pos_iff_ne_zero.mp some))
        (line_setLine_self ..) rfl rfl
    · have fits : c.byte.toNat ≤ 32 := plainly.elim (fun zero => zero.trans_le (Nat.zero_le _)) fun unstored => unstored.1
      have reads := char_length_next (e := s.line l) opened plain length fits
      have answer : (s.setLine l { h with reader := next m }).observeLength l m =
          s.setLine l (matchedLength { h with reader := next m } k att m) := by
        obtain zero | ⟨-, rfl, unstored⟩ := plainly
        · rw [zero]
          exact observeLength_zero follow
        · exact observeLength_unstored follow call unstored
      exact still reads answer (line_setLine_self ..) rfl rfl
    · subst reply
      have reads := char_length_next (e := s.line l) opened plain length fits
      have answer := observeLength_stored (s := s) (l := l) (e := { h with reader := next m }) follow call
        (Nat.pos_iff_ne_zero.mp some) stored
      refine ⟨fun full => ?_, fun i lowest => ?_⟩
      · rw [claimAssembly_denied unclaimed full] at answer
        refine still (e' := { h with
          reader := next m, observer := { o with follow := .matched .reply att m, capture := .lost }
          counters := { h.counters with repliesLost := satInc e.counters.repliesLost } }) reads (answer.trans ?_) ?_ rfl rfl
        · cases l <;> rfl
        · cases l <;> rfl
      · rw [claimAssembly_granted unclaimed lowest] at answer
        let given : Buffer := { s.buffer i with place := .assembling l, line := l, length := m, mode := y
                                                payload := unwritten s.fresh }
        let claimed : LineEngine := { h with
          reader := next m, observer := { o with follow := .matched .reply att m, capture := .assembling } }
        let left : State := { (s.setLine l claimed).setBuffer i given with fresh := s.fresh + 1 }
        have buffer : left.driveIrq.buffer i = given := (State.setBuffer_buffer ..).trans (if_pos rfl)
        refine ⟨left.driveIrq, still (e' := claimed) reads (answer.trans ?_) ?_ rfl rfl, ?_, ?_⟩
        · cases l <;> rfl
        · cases l <;> rfl
        · rw [buffer]
          rfl
        · rw [buffer]
  case payload =>
    have reads := char_payload (e := s.line l) opened plain payload
    have answer := (observePayload_assembling (s := s) (l := l) (j := j) (b := b) (e := { h with
      reader := { r with position := if j + 1 < e.reader.expected then .payload (j + 1) else .check } }) follow capture).trans
        (writePayload_setLine found)
    exact still reads answer ((State.setBuffer_line ..).trans (line_setLine_self ..)) rfl rfl
  case wrong =>
    exact still (char_check_wrong (e := s.line l) opened plain check wrong) (observeFault_matched (by exact follow))
      (line_setLine_self ..) rfl rfl
  case right =>
    intro d mine d' closed s' reported
    have reads := char_check (e := s.line l) opened plain check right
    let ended : LineEngine := { h with reader := { e.reader with state := .hunt, sum := 0 } }
    have success : (s.setLine l ended).observeComplete l = (s.setLine l ended).observeSuccess l q att :=
      observeComplete_matched follow call
    /- What the observation leaves of a state in which the call is forgotten. -/
    have observed (t : State) (drops : t.drops = s.drops) (clock : t.clock = s.clock) :
        t.observation q.drop l q.toggle = reported t := by
      have drop : t.drop q.drop = d := congrArg (·[q.drop.val]) drops
      rw [observation_eq, drop, clock]
      rfl
    have gone (t : State) (line : ∃ c, t.line l = { closed with stamping := c }) (drops : t.drops = s.drops)
        (clock : t.clock = s.clock) (answer : (s.setLine l ended).observeSuccess l q att = t.observation q.drop l q.toggle) :
        gives (reported t) := by
      obtain ⟨c, line⟩ := line
      exact still reads (success.trans (answer.trans (observed t drops clock)))
        (Eq.trans (b := t.line l) (by cases l <;> rfl) line) rfl rfl
    refine ⟨fun none => ?_, fun lost => ?_, fun i capture found new t stored => ?_⟩
    · exact gone s' ⟨_, line_setLine_self ..⟩ (State.setLine_drops ..) (State.setLine_clock ..) (observeSuccess_none none)
    · exact gone _ ⟨h.stamping, by cases l <;> rfl⟩ (by cases l <;> rfl) (by cases l <;> rfl) (observeSuccess_lost lost)
    · have line : s'.line l = closed := line_setLine_self ..
      have held : s'.assembling l = some i := (assembling_setLine ..).trans found
      have handed : s'.handOver l .observed none q.drop att false = t := by
        have given : handedOver s' l i .observed none q.drop att false =
            { s.buffer i with
              place := .ready, origin := .observed, tag := none, drop := q.drop, kind := .reply, attention := att
              extraPoll := false, replaced := 0, stamp := s.clock.timestamp, cycle := e.cycle.number } := by
          cases l <;> rfl
        refine handOver_of_storedAs held (by rw [State.setLine_ready]; exact new) ?_
        rw [line, setLine_setLine, given]
        exact stored
      have answer := observeSuccess_assembling (s := s) (l := l) (e := ended) (q := q) (att := att) capture
      have forgot : s.setLine l (forgetful ended) = s' := rfl
      rw [forgot, handed] at answer
      refine gone t ?_ ?_ ?_ answer
      · obtain ⟨c, is⟩ := handOver_line s' l l .observed none q.drop att false
        rw [handed, if_pos rfl, line] at is
        exact ⟨c, is⟩
      · rw [← handed]
        exact (DropTable.handOver_drops ..).trans (State.setLine_drops ..)
      · rw [← handed]
        exact (((Untouched.refl s').handOver l .observed none q.drop att false).clock).trans (State.setLine_clock ..)

end Sys2Proof.Proofs.ObservedReplies

/-! The standby observer follows the calls of another master; what it waits for makes no difference to what it takes of a character
(R132 to R134). -/

namespace Sys2Proof.Proofs.ObserverCalls

open Sys2Proof Sys2Proof.Machine Sys2Proof.Laws Sys2Proof.Proofs.Rows Sys2Proof.Proofs.Work Sys2Proof.Proofs.LineRows
open Sys2Proof.Proofs.SilentEnds Sys2Proof.Proofs.Characters Sys2Proof.Proofs.Storing Sys2Proof.Proofs.Replies
open Sys2Proof.Proofs.Observers Sys2Proof.Proofs.ObservedReplies

/-! ### The wait and the controller, to the observer's reports -/

section

variable {s t : State} {l : Line} {k : Controller} {w : Bool}

/-- `s` with this controller on a line and its observer waiting or not. -/
def noted (l : Line) (k : Controller) (w : Bool) (s : State) : State :=
  touched s l k { (s.line l).observer with waiting := w }

/-- An operation that neither asks for nor moves the controller and the observer's wait. -/
def Blind (l : Line) (f : State → State) : Prop :=
  ∀ k w s, f (noted l k w s) = noted l k w (f s)

theorem noted_line : (noted l k w s).line l =
    { s.line l with ctl := k, observer := { (s.line l).observer with waiting := w } } := line_setLine_self ..

theorem noted_observer : ((noted l k w s).line l).observer = { (s.line l).observer with waiting := w } := by rw [noted_line]

namespace Blind

variable {f g : State → State}

theorem id (l : Line) : Blind l fun s => s := fun _ _ _ => rfl

theorem comp (hf : Blind l f) (hg : Blind l g) : Blind l fun s => g (f s) := fun k w s => by
  simp only [hf k w s, hg k w (f s)]

theorem modLine {f : LineEngine → LineEngine}
    (hf : ∀ e k w, f { e with ctl := k, observer := { e.observer with waiting := w } } =
      { f e with ctl := k, observer := { (f e).observer with waiting := w } }) :
    Blind l fun s => s.modLine l f := fun k w s => by
  change (noted l k w s).modLine l f = noted l k w (s.modLine l f)
  rw [modLine_eq, modLine_eq, noted_line, hf]
  unfold noted touched
  rw [line_setLine_self, setLine_setLine, setLine_setLine]

theorem modObserver {f : Observer → Observer} (hf : ∀ o w, f { o with waiting := w } = { f o with waiting := w }) :
    Blind l fun s => s.modObserver l f :=
  modLine (f := fun e => { e with observer := f e.observer }) fun e k w =>
    congrArg (fun o => { e with ctl := k, observer := o }) (hf e.observer w)

/-- An operation that leaves the controller and the observer in place, and takes no note of them. -/
theorem of_touched (keeps : ∀ s, ((f s).line l).observer = (s.line l).observer)
    (apart : ∀ s k o, f (touched s l k o) = touched (f s) l k o) : Blind l f := fun k w s => by
  unfold noted
  rw [apart, keeps]

theorem forgetCall (l : Line) : Blind l fun s => s.forgetCall l := modObserver fun _ _ => rfl

theorem declareError (l : Line) : Blind l fun s => s.declareError l := fun k w s => by
  have reader : ((noted l k w s).line l).reader = (s.line l).reader := by rw [noted_line]
  unfold State.declareError State.flushReader
  simp only [reader]
  split
  · exact modLine (f := fun e => { e with reader := { e.reader with state := .flush, gap := e.params.gapLimit } })
      (fun _ _ _ => rfl) k w s
  · rfl

theorem writePayload (l : Line) (n : Nat) (b : Byte) : Blind l fun s => s.writePayload l n b :=
  of_touched (fun s => by rw [writePayload_line]) fun s k o => by
    have found : (touched s l k o).assembling l = s.assembling l := assembling_setLine ..
    unfold State.writePayload
    rw [found]
    split
    · cases l <;> rfl
    · rfl

theorem handOver (l : Line) (p : Origin) (g : Option Tag) (d : DropIx) (a x : Bool) : Blind l fun s => s.handOver l p g d a x :=
  of_touched (fun s => by
    obtain ⟨c, line⟩ := handOver_line s l l p g d a x
    rw [line, if_pos rfl]) fun s k o => touched_handOver s l k o p g d a x

theorem post (l : Line) (x : EventKind) (y : Option Line) (d : Option DropIx) (g : Option Tag) (b c : Byte) :
    Blind l fun s => s.post x y d g b c :=
  of_touched (fun s => by rw [post_line]) fun s k o => by cases l <;> rfl

theorem observation (l : Line) (d : DropIx) (b : Bool) : Blind l fun s => s.observation d l b :=
  of_touched (fun s => by rw [observation_line]) fun s k o => by
    rw [observation_eq, observation_eq]
    cases l <;> rfl

theorem touched_freeAssembling (s : State) (l : Line) (k : Controller) (o : Observer) :
    (touched s l k o).freeAssembling l = touched (s.freeAssembling l) l k o := by
  have found : (touched s l k o).assembling l = s.assembling l := assembling_setLine ..
  unfold State.freeAssembling
  rw [found]
  split
  · cases l <;> rfl
  · rfl

theorem freeAssembling (l : Line) : Blind l fun s => s.freeAssembling l :=
  of_touched (fun s => by rw [freeAssembling_line]) fun s k o => touched_freeAssembling s l k o

theorem touched_claimAssembly (s : State) (l : Line) (k : Controller) (o : Observer) (n : Nat) (m : StoreMode) :
    (touched s l k o).claimAssembly l n m = (touched (s.claimAssembly l n m).1 l k o, (s.claimAssembly l n m).2) := by
  have free : (touched (s.freeAssembling l) l k o).freeBuffer = (s.freeAssembling l).freeBuffer := by cases l <;> rfl
  unfold State.claimAssembly
  dsimp only
  rw [touched_freeAssembling, free]
  cases (s.freeAssembling l).freeBuffer with
  | none => cases l <;> rfl
  | some b => cases l <;> rfl

theorem noted_claimAssembly (s : State) (l : Line) (k : Controller) (w : Bool) (n : Nat) (m : StoreMode) :
    (noted l k w s).claimAssembly l n m = (noted l k w (s.claimAssembly l n m).1, (s.claimAssembly l n m).2) := by
  obtain ⟨c, line⟩ := claimAssembly_line s l l n m
  unfold noted
  rw [touched_claimAssembly, line, if_pos rfl]

end Blind

theorem noted_observeStart (s : State) (b : Byte) :
    (noted l k w s).observeStart l b = noted l k w (s.observeStart l b) := by
  unfold State.observeStart
  rw [noted_observer]
  dsimp only
  split
  · exact Blind.modObserver (fun _ _ => rfl) k w s
  · split
    · exact Blind.modObserver (fun _ _ => rfl) k w s
    · exact Blind.modObserver (fun _ _ => rfl) k w s

theorem noted_observeControl (s : State) (b : Byte) :
    (noted l k w s).observeControl l b = noted l k w (s.observeControl l b) := by
  unfold State.observeControl
  rw [noted_observer]
  dsimp only
  split
  · exact Blind.modObserver (fun _ _ => rfl) k w s
  · split
    · split
      · exact Blind.modObserver (fun _ _ => rfl) k w s
      · exact Blind.modObserver (fun _ _ => rfl) k w s
    · exact Blind.modObserver (fun _ _ => rfl) k w s
  all_goals rfl

theorem noted_observePayload (s : State) (n : Nat) (b : Byte) :
    (noted l k w s).observePayload l n b = noted l k w (s.observePayload l n b) := by
  unfold State.observePayload
  rw [noted_observer]
  dsimp only
  split
  · exact Blind.writePayload l n b k w s
  all_goals rfl

theorem noted_observeUnmatchedEnd (s : State) :
    (noted l k w s).observeUnmatchedEnd l = noted l k w (s.observeUnmatchedEnd l) := by
  unfold State.observeUnmatchedEnd
  rw [noted_observer]
  dsimp only
  split
  · exact Blind.forgetCall l k w s
  · exact Blind.modObserver (fun _ _ => rfl) k w s

theorem noted_observeFault (s : State) : (noted l k w s).observeFault l = noted l k w (s.observeFault l) := by
  unfold State.observeFault
  rw [noted_observer]
  dsimp only
  split
  · exact Blind.forgetCall l k w s
  · exact Blind.modObserver (fun _ _ => rfl) k w s
  · exact Blind.modObserver (fun _ _ => rfl) k w s
  all_goals rfl

theorem noted_observeGap (s : State) : (noted l k w s).observeGap l = noted l k w (s.observeGap l) := by
  unfold State.observeGap
  rw [noted_observer]
  dsimp only
  split
  · exact Blind.forgetCall l k w s
  · exact noted_observeUnmatchedEnd s
  · exact noted_observeUnmatchedEnd s
  · exact (Blind.freeAssembling l).comp (Blind.forgetCall l) k w s
  · exact (Blind.freeAssembling l).comp (Blind.forgetCall l) k w s
  · rfl

theorem noted_observeClosed (s : State) : (noted l k w s).observeClosed l = noted l k w (s.observeClosed l) := by
  unfold State.observeClosed
  rw [noted_observer]
  dsimp only
  split
  · exact noted_observeUnmatchedEnd s
  · exact (Blind.freeAssembling l).comp (Blind.forgetCall l) k w s
  all_goals rfl

theorem noted_captureMode (s : State) : (noted l k w s).captureMode l = s.captureMode l := by
  have params : ((noted l k w s).line l).params = (s.line l).params := by rw [noted_line]
  have drop (d : DropIx) : (noted l k w s).drop d = s.drop d := State.setLine_drop ..
  unfold State.captureMode
  rw [noted_observer, params]
  simp only [drop]

theorem noted_observeLength (s : State) (n : Nat) :
    (noted l k w s).observeLength l n = noted l k w (s.observeLength l n) := by
  unfold State.observeLength
  rw [noted_observer]
  dsimp only
  split
  · exact Blind.modObserver (fun _ _ => rfl) k w s
  · next att _ _ =>
    have counted := Blind.modObserver (l := l) (f := fun o => { o with follow := .matched .reply att n }) (fun _ _ => rfl) k w s
    dsimp only at counted
    rw [counted]
    split
    · rfl
    · rw [noted_captureMode]
      split
      · rfl
      · rw [Blind.noted_claimAssembly]
        dsimp only
        exact Blind.modObserver (fun _ _ => rfl) k w _
  · split
    · exact Blind.modObserver (fun _ _ => rfl) k w s
    · exact (Blind.declareError l).comp (Blind.modObserver fun _ _ => rfl) k w s
  all_goals rfl

theorem noted_observeSuccess (s : State) (q : ObservedCall) (a : Bool) :
    (noted l k w s).observeSuccess l q a = noted l k w (s.observeSuccess l q a) := by
  have reported := (Blind.observation l q.drop q.toggle).comp (Blind.forgetCall l)
  unfold State.observeSuccess
  rw [noted_observer]
  dsimp only
  split
  · exact reported k w s
  · exact (Blind.handOver l .observed none q.drop a false).comp reported k w s
  · exact (Blind.post l .replyLost (some l) (some q.drop) none Origin.observed.code 0).comp reported k w s

/-- What a report leaves of a wait: it stands as it was, or a call newly observed has ended it. -/
def NotedAlike (l : Line) (f : State → State) (s : State) : Prop :=
  ∀ k w, f (noted l k w s) = noted l k w (f s) ∨
    (f (noted l k w s) = noted l k false (f s) ∧ ((f s).line l).observer.elapsed = false)

theorem noted_observeCall (s : State) (a : BitVec 7) (b : Byte) (n : Nat) :
    NotedAlike l (fun s => s.observeCall l a b n) s := fun k w => by
  have plain : s.setLine l (s.line l) = s := setLine_self s l
  have again (o : Observer) : noted l k false (s.setLine l (withObserver (s.line l) o)) =
      s.setLine l { s.line l with ctl := k, observer := { o with waiting := false } } := by
    unfold noted touched
    rw [line_setLine_self, setLine_setLine]
    rfl
  have forgotten (other : observedKind b n = none ∨ s.dropAt l a = none) :
      (noted l k w s).observeCall l a b n = noted l k w (s.observeCall l a b n) := by
    have moved : (noted l k w s).observeCall l a b n = (noted l k w s).forgetCall l :=
      (observeCall_other other).trans forgetCall_eq.symm
    have stays : (s.setLine l (s.line l)).observeCall l a b n = (s.setLine l (s.line l)).forgetCall l :=
      (observeCall_other other).trans forgetCall_eq.symm
    rw [plain] at stays
    rw [moved, stays]
    exact Blind.forgetCall l k w s
  cases kind : observedKind b n with
  | none => exact .inl (forgotten (.inl kind))
  | some q =>
    cases drop : s.dropAt l a with
    | none => exact .inl (forgotten (.inr drop))
    | some d =>
      have stays := observeCall_known (e := s.line l) kind drop
      rw [plain] at stays
      refine .inr ?_
      dsimp only
      rw [stays, again, line_setLine_self]
      exact ⟨observeCall_known kind drop, rfl⟩

theorem noted_observeComplete (s : State) : NotedAlike l (fun s => s.observeComplete l) s := fun k w => by
  unfold State.observeComplete
  dsimp only
  rw [noted_observer]
  dsimp only
  split
  · exact noted_observeCall s _ _ _ k w
  · split
    · exact .inl (noted_observeSuccess s _ _)
    · exact .inl (Blind.forgetCall l k w s)
  · exact .inl (noted_observeUnmatchedEnd s)
  · exact .inl (noted_observeUnmatchedEnd s)
  all_goals exact .inl (Blind.modObserver (fun _ _ => rfl) k w s)

theorem noted_observerReport (s : State) (y : ReaderReport) : NotedAlike l (fun s => s.observerReport l y) s := fun k w => by
  cases y with
  | start b => exact .inl (noted_observeStart s b)
  | startFraming | stray => exact .inl rfl
  | control b => exact .inl (noted_observeControl s b)
  | length n => exact .inl (noted_observeLength s n)
  | payload n b => exact .inl (noted_observePayload s n b)
  | complete => exact noted_observeComplete s k w
  | fault f =>
    cases f with
    | gap => exact .inl (noted_observeGap s)
    | framing | length | check => exact .inl (noted_observeFault s)
  | closed => exact .inl (noted_observeClosed s)

/-- A character of the receiver on its way. -/
theorem noted_routeChar {c : RxChar} (standby : (s.line l).role = .standby) :
    NotedAlike l (fun s => s.routeChar l c) s := fun k w => by
  have taken {p : State} (role : (p.line l).role = .standby) : NotedAlike l (fun s => s.readChar l c) p := fun k w => by
    have reader : ((noted l k w p).line l).reader = (p.line l).reader := by rw [noted_line]
    have params : ((noted l k w p).line l).params = (p.line l).params := by rw [noted_line]
    have read (r : Reader) : (noted l k w p).modReader l (fun _ => r) = noted l k w (p.modReader l fun _ => r) :=
      Blind.modLine (f := fun e => { e with reader := r }) (fun _ _ _ => rfl) k w p
    have sameRole (r : Reader) : ((p.modReader l fun _ => r).line l).role = .standby := by
      rw [State.modReader_eq, modLine_eq, line_setLine_self]
      exact role
    unfold State.readChar
    simp only [reader, params, read]
    split
    · rw [deliver_of_standby (sameRole _), deliver_of_standby (by rw [noted_line]; exact sameRole _)]
      exact noted_observerReport _ _ k w
    · exact .inl rfl
  have tx : ((noted l k w s).line l).tx = (s.line l).tx := by rw [noted_line]
  have rx : ((noted l k w s).line l).rx = (s.line l).rx := by rw [noted_line]
  have sent (f : Transmitter → Transmitter) : (noted l k w s).modTx l f = noted l k w (s.modTx l f) :=
    Blind.modLine (f := fun e => { e with tx := f e.tx }) (fun _ _ _ => rfl) k w s
  unfold State.routeChar
  simp only [tx, rx, sent]
  split
  · exact .inl rfl
  · refine taken ?_ k w
    rw [State.modTx_eq, modLine_eq, line_setLine_self]
    exact standby

theorem noted_self {k : Controller} (ctl : (s.line l).ctl = k) (waiting : (s.line l).observer.waiting = w) :
    noted l k w s = s := by
  subst ctl waiting
  exact setLine_self s l

theorem waitOver_noted (o : Observer) (w : Bool) : waitOver { o with waiting := w } = waitOver o := by
  rw [waitOver_eq, waitOver_eq]

/-- A wait that is over by itself. -/
theorem waitOver_still {o : Observer} (running : o.elapsed = false) (free : o.waiting = false) : waitOver o = o := by
  obtain ⟨call, lead, timer, window, elapsed, waiting, follow, capture⟩ := o
  obtain rfl : waiting = false := free
  obtain rfl : elapsed = false := running
  rfl

theorem settleWait_noted {k : Controller} (ctl : (s.line l).ctl = k) (idle : k.state = .idle) :
    (noted l k true s).settleWait l = s.setLine l { s.line l with observer := waitOver (s.line l).observer } := by
  subst ctl
  refine (settleWait_over (.inr (by rw [idle]; decide)) rfl).trans ?_
  rw [waitOver_noted]

/-- What the observer waited for is judged as any other character, and the wait is settled after it (log 18). -/
theorem exec_waiting {c : CharSamples} (standby : (s.line l).role = .standby) (sound : (s.line l).RoleSound)
    (receiving : (s.line l).rx.state = .receiving) (starts : c.start.majority = false)
    (waits : (s.line l).observer.waiting = true)
    (free : exec (.characterReceived l c)
      (s.setLine l { s.line l with observer := { (s.line l).observer with waiting := false } }) = .next t) :
    exec (.characterReceived l c) s = .next (t.setLine l { t.line l with observer := waitOver (t.line l).observer }) := by
  let k := (s.line l).ctl
  let e : LineEngine := { s.line l with observer := { (s.line l).observer with waiting := false } }
  let p := s.setLine l (echoHeard e c)
  have idle : k.state = .idle := idle_of_standby standby sound
  have line : p.line l = echoHeard e c := line_setLine_self ..
  have unwaited : noted l k false p = p := noted_self (by rw [line]; rfl) (by rw [line]; rfl)
  have waited : noted l k true p = s.setLine l (echoHeard (s.line l) c) := by
    unfold noted touched
    rw [line, setLine_setLine, ← waits]
    rfl
  have routed := noted_routeChar (s := p) (l := l) (c := rxChar c) (by rw [line]; exact standby)
  generalize out : p.routeChar l (rxChar c) = v at routed
  have kept : noted l k false v = v := by
    have both := routed k false
    dsimp only at both
    rw [unwaited, out] at both
    exact (both.elim id And.left).symm
  have held : (v.line l).ctl = k ∧ (v.line l).observer.waiting = false := by
    rw [← kept, noted_line]
    exact ⟨rfl, rfl⟩
  have settled : v.settleWait l = v := settleWait_of_none (.inr (by rw [held.1, idle]; decide)) held.2
  obtain rfl : v.driveIrq = t := by
    have run := exec_characterReceived (s := s.setLine l e) (l := l) (c := c)
    rw [line_setLine_self, setLine_setLine] at run
    have gives := (run (by rw [show e.role = .standby from standby]; decide) receiving starts).symm.trans free
    change finish ((p.routeChar l (rxChar c)).settleWait l) = _ at gives
    rw [out, settled] at gives
    exact Host.Outcome.next.inj gives
  rw [exec_characterReceived (by rw [standby]; decide) receiving starts, ← waited]
  have after : ((noted l k true p).routeChar l (rxChar c)).settleWait l =
      v.setLine l { v.line l with observer := waitOver (v.line l).observer } := by
    obtain alike | ⟨ended, running⟩ := routed k true
    · dsimp only at alike
      rw [alike, out]
      exact settleWait_noted held.1 idle
    · dsimp only at ended running
      rw [ended, out, kept, settled, waitOver_still (by rw [← out]; exact running) held.2]
      exact (setLine_self v l).symm
  rw [after]
  cases l <;> rfl

end

end Sys2Proof.Proofs.ObserverCalls

/-! The characters that the standby observer follows (R132 to R134). -/

namespace Sys2Proof.Proofs.FollowedCalls

open Sys2Proof Sys2Proof.Machine Sys2Proof.Laws Sys2Proof.Proofs.Rows Sys2Proof.Proofs.Work Sys2Proof.Proofs.LineRows
open Sys2Proof.Proofs.SilentEnds Sys2Proof.Proofs.Characters Sys2Proof.Proofs.Storing Sys2Proof.Proofs.Replies
open Sys2Proof.Proofs.Observers Sys2Proof.Proofs.ObservedReplies Sys2Proof.Proofs.ObserverCalls

section

variable {s : State} {l : Line} {c : CharSamples}

/-- What a character leaves that is taken from the receiver to the observer. -/
def Gives (s : State) (l : Line) (c : CharSamples) (r : Reader) (o : Observer) : Prop :=
  exec (.characterReceived l c) s = .next (State.driveIrq (s.setLine l { (s.line l).heard c with reader := r, observer := o }))

variable (standby : (s.line l).role = .standby) (sound : (s.line l).RoleSound) (arrives : s.arrives l c)

include standby sound arrives

theorem gives_reported {r : Reader} {y : ReaderReport} {o : Observer}
    (reads : (s.line l).reader.char (s.line l).params.gapLimit (rxChar c) = (r, some y))
    (answer : (s.setLine l { (s.line l).heard c with reader := r }).observerReport l y =
      s.setLine l { (s.line l).heard c with reader := r, observer := o }) (free : o.waiting = false) : Gives s l c r o :=
  exec_observer_still standby arrives reads answer
    (by rw [line_setLine_self]; exact idle_of_standby (e := s.line l) standby sound) (by rw [line_setLine_self]; exact free)

/-- What the observer takes nothing of. -/
theorem gives_still {r : Reader} {y : ReaderReport}
    (reads : (s.line l).reader.char (s.line l).params.gapLimit (rxChar c) = (r, some y))
    (answer : (s.setLine l { (s.line l).heard c with reader := r }).observerReport l y =
      s.setLine l { (s.line l).heard c with reader := r }) : Gives s l c r (s.line l).observer :=
  gives_reported standby sound arrives reads answer arrives.2.2.2.2

theorem gives_unreported {r : Reader}
    (reads : (s.line l).reader.char (s.line l).params.gapLimit (rxChar c) = (r, none)) :
    Gives s l c r (s.line l).observer := by
  have idle : ((s.line l).heard c).ctl.state = .idle := idle_of_standby (e := s.line l) standby sound
  refine (exec_unreported (by rw [standby]; decide) arrives reads).trans (congrArg finish ?_)
  exact settleWait_still (.inr (by rw [show _ = CtlState.idle from idle]; decide)) arrives.2.2.2.2

theorem gives_hunt (hunts : (s.line l).reader.state = .hunt) :
    let e := s.line l
    let o := e.observer
    let b := c.byte
    (c.markBit = false → Gives s l c e.reader o) ∧
    (c.markBit = true → c.framing = true → Gives s l c (e.flushed e.reader) o) ∧
    (c.markBit = true → c.framing = false → b.getLsbD 7 = false →
      Gives s l c (e.opened b) { o with call := none, follow := .call (b.setWidth 7) none 0 }) ∧
    (c.markBit = true → c.framing = false → b.getLsbD 7 = true →
      (∀ q, o.call = some q → q.address = b.setWidth 7 → Gives s l c (e.opened b) { o with follow := .candidate }) ∧
      ((∀ q, o.call = some q → q.address ≠ b.setWidth 7) →
        Gives s l c (e.opened b) { o with call := none, follow := .nothing })) := by
  intro e o b
  have free : o.waiting = false := arrives.2.2.2.2
  refine ⟨fun mark => ?stray, fun mark framing => ?framing, fun mark plain calls => ?call, fun mark plain replies => ?reply⟩
  case stray => exact gives_still standby sound arrives (char_stray (e := e) hunts mark) rfl
  case framing => exact gives_still standby sound arrives (char_startFraming (e := e) hunts mark framing) rfl
  case call => exact gives_reported standby sound arrives (char_start (e := e) hunts mark plain) (observeStart_call calls) free
  case reply =>
    have opens := char_start (e := e) hunts mark plain
    have start := observeStart_reply (s := s) (l := l) (e := { e.heard c with reader := e.opened b }) replies
    refine ⟨fun q call mine => ?_, fun other => ?_⟩
    · refine gives_reported standby sound arrives opens (start.trans (if_pos ?_)) free
      exact (congrArg (Option.any _) call).trans (decide_eq_true mine)
    · refine gives_reported standby sound arrives opens (start.trans (if_neg ?_)) free
      rw [Bool.not_eq_true, Option.any_eq_false]
      exact fun q call => decide_eq_false (other q call)

variable (opened : (s.line l).reader.state = .inFrame)

include opened

/-- Of the characters of a frame that it takes no part in the observer takes nothing before the end. -/
theorem gives_aside (aside : Aside (s.line l).observer) :
    let e := s.line l
    let o := e.observer
    let b := c.byte
    let counted := { e.reader with sum := e.reader.sum + b }
    let paid (j : Nat) : Reader :=
      { counted with position := if j + 1 < e.reader.expected then .payload (j + 1) else .check }
    (¬ plainChar c → Gives s l c (e.flushed e.reader) o) ∧
    (plainChar c → e.reader.position = .control → Gives s l c { counted with position := .length } o) ∧
    (plainChar c → e.reader.position = .length → b.toNat ≤ 32 →
      Gives s l c { counted with expected := b.toNat, position := if b = 0 then .check else .payload 0 } o) ∧
    (plainChar c → e.reader.position = .length → 32 < b.toNat → Gives s l c (e.flushed counted) o) ∧
    (∀ j, plainChar c → e.reader.position = .payload j → Gives s l c (paid j) o) ∧
    (plainChar c → e.reader.position = .check → b ≠ ~~~ e.reader.sum → Gives s l c (e.flushed e.reader) o) ∧
    (plainChar c → e.reader.position = .check → b = ~~~ e.reader.sum → o.follow ≠ .unmatched →
      Gives s l c { e.reader with state := .hunt, sum := 0 } { o with follow := .nothing }) := by
  intro e o b counted paid
  have free : o.waiting = false := arrives.2.2.2.2
  have nothing {r : Reader} {y : ReaderReport} (reads : e.reader.char e.params.gapLimit (rxChar c) = (r, some y))
      (inside : (∃ b, y = .control b) ∨ (∃ n, y = .length n) ∨ (∃ k b, y = .payload k b) ∨ ∃ f, f ≠ .gap ∧ y = .fault f) :
      Gives s l c r o :=
    gives_still standby sound arrives reads (observerReport_aside (by exact aside) inside)
  have fault {f : FrameFault} (notGap : f ≠ .gap) : ∃ f' : FrameFault, f' ≠ .gap ∧ ReaderReport.fault f = .fault f' :=
    ⟨f, notGap, rfl⟩
  refine ⟨fun faulty => ?_, fun plain control => ?_, fun plain length fits => ?_, fun plain length long => ?_,
    fun j plain payload => ?_, fun plain check wrong => ?_, fun plain check right other => ?_⟩
  · exact nothing (char_fault opened (by simpa [plainChar, or_iff_not_imp_left] using faulty)) (.inr (.inr (.inr (fault nofun))))
  · exact nothing (char_control opened plain control) (.inl ⟨_, rfl⟩)
  · exact nothing (char_length opened plain length fits) (.inr (.inl ⟨_, rfl⟩))
  · exact nothing (char_length_over opened plain length long) (.inr (.inr (.inr (fault nofun))))
  · exact nothing (char_payload opened plain payload) (.inr (.inr (.inl ⟨_, _, rfl⟩)))
  · exact nothing (char_check_wrong opened plain check wrong) (.inr (.inr (.inr (fault nofun))))
  · have stands : o.follow = .nothing ∨ o.follow = .failed := aside.imp_right fun rest => rest.resolve_left other
    exact gives_reported standby sound arrives (char_check (e := e) opened plain check right)
      (observeComplete_aside (by exact stands)) free

theorem gives_candidate {q : ObservedCall} (control : (s.line l).reader.position = .control)
    (follow : (s.line l).observer.follow = .candidate) (call : (s.line l).observer.call = some q) :
    let e := s.line l
    let o := e.observer
    let b := c.byte
    let matched := b.getLsbD 5 = q.toggle ∧ answersCall (match q.kind with | .poll => .poll | .data => .data) b
    let r := { e.reader with sum := e.reader.sum + b, position := .length }
    (¬ plainChar c → Gives s l c (e.flushed e.reader) { o with follow := .unmatched }) ∧
    (plainChar c → matched → Gives s l c r { o with follow := .matched (replyKind b) (b.getLsbD 6) 0 }) ∧
    (plainChar c → ¬ matched → Gives s l c r { o with follow := .unmatched }) := by
  intro e o b matched r
  have free : o.waiting = false := arrives.2.2.2.2
  have frame : (match q.kind with | .poll => FrameKind.poll | .data => .data) = q.kind.frame := by cases q.kind <;> rfl
  refine ⟨fun faulty => ?_, fun plain suits => ?_, fun plain other => ?_⟩
  · exact gives_reported standby sound arrives
      (char_fault (e := e) opened (by simpa [plainChar, or_iff_not_imp_left] using faulty))
      (observeFault_candidate (by exact follow)) free
  · obtain ⟨toggle, answer⟩ := suits
    rw [frame] at answer
    exact gives_reported standby sound arrives (char_control (e := e) opened plain control)
      (observeControl_matched (by exact follow) (by exact call) toggle answer) free
  · refine gives_reported standby sound arrives (char_control (e := e) opened plain control)
      (observeControl_unmatched (q := q) (by exact follow) (by exact call) ?_) free
    rw [← frame]
    exact other

theorem gives_unmatched_end (follow : (s.line l).observer.follow = .unmatched) (plain : plainChar c)
    (check : (s.line l).reader.position = .check) (right : c.byte = ~~~ (s.line l).reader.sum) :
    Gives s l c { (s.line l).reader with state := .hunt, sum := 0 }
      (if (s.line l).observer.elapsed then forgotten (s.line l).observer else { (s.line l).observer with follow := .nothing }) := by
  have free : (s.line l).observer.waiting = false := arrives.2.2.2.2
  refine gives_reported standby sound arrives (char_check opened plain check right) (observeComplete_unmatched (by exact follow)) ?_
  split
  · exact free
  · exact free

/-- The characters of a call that is followed. -/
theorem gives_call {a : BitVec 7} {k : Option Byte} {n : Nat} (follow : (s.line l).observer.follow = .call a k n) :
    let e := s.line l
    let o := e.observer
    let b := c.byte
    let counted := { e.reader with sum := e.reader.sum + b }
    let paid (j : Nat) : Reader :=
      { counted with position := if j + 1 < e.reader.expected then .payload (j + 1) else .check }
    (¬ plainChar c → Gives s l c (e.flushed e.reader) (forgotten o)) ∧
    (plainChar c → e.reader.position = .control → Gives s l c { counted with position := .length }
      { o with follow := .call a (some b) n }) ∧
    (plainChar c → e.reader.position = .length → b.toNat ≤ 32 →
      Gives s l c { counted with expected := b.toNat, position := if b = 0 then .check else .payload 0 }
        { o with follow := .call a k b.toNat }) ∧
    (plainChar c → e.reader.position = .length → 32 < b.toNat → Gives s l c (e.flushed counted) (forgotten o)) ∧
    (∀ j, plainChar c → e.reader.position = .payload j → Gives s l c (paid j) o) ∧
    (plainChar c → e.reader.position = .check → b ≠ ~~~ e.reader.sum → Gives s l c (e.flushed e.reader) (forgotten o)) := by
  intro e o b counted paid
  have free : o.waiting = false := arrives.2.2.2.2
  refine ⟨fun faulty => ?_, fun plain control => ?_, fun plain length fits => ?_, fun plain length long => ?_,
    fun j plain payload => ?_, fun plain check wrong => ?_⟩
  · exact gives_reported standby sound arrives
      (char_fault (e := e) opened (by simpa [plainChar, or_iff_not_imp_left] using faulty))
      (observeFault_call (by exact follow)) free
  · exact gives_reported standby sound arrives (char_control (e := e) opened plain control) (observeControl_call (by exact follow))
      free
  · exact gives_reported standby sound arrives (char_length (e := e) opened plain length fits)
      (observeLength_call (by exact follow)) free
  · exact gives_reported standby sound arrives (char_length_over (e := e) opened plain length long)
      (observeFault_call (by exact follow)) free
  · exact gives_still standby sound arrives (char_payload (e := e) opened plain payload) (observePayload_call (by exact follow))
  · exact gives_reported standby sound arrives (char_check_wrong (e := e) opened plain check wrong)
      (observeFault_call (by exact follow)) free

/-- The clean end of a call that is followed. -/
theorem gives_call_end {a : BitVec 7} {control : Byte} {n : Nat} (follow : (s.line l).observer.follow = .call a (some control) n)
    (plain : plainChar c) (check : (s.line l).reader.position = .check) (right : c.byte = ~~~ (s.line l).reader.sum) :
    let e := s.line l
    let closed := { e.reader with state := .hunt, sum := 0 }
    (∀ q d, observedKind control n = some q → s.dropAt l a = some d →
      Gives s l c closed { call := some { drop := d, address := a, kind := q, toggle := control.getLsbD 5 }
                           lead := 3 * e.divisor, timer := .zero, window := e.params.window, elapsed := false, waiting := false
                           follow := .nothing, capture := .none }) ∧
    (observedKind control n = none ∨ s.dropAt l a = none → Gives s l c closed (forgotten e.observer)) := by
  intro e closed
  have ends := char_check (e := e) opened plain check right
  have call : (s.setLine l { e.heard c with reader := closed }).observeComplete l =
      (s.setLine l { e.heard c with reader := closed }).observeCall l a control n := observeComplete_call (by exact follow)
  refine ⟨fun q d kind drop => ?_, fun other => ?_⟩
  · exact gives_reported standby sound arrives ends (call.trans (observeCall_known kind drop)) rfl
  · exact gives_reported standby sound arrives ends (call.trans (observeCall_other other)) arrives.2.2.2.2

end

/-- Settles O50, by the state of the frame reader and what the observer follows; a wait stands apart from what it takes. -/
theorem observerFollowsCalls : Obligations.ObserverFollowsCalls := by
  unfold Obligations.ObserverFollowsCalls
  refine ⟨fun s l c arrives standby sound => ?_, fun s t l c standby sound receiving starts waits free =>
    exec_waiting standby sound receiving starts waits free⟩
  intro e h o b gives unobserved counted paid
  refine ⟨gives_hunt standby sound arrives, fun flush => gives_unreported standby sound arrives (char_flush flush),
    fun a k n opened follow => ?call,
    fun q opened control follow call => gives_candidate standby sound arrives opened control follow call,
    fun opened follow plain check right => gives_unmatched_end standby sound arrives opened follow plain check right,
    fun opened aside => gives_aside standby sound arrives opened aside⟩
  case call =>
    obtain ⟨fault, control, length, long, payload, wrong⟩ := gives_call standby sound arrives opened follow
    refine ⟨fault, control, length, long, payload, wrong, fun ctl plain check right known => ?_⟩
    subst known
    intro closed kind
    obtain ⟨call, other⟩ := gives_call_end standby sound arrives opened follow plain check right
    exact ⟨fun q d isKind enabled line address lowest => call q d isKind (dropAt_eq_some.mpr ⟨⟨enabled, line, address⟩, lowest⟩),
      fun rest => other (rest.imp_right dropAt_eq_none.mpr)⟩

end Sys2Proof.Proofs.FollowedCalls

/-! A character goes to one place, and what the receiver notes of it stays whatever is done with it (R4 to R6, R137). -/

namespace Sys2Proof.Proofs.OnePlace

open Sys2Proof Sys2Proof.Machine Sys2Proof.Laws Sys2Proof.Proofs.Rows Sys2Proof.Proofs.Work Sys2Proof.Proofs.LineRows
open Sys2Proof.Proofs.RoleEnds Sys2Proof.Proofs.SilentEnds Sys2Proof.Proofs.Characters Sys2Proof.Proofs.Foreign

/-! ### The bits of a character (R1, R3 to R5) -/

theorem majority_eq (v : Vote) : v.majority = mostOf v := by
  unfold Vote.majority mostOf
  rw [Bool.or_right_comm]

theorem noisy_iff (v : Vote) : v.noisy = true ↔ disagree v := by
  unfold Vote.noisy
  rw [Bool.not_eq_true', Bool.and_eq_false_iff, decide_eq_false_iff_not, decide_eq_false_iff_not]
  exact Decidable.not_and_iff_or_not.symm

/-- The byte whose bits, least significant first, are the majorities of these votes. -/
theorem getLsbD_votes (vs : List Vote) {k : Nat} (bit : k < 8) :
    (vs.foldr (fun v (acc : Byte) => (acc <<< 1) ||| flagBit v.majority 0) 0).getLsbD k =
      (vs[k]?.map Vote.majority).getD false := by
  have flag (b : Bool) (j : Nat) : (flagBit b 0).getLsbD j = (b && decide (j = 0)) := by
    cases b with
    | false => exact BitVec.getLsbD_zero
    | true => exact BitVec.getLsbD_one.trans (by simp)
  induction vs generalizing k with
  | nil => exact BitVec.getLsbD_zero
  | cons v vs ih =>
    rw [List.foldr_cons, BitVec.getLsbD_or, BitVec.getLsbD_shiftLeft, flag]
    cases k with
    | zero => simp
    | succ k =>
      have rest := ih (Nat.lt_of_succ_lt bit)
      simp only [Nat.add_sub_cancel, List.getElem?_cons_succ]
      rw [rest]
      simp [bit]

theorem getLsbD_byte (c : CharSamples) (k : Fin 8) : c.byte.getLsbD k = mostOf c.data[k] := by
  unfold CharSamples.byte
  rw [getLsbD_votes _ k.isLt, ← majority_eq]
  simp

theorem noisy_char_iff (c : CharSamples) :
    c.noisy = true ↔ disagree c.start ∨ (∃ k : Fin 8, disagree c.data[k]) ∨ disagree c.mark := by
  have data : c.data.toList.any Vote.noisy = true ↔ ∃ k : Fin 8, disagree c.data[k] := by
    rw [Vector.any_toList, Vector.any_eq_true]
    exact ⟨fun ⟨i, bound, noise⟩ => ⟨⟨i, bound⟩, (noisy_iff _).mp noise⟩, fun ⟨k, noise⟩ => ⟨k, k.isLt, (noisy_iff _).mpr noise⟩⟩
  unfold CharSamples.noisy
  rw [Bool.or_eq_true, Bool.or_eq_true, noisy_iff, noisy_iff, data, or_assoc]

/-! ### What the receiver notes stays -/

/-- `t` has the receiver, the count of noise and the silence count of `s` on a line; where `z`, a demotion may have cleared the
silence count. -/
structure Notes (z : Prop) (l : Line) (s t : State) : Prop where
  rx : (t.line l).rx = (s.line l).rx
  noise : (t.line l).counters.noise = (s.line l).counters.noise
  silence : (t.line l).silence = (s.line l).silence ∨ (z ∧ (t.line l).silence = .zero)

namespace Notes

variable {z : Prop} {l : Line} {s t u : State}

theorem refl (s : State) : Notes z l s s := ⟨rfl, rfl, .inl rfl⟩

theorem trans (h : Notes z l s t) (j : Notes z l t u) : Notes z l s u where
  rx := j.rx.trans h.rx
  noise := j.noise.trans h.noise
  silence := j.silence.elim (fun same => same ▸ h.silence) .inr

theorem of_line (same : t.line l = s.line l) : Notes z l s t := ⟨by rw [same], by rw [same], .inl (by rw [same])⟩

theorem of_work (h : OnlyWork l s t) : Notes z l s t := ⟨h.rx, h.part (·.counters.noise), .inl h.silence⟩

theorem modLine (s : State) {f : LineEngine → LineEngine}
    (hf : ∀ e, ((f e).rx, (f e).counters.noise, (f e).silence) = (e.rx, e.counters.noise, e.silence)) :
    Notes z l s (s.modLine l f) := by
  have line : (s.modLine l f).line l = f (s.line l) := by rw [State.modLine_line, if_pos rfl]
  obtain ⟨rx, noise, silence⟩ : _ ∧ _ ∧ _ := by simpa only [Prod.mk.injEq] using hf (s.line l)
  exact ⟨by rw [line, rx], by rw [line, noise], .inl (by rw [line, silence])⟩

theorem modObserver (s : State) (f : Observer → Observer) : Notes z l s (s.modObserver l f) := modLine s fun _ => rfl

theorem modCtl (s : State) (f : Controller → Controller) : Notes z l s (s.modCtl l f) := modLine s fun _ => rfl

theorem modCounters (s : State) {f : LineCounters → LineCounters} (hf : ∀ c, (f c).noise = c.noise) :
    Notes z l s (s.modCounters l f) :=
  modLine (f := fun e => { e with counters := f e.counters }) s fun e => by rw [hf]

theorem modCycle (s : State) (f : Cycle → Cycle) : Notes z l s (s.modCycle l f) := modLine s fun _ => rfl

theorem forgetCall (s : State) : Notes z l s (s.forgetCall l) := modObserver ..

theorem declareError (s : State) : Notes z l s (s.declareError l) := by
  unfold State.declareError State.flushReader
  split
  · exact modLine s fun _ => rfl
  · exact refl s

theorem countReplyLost (s : State) : Notes z l s (s.countReplyLost l) := modCounters s fun _ => rfl

theorem claimAssembly (s : State) (n : Nat) (m : StoreMode) : Notes z l s (s.claimAssembly l n m).1 := by
  unfold State.claimAssembly
  dsimp only
  split
  · exact of_line ((State.modBuffer_line ..).trans (freeAssembling_line s l l))
  · refine Notes.trans (of_line ?_) (countReplyLost _)
    rw [raise_line, freeAssembling_line]

theorem handOver (s : State) (p : Origin) (g : Option Tag) (d : DropIx) (a x : Bool) : Notes z l s (s.handOver l p g d a x) := by
  obtain ⟨c, line⟩ := handOver_line s l l p g d a x
  rw [if_pos rfl] at line
  exact ⟨by rw [line], by rw [line], .inl (by rw [line])⟩

/-! #### The end of an attempt and a demotion -/

/-- A demotion clears the silence count (R132). -/
theorem demote (s : State) (cleared : z) : Notes z l s (s.demote l) := by
  unfold State.demote
  dsimp only
  have told : Notes z l s (((s.modLine l fun e => { e with role := .standby }).postRole l .demotion).raise (contentionBit l)) :=
    (modLine (f := fun e => { e with role := .standby }) s fun _ => rfl).trans
      ((of_line (postRole_line ..)).trans (of_line (raise_line ..)))
  have left (p : State) : Notes z l p (p.abandonCycle l) := by
    unfold State.abandonCycle
    split
    · exact (modCycle p _).trans (of_line (postCycleDone_line ..))
    · exact refl p
  have flushed (p : State) : Notes z l p (p.abandonFrame l) := (declareError p).trans (of_line (freeAssembling_line ..))
  have begun (p : State) : Notes z l p (p.startStandby l) := by
    have line : (p.startStandby l).line l = { p.line l with observer := .empty, silence := .zero } :=
      (State.modLine_line ..).trans (if_pos rfl)
    exact ⟨by rw [line], by rw [line], .inr ⟨cleared, by rw [line]⟩⟩
  exact (((told.trans (of_work (.finishTxn ..))).trans (left _)).trans (flushed _)).trans (begun _)

theorem meetContention (s : State) (cleared : z) : Notes z l s (s.meetContention l) := by
  have counted : Notes z l s (s.countContention l) := modLine s fun _ => rfl
  unfold State.meetContention
  dsimp only
  split
  · exact counted.trans (demote _ cleared)
  · exact counted

theorem endAttempt (s : State) (o : TxnOutcome) (cleared : o = .contention → z) : Notes z l s (s.endAttempt l o) := by
  cases inHand : (s.line l).ctl.txn with
  | none =>
    rw [endAttempt_none s l inHand]
    exact refl s
  | some x =>
    have reported : Notes z l s (attemptReported s l o x) := by
      have line := attemptReported_line s l o x
      exact ⟨by rw [line], by rw [line], .inl (by rw [line])⟩
    have after (p : State) : Notes z l p (p.afterAttempt l o) := of_work (.afterAttempt ..)
    rw [endAttempt_eq s l inHand]
    split
    · next contends =>
      have met := reported.trans (meetContention _ (cleared contends))
      split
      · exact met.trans (after _)
      · exact met
    · exact reported.trans (after _)

/-! #### The controller's reports -/

theorem discard (s : State) (why : DiscardWhy) : Notes z l s (s.discard l why) := modCtl ..

theorem countUnsolicited (s : State) : Notes z l s (s.countUnsolicited l) := modCounters s fun _ => rfl

theorem countStale (s : State) : Notes z l s (s.countStale l) := modCounters s fun _ => rfl

theorem faultReply (s : State) (o : TxnOutcome) : Notes z l s (s.faultReply l o) := (declareError s).trans (discard ..)

/-- The reports of a character with a framing error (R15, R16). -/
def Broken : ReaderReport → Prop
  | .startFraming _ | .stray _ _ | .fault .framing => True
  | .start _ | .control _ | .length _ | .payload _ _ | .complete | .fault _ | .closed => False

theorem quietReport (s : State) (y : ReaderReport) (cleared : Broken y ∨ z) : Notes z l s (s.quietReport l y) := by
  cases y with
  | start b =>
    dsimp only [State.quietReport]
    split
    · exact countUnsolicited s
    · exact meetContention s (cleared.resolve_left id)
  | startFraming b =>
    dsimp only [State.quietReport]
    split
    · exact countUnsolicited s
    · exact refl s
  | stray _ _ => exact countUnsolicited s
  | control _ | length _ | payload _ _ | complete | fault _ | closed => exact refl s

theorem awaitReport (s : State) (y : ReaderReport) (cleared : Broken y ∨ z) : Notes z l s (s.awaitReport l y) := by
  cases y with
  | start b =>
    dsimp only [State.awaitReport]
    split_ifs
    · exact endAttempt s _ fun _ => cleared.resolve_left id
    · exact modCtl ..
    · exact (countStale s).trans (discard ..)
  | startFraming b =>
    dsimp only [State.awaitReport]
    split
    · exact discard ..
    · exact (countUnsolicited s).trans (discard ..)
  | stray _ _ => exact countUnsolicited s
  | control _ | length _ | payload _ _ | complete | fault _ | closed => exact refl s

theorem receiveControl (s : State) (b : Byte) : Notes z l s (s.receiveControl l b) := by
  unfold State.receiveControl
  dsimp only
  split
  · refine ((countStale s).trans ?_).trans (discard ..)
    split
    · exact of_line (staleReport_line ..)
    · exact refl _
  · refine (modCtl s fun c => { c with window := .met }).trans ?_
    split
    · split
      · exact modCtl ..
      · exact faultReply ..
    · exact faultReply ..

theorem receiveLength (s : State) (n : Nat) : Notes z l s (s.receiveLength l n) := by
  unfold State.receiveLength
  dsimp only
  refine (modCtl s fun c => { c with reply := { c.reply with length := n } }).trans ?_
  split
  · exact refl _
  · split
    · split
      · exact refl _
      · exact (claimAssembly ..).trans (modCtl ..)
    · exact faultReply ..

theorem receiveComplete (s : State) : Notes z l s (s.receiveComplete l) := by
  unfold State.receiveComplete
  dsimp only
  split
  · exact refl s
  · split
    · exact endAttempt s _ nofun
    · split
      · exact endAttempt s _ nofun
      · exact (handOver ..).trans (endAttempt _ _ nofun)
      · exact (of_line (post_line ..)).trans (endAttempt _ _ nofun)

theorem receiveReport (s : State) (y : ReaderReport) : Notes z l s (s.receiveReport l y) := by
  cases y with
  | control b => exact receiveControl s b
  | length n => exact receiveLength s n
  | payload k b =>
    dsimp only [State.receiveReport]
    split
    · exact of_line (writePayload_line ..)
    · exact refl s
  | complete => exact receiveComplete s
  | fault f =>
    cases f with
    | gap => exact endAttempt s _ nofun
    | framing | length | check => exact discard ..
  | start _ | startFraming _ | stray _ _ | closed => exact refl s

theorem discardEnd (s : State) (cleared : z) : Notes z l s (s.discardEnd l) := by
  unfold State.discardEnd
  split
  · exact endAttempt s _ fun _ => cleared
  · split
    · exact endAttempt s _ nofun
    · exact modCtl ..

theorem discardReport (s : State) (y : ReaderReport) (cleared : Broken y ∨ z) : Notes z l s (s.discardReport l y) := by
  cases y with
  | complete | closed => exact discardEnd s (cleared.resolve_left id)
  | fault f =>
    cases f with
    | gap => exact discardEnd s (cleared.resolve_left id)
    | framing | length | check => exact refl s
  | start _ | startFraming _ | stray _ _ | control _ | length _ | payload _ _ => exact refl s

theorem controllerReport (s : State) (y : ReaderReport) (cleared : Broken y ∨ z) : Notes z l s (s.controllerReport l y) := by
  unfold State.controllerReport
  split
  · exact quietReport s y cleared
  · exact quietReport s y cleared
  · exact quietReport s y cleared
  · exact quietReport s y cleared
  · exact awaitReport s y cleared
  · exact receiveReport s y
  · exact discardReport s y cleared
  · exact modCtl ..

/-! #### The observer's reports -/

theorem observeStart (s : State) (b : Byte) : Notes z l s (s.observeStart l b) := by
  unfold State.observeStart
  dsimp only
  split
  · exact modObserver ..
  · split
    · exact modObserver ..
    · exact modObserver ..

theorem observeControl (s : State) (b : Byte) : Notes z l s (s.observeControl l b) := by
  unfold State.observeControl
  dsimp only
  split
  · exact modObserver ..
  · split
    · split
      · exact modObserver ..
      · exact modObserver ..
    · exact modObserver ..
  all_goals exact refl s

theorem observeLength (s : State) (n : Nat) : Notes z l s (s.observeLength l n) := by
  unfold State.observeLength
  dsimp only
  split
  · exact modObserver ..
  · next att _ _ =>
    refine (modObserver s fun o => { o with follow := .matched .reply att n }).trans ?_
    split
    · exact refl _
    · split
      · exact refl _
      · exact (claimAssembly ..).trans (modObserver ..)
  · split
    · exact modObserver ..
    · exact (declareError s).trans (modObserver ..)
  all_goals exact refl s

theorem observePayload (s : State) (n : Nat) (b : Byte) : Notes z l s (s.observePayload l n b) := by
  unfold State.observePayload
  dsimp only
  split
  · exact of_line (writePayload_line ..)
  all_goals exact refl s

theorem observeCall (s : State) (a : BitVec 7) (b : Byte) (n : Nat) : Notes z l s (s.observeCall l a b n) := by
  unfold State.observeCall
  dsimp only
  split
  · exact modLine s fun _ => rfl
  · exact forgetCall s

theorem observeSuccess (s : State) (q : ObservedCall) (a : Bool) : Notes z l s (s.observeSuccess l q a) := by
  have reported (p : State) : Notes z l p ((p.observation q.drop l q.toggle).forgetCall l) :=
    (of_line (observation_line ..)).trans (forgetCall _)
  unfold State.observeSuccess
  dsimp only
  refine Notes.trans ?_ (reported _)
  split
  · exact refl s
  · exact handOver ..
  · exact of_line (post_line ..)

theorem observeUnmatchedEnd (s : State) : Notes z l s (s.observeUnmatchedEnd l) := by
  unfold State.observeUnmatchedEnd
  split
  · exact forgetCall s
  · exact modObserver ..

theorem observeComplete (s : State) : Notes z l s (s.observeComplete l) := by
  unfold State.observeComplete
  dsimp only
  split
  · exact observeCall ..
  · split
    · exact observeSuccess ..
    · exact forgetCall s
  · exact observeUnmatchedEnd s
  · exact observeUnmatchedEnd s
  all_goals exact modObserver ..

theorem observeFault (s : State) : Notes z l s (s.observeFault l) := by
  unfold State.observeFault
  split
  · exact forgetCall s
  · exact modObserver ..
  · exact modObserver ..
  all_goals exact refl s

theorem forgetFrame (s : State) : Notes z l s ((s.freeAssembling l).forgetCall l) :=
  (of_line (freeAssembling_line ..)).trans (forgetCall _)

theorem observeGap (s : State) : Notes z l s (s.observeGap l) := by
  unfold State.observeGap
  split
  · exact forgetCall s
  · exact observeUnmatchedEnd s
  · exact observeUnmatchedEnd s
  · exact forgetFrame s
  · exact forgetFrame s
  · exact refl s

theorem observeClosed (s : State) : Notes z l s (s.observeClosed l) := by
  unfold State.observeClosed
  split
  · exact observeUnmatchedEnd s
  · exact forgetFrame s
  all_goals exact refl s

theorem observerReport (s : State) (y : ReaderReport) : Notes z l s (s.observerReport l y) := by
  cases y with
  | start b => exact observeStart s b
  | startFraming | stray => exact refl s
  | control b => exact observeControl s b
  | length n => exact observeLength s n
  | payload n b => exact observePayload s n b
  | complete => exact observeComplete s
  | fault f =>
    cases f with
    | gap => exact observeGap s
    | framing | length | check => exact observeFault s
  | closed => exact observeClosed s

/-! #### The character -/

theorem deliver (s : State) (y : ReaderReport) (cleared : Broken y ∨ z) : Notes z l s (s.deliver l y) := by
  unfold State.deliver
  split
  · exact controllerReport s y cleared
  · exact controllerReport s y cleared
  · exact controllerReport s y cleared
  · exact observerReport s y
  · exact refl s

/-- What a character with a framing error leads to. -/
theorem broken_of_framing {r r' : Reader} {c : RxChar} {y : ReaderReport} {n : Nat} (framing : c.framing = true)
    (reads : r.char n c = (r', some y)) : Broken y := by
  have reported : (r.char n c).2 = some y := congrArg Prod.snd reads
  cases state : r.state with
  | hunt =>
    have hunted : (r.hunt n c).2 = some y := by rwa [Reader.char, state] at reported
    unfold Reader.hunt at hunted
    rw [framing] at hunted
    split at hunted
    · cases hunted
      trivial
    · cases hunted
      trivial
  | inFrame =>
    simp only [Reader.char, state, framing, Bool.true_or, if_true, Option.some.injEq] at reported
    rw [← reported]
    trivial
  | flush =>
    rw [Reader.char, state] at reported
    cases reported

theorem readChar (s : State) (c : RxChar) : Notes (c.framing = false) l s (s.readChar l c) := by
  unfold State.readChar
  dsimp only
  have read (r : Reader) : Notes (c.framing = false) l s (s.modReader l fun _ => r) := modLine s fun _ => rfl
  split
  · next y reported =>
    refine (read _).trans (deliver _ y ?_)
    cases framing : c.framing with
    | true => exact .inl (broken_of_framing framing (Prod.ext rfl reported))
    | false => exact .inr rfl
  · exact read _

theorem routeChar (s : State) (c : RxChar) : Notes (c.framing = false) l s (s.routeChar l c) := by
  have sent (f : Transmitter → Transmitter) : Notes (c.framing = false) l s (s.modTx l f) := modLine s fun _ => rfl
  unfold State.routeChar
  dsimp only
  split
  · exact sent _
  · exact (sent _).trans (readChar ..)

theorem settleWait (s : State) : Notes z l s (s.settleWait l) := by
  unfold State.settleWait
  dsimp only
  split
  · exact endAttempt s _ nofun
  · split
    · split
      · exact (modObserver s fun o => { o with waiting := false }).trans (forgetCall _)
      · exact modObserver s _
    · exact refl s

end Notes

end Sys2Proof.Proofs.OnePlace

/-! A character that is received goes to one place (R4 to R6, R11, R44, R48, R65). -/

namespace Sys2Proof.Proofs.CharacterPlaces

open Sys2Proof Sys2Proof.Machine Sys2Proof.Laws Sys2Proof.Proofs.Rows Sys2Proof.Proofs.Work Sys2Proof.Proofs.LineRows
open Sys2Proof.Proofs.SilentEnds Sys2Proof.Proofs.Characters Sys2Proof.Proofs.Foreign Sys2Proof.Proofs.OnePlace

section

variable {s : State} {l : Line} {c : CharSamples}

/-- What the receiver notes of a character, whatever is done with it. -/
theorem characterReceived_noted (on : (s.line l).role ≠ .off) (receiving : (s.line l).rx.state = .receiving)
    (starts : c.start.majority = false) : ∃ t, exec (.characterReceived l c) s = .next t ∧
      (t.line l).rx = ((s.line l).heard c).rx ∧ (t.line l).counters.noise = ((s.line l).heard c).counters.noise ∧
      (t.line l).silence = ((s.line l).heard c).silence := by
  let p := s.setLine l (echoHeard (s.line l) c)
  have line : p.line l = echoHeard (s.line l) c := line_setLine_self ..
  have notes : Notes (c.framing = false) l p ((p.routeChar l (rxChar c)).settleWait l) :=
    (Notes.routeChar p (rxChar c)).trans (Notes.settleWait _)
  refine ⟨_, exec_characterReceived on receiving starts, ?_, ?_, ?_⟩
  · exact notes.rx.trans ((congrArg LineEngine.rx line).trans rfl)
  · exact notes.noise.trans ((congrArg (·.counters.noise) line).trans rfl)
  · have heard : (p.line l).silence = ((s.line l).heard c).silence := (congrArg LineEngine.silence line).trans rfl
    obtain same | ⟨plain, zero⟩ := notes.silence
    · exact same.trans heard
    · refine zero.trans (Eq.symm ?_)
      unfold LineEngine.heard
      rw [plain]
      rfl

/-! ### The echo comparator (R6, R11) -/

/-- A line engine whose echo comparator has taken the character. -/
def compared (e : LineEngine) (c : CharSamples) : LineEngine :=
  { echoHeard e c with tx := e.tx.echo (rxChar c) }

theorem routeChar_echo
    (echo : (s.line l).tx.enable = true ∨ ((s.line l).tx.tail = true ∧ (s.line l).rx.afterRelease = false)) :
    (s.setLine l (echoHeard (s.line l) c)).routeChar l (rxChar c) = s.setLine l (compared (s.line l) c) := by
  have engine : (s.setLine l (echoHeard (s.line l) c)).line l = echoHeard (s.line l) c := line_setLine_self ..
  have listens : ((s.line l).tx.enable || ((s.line l).tx.tail && !(s.line l).rx.afterRelease)) = true := by
    obtain enable | ⟨tail, before⟩ := echo
    · simp [enable]
    · simp [tail, before]
  unfold State.routeChar
  rw [engine]
  refine (if_pos listens).trans ?_
  rw [State.modTx_eq, modLine_eq, engine, setLine_setLine]
  rfl

/-- A character for the echo comparator; an attempt that waited for it ends after it. -/
theorem exec_echo (on : (s.line l).role ≠ .off) (receiving : (s.line l).rx.state = .receiving)
    (starts : c.start.majority = false)
    (echo : (s.line l).tx.enable = true ∨ ((s.line l).tx.tail = true ∧ (s.line l).rx.afterRelease = false))
    (free : (s.line l).observer.waiting = false) :
    let waits := (s.line l).ctl.state = .await ∧ (s.line l).ctl.deciding = true
    (¬ waits → exec (.characterReceived l c) s = .next (s.setLine l (compared (s.line l) c)).driveIrq) ∧
    (waits → exec (.characterReceived l c) s =
      .next ((s.setLine l (compared (s.line l) c)).endAttempt l .timeout).driveIrq) := by
  intro waits
  have row : exec (.characterReceived l c) s = finish ((s.setLine l (compared (s.line l) c)).settleWait l) := by
    rw [exec_characterReceived on receiving starts, routeChar_echo echo]
  rw [row]
  refine ⟨fun calm => congrArg finish (settleWait_still (e := compared (s.line l) c) ?_ free),
    fun ⟨await, deciding⟩ => congrArg finish (settleWait_timeout (e := compared (s.line l) c) deciding await)⟩
  exact (Decidable.not_and_iff_or_not.mp calm).symm.imp_left (Bool.not_eq_true _).mp

theorem compared_listening {x : Echo} {rest : List Echo} (listens : (s.line l).tx.stop = none)
    (next : (s.line l).tx.echoes = x :: rest) :
    compared (s.line l) c = { echoHeard (s.line l) c with tx := { (s.line l).tx with
      echoes := rest
      stop := if c.byte = x.char.data ∧ c.markBit = x.char.mark ∧ c.framing = false then none else some .contention } } := by
  unfold compared
  refine congrArg (fun tx => { echoHeard (s.line l) c with tx := tx }) ?_
  generalize (s.line l).tx = tx at listens next
  obtain ⟨enable, pin, toSend, sending, timer, echoes, stop, tail⟩ := tx
  obtain rfl : stop = none := listens
  obtain rfl : echoes = x :: rest := next
  have agree : (decide (c.byte = x.char.data) && decide (c.markBit = x.char.mark) && !c.framing) = true ↔
      c.byte = x.char.data ∧ c.markBit = x.char.mark ∧ c.framing = false := by
    simp only [Bool.and_eq_true, decide_eq_true_eq, Bool.not_eq_true', and_assoc]
  by_cases matched : c.byte = x.char.data ∧ c.markBit = x.char.mark ∧ c.framing = false
  · rw [if_pos matched]
    exact if_pos (agree.mpr matched)
  · rw [if_neg matched]
    exact if_neg fun same => matched (agree.mp same)

theorem compared_deaf (deaf : (s.line l).tx.stop ≠ none ∨ (s.line l).tx.echoes = []) :
    compared (s.line l) c = echoHeard (s.line l) c := by
  have same : (s.line l).tx.echo (rxChar c) = (s.line l).tx := by
    unfold Transmitter.echo
    split
    · next listens next =>
      obtain stopped | empty := deaf
      · exact absurd listens stopped
      · rw [empty] at next
        cases next
    · rfl
    · rfl
  unfold compared
  rw [same]
  rfl

end

/-- Settles O45: by the bits of the samples, by what the receiver notes, and by the place the character goes to. -/
theorem characterGoesToOnePlace : Obligations.CharacterGoesToOnePlace := by
  unfold Obligations.CharacterGoesToOnePlace
  refine ⟨fun c => ⟨getLsbD_byte c, majority_eq _, congrArg (!·) (majority_eq _), noisy_char_iff c⟩, ?_⟩
  intro s l c on receiving starts e h kept waits gives echo
  refine ⟨characterReceived_noted on receiving starts, fun echoes free => ?echo, fun arrives master => ?controller⟩
  case echo =>
    have row := exec_echo on receiving starts echoes free
    refine ⟨fun x rest listens next => ?_, fun deaf => ?_⟩
    · rw [compared_listening listens next] at row
      exact row
    · rw [compared_deaf deaf] at row
      exact row
  case controller =>
    have mastering : (s.line l).role.mastering = true := by
      rw [show (s.line l).role = .master from master]
      rfl
    have still {r : Reader} {y : ReaderReport} {e' : LineEngine}
        (reads : (s.line l).reader.char (s.line l).params.gapLimit (rxChar c) = (r, some y))
        (answer : (charRead s l c r).controllerReport l y = s.setLine l e') (observer : e'.observer = h.observer)
        (moves : e'.ctl.state ≠ .await) : gives (s.setLine l e') := by
      change exec (.characterReceived l c) s = finish (s.setLine l e')
      rw [exec_controller mastering arrives reads, answer,
        settleWait_still (.inr moves) (by rw [observer]; exact arrives.2.2.2.2)]
    refine ⟨fun quiet hunts mark => ?quiet, fun send hunts => ⟨fun mark => ?stray, fun mark plain => ?start⟩,
      fun x await hunts inHand mark plain reply address => ?await⟩
    case quiet =>
      exact still (char_stray (e := s.line l) hunts mark)
        ((controllerReport_quiet (by exact quiet)).trans (countUnsolicited_setLine ..)) rfl (not_await_of_quiet quiet)
    case stray =>
      exact still (char_stray (e := s.line l) hunts mark) (controllerReport_kept (by exact send)) rfl
        (by rw [show _ = CtlState.send from send]; decide)
    case start =>
      exact still (char_start (e := s.line l) hunts mark plain) (controllerReport_kept (by exact send)) rfl
        (by rw [show _ = CtlState.send from send]; decide)
    case await =>
      refine still (char_start (e := s.line l) hunts mark plain) ((controllerReport_await (by exact await)).trans ?_) rfl nofun
      have called : addressOf c.byte = e.ctl.address := by
        unfold Controller.address
        rw [inHand]
        exact address
      have replies : isReply c.byte = true := reply
      refine Eq.trans (b := (s.setLine l { h with reader := e.opened c.byte }).modCtl l fun k => { k with state := .receive }) ?_
        (modCtl_setLine ..)
      unfold State.awaitReport
      dsimp only
      rw [if_neg (by simp [replies]), if_pos (by rw [line_setLine_self]; exact called)]

end Sys2Proof.Proofs.CharacterPlaces
